-- ==== Sys2Proof/Word.lean ====
section
/-! DEFINITION. The words of the FC740: the widths that its records, frames and registers are made of. -/

namespace Sys2Proof

/-- One byte of a link frame, of a drive-bus record or of the EEPROM image. -/
abbrev Byte := BitVec 8

/-- A 16-bit word: a heading in hu (0 … 65535, wrapping), a segment tag, a CRC-16. -/
abbrev Half := BitVec 16

/-- A 32-bit word: a setpoint, an actual, a parameter value, four bytes of the machine label. -/
abbrev Word := BitVec 32

end Sys2Proof
end

