-- ==== Sys2Proof/Syntax.lean ====
section
/-! DEFINITION. The commands the FC740 takes: one constructor for each row of spec/opcode_table.json. -/

namespace Sys2Proof

/-- A command: an operation or event of the FC740. The first 29 rows and the last one are events of time, pins,
drives, sensors and lines; the 21 rows from `ident` to `reset` are the requests of the host (R172), each with
the TAG of its frame (R164) and its body fields (R177, R178). -/
inductive Instr where
  /-- POWER_ON_RESET (R191): the supply rises, with the levels of the LRATE and SAFE_N straps (true is high). -/
  | powerOnReset (lrateHigh safeNHigh : Bool)
  /-- LINE_RESET (R191): RESET_N is driven low. -/
  | lineReset
  /-- LINE_RESET_RELEASE (R191): RESET_N is released. -/
  | lineResetRelease
  /-- SETTINGS_LOAD (R190): the read transfer of the settings load ends. `acked` is how many of the four bytes the
  FC740 sends the EEPROM acknowledged before the first it did not (4: all of them); `image` is the 230 bytes read. -/
  | settingsLoad (acked : Nat) (image : List Byte)
  /-- FRAME_BEGIN (R127). -/
  | frameBegin
  /-- DWELL_EXPIRY (R62): the dwell count reaches the stored duration. -/
  | dwellExpiry
  /-- STARVE_TIMER_EXPIRY (R85): the starve timer reaches 0. -/
  | starveTimerExpiry
  /-- RETURN_WINDOW_CLOSE (R131): the open return window closes. -/
  | returnWindowClose
  /-- DRIVE_RETURN (R132): the sixth byte of a return arrives; the record's status byte, actual and CRC byte (R142). -/
  | driveReturn (status : Byte) (actual : Word) (crc : Byte)
  /-- START_TIMER_EXPIRY (R94): the stroke start timer reaches 0. -/
  | startTimerExpiry
  /-- STOP_TIMER_EXPIRY (R95): the stroke stop timer reaches 0. -/
  | stopTimerExpiry
  /-- SIDX_PULSE (R101): a stroke index pulse, with the `cycles` cycles of the 10 MHz reference that have passed and that the
  model has not yet counted into P (R102). -/
  | sidxPulse (cycles : Nat)
  /-- LFQ_PULSE (R102): a load-line pulse. -/
  | lfqPulse
  /-- WINDOW_OVERFLOW (R105): P reaches 2^24. -/
  | windowOverflow
  /-- INPUT_LINE_CHANGE (R147): pin IN0 … IN7 takes a level (true is high): the level it shows at the end of a cycle of the reference. A
  pin that changes twice within one cycle gives one command or none (notes/assumptions/25.md). -/
  | inputLineChange (input : Fin 8) (high : Bool)
  /-- DEBOUNCE_EXPIRY (R148): the debounce timer of an input reaches the debounce time. -/
  | debounceExpiry (input : Fin 8)
  /-- LEVEL_RISE_HOLD (R80): the sequencer takes a rise of the trip level to HOLD. -/
  | levelRiseHold
  /-- LEVEL_RISE_HALT (R81): the sequencer takes a rise of the trip level to HALT. -/
  | levelRiseHalt
  /-- LEVEL_RISE_QUICK_STOP (R82): the sequencer takes a rise of the trip level to QUICK_STOP. -/
  | levelRiseQuickStop
  /-- LEVEL_FALL (R84): the sequencer takes a fall of the trip level. -/
  | levelFall
  /-- BUS_LEVEL_CHANGE (R154): the drive bus master takes a change of the trip level. -/
  | busLevelChange
  /-- FRAME_RECEIVED (R167): the second CRC byte of a frame arrives. -/
  | frameReceived (crcLow : Byte)
  /-- LENGTH_BYTE_REFUSED (R165): a LEN byte outside 2 … 250 arrives. -/
  | lengthByteRefused (len : Byte)
  /-- GAP_TIMEOUT (R166): more than 2 ms pass between bytes of a frame. -/
  | gapTimeout
  /-- TRANSMIT_END (R170): the transmitter sends the last byte of a frame. -/
  | transmitEnd
  /-- BLINK_TOGGLE (R160): the blink clock passes 500 or wraps to 0. -/
  | blinkToggle
  /-- SAVE_PAGE_WRITTEN (R189): the EEPROM acknowledges a poll within 10 ms. -/
  | savePageWritten
  /-- SAVE_POLL_TIMEOUT (R189): no poll is acknowledged within 10 ms. -/
  | savePollTimeout
  /-- SAVE_BYTE_REFUSED (R189): a byte of a page write is not acknowledged. -/
  | saveByteRefused
  /-- IDENT (R174). -/
  | ident (tag : Byte)
  /-- STATUS (R173). -/
  | status (tag : Byte)
  /-- SEGMENTS (R22): the body holds segment records placed end to end (R177). -/
  | segments (tag : Byte) (body : List Byte)
  /-- START (R74). -/
  | start (tag : Byte)
  /-- HOLD (R75). -/
  | hold (tag : Byte)
  /-- RESUME (R76). -/
  | resume (tag : Byte)
  /-- CANCEL (R77). -/
  | cancel (tag : Byte)
  /-- RECOVER (R78). -/
  | recover (tag : Byte)
  /-- OVERRIDE (R43). -/
  | override (tag : Byte) (value : Byte)
  /-- SET_PARAM (R186). -/
  | setParam (tag : Byte) (number : Byte) (value : Word)
  /-- GET_PARAM (R186). -/
  | getParam (tag : Byte) (number : Byte)
  /-- SET_BAND (R115). -/
  | setBand (tag : Byte) (index : Byte) (ceiling bite frequency feedCap : Half)
  /-- GET_BAND (R116). -/
  | getBand (tag : Byte) (index : Byte)
  /-- SET_TRIP (R155). -/
  | setTrip (tag : Byte) (source action polarity debounce : Byte)
  /-- GET_TRIPS (R156). -/
  | getTrips (tag : Byte)
  /-- CLEAR_TRIPS (R157). -/
  | clearTrips (tag : Byte)
  /-- TARE (R107). -/
  | tare (tag : Byte)
  /-- NOTICE_MASK (R182). -/
  | noticeMask (tag : Byte) (enables : Byte)
  /-- LAMPS (R160). -/
  | lamps (tag : Byte) (green amber red : Byte)
  /-- SAVE (R188). -/
  | save (tag : Byte)
  /-- RESET (R175). -/
  | reset (tag : Byte)
  /-- LINK_BYTE_RECEIVED (R165): the link receiver takes a byte. -/
  | linkByteReceived (byte : Byte)
  deriving DecidableEq, Repr

end Sys2Proof
end

