-- ==== Sys2Proof/Config.lean ====
section
/-! DEFINITION. The free values: what the data book leaves open. Each is a constant without a body, so that no
proof can rest on its value. -/

namespace Sys2Proof

/-- FREE VALUE (notes/assumptions/2.md; DESIGN CHOICE). The end direction of an arc whose end point is its centre, as a
vector: R9 gives the end direction as the direction from the centre to the end point, which has none there, and R10
refuses such an arc in no part of check 8 when r ≤ ARC_TOL. Applied to the count of free values drawn so far. -/
opaque Config.endDirectionAtCentre : Nat → Int × Int

/-- FREE VALUE (notes/assumptions/1.md; DESIGN CHOICE). Which of two neighbouring integers an exact irrational figure is
rounded to when the figure, computed to 2^-256, lies within 2^-192 of the boundary between them. Applied to the figure. -/
opaque Config.roundsUp : Nat → Bool

end Sys2Proof
end

