-- ==== Sys2Proof/Machine/Types.lean ====
section
/-! DEFINITION. The state that each of the eleven blocks owns, as plain data: one structure per block, each field
named as the block's state table names it. -/

namespace Sys2Proof.Machine

/-! ## Names -/

/-- The four slots of a drive frame, in frame order (R127). -/
inductive Slot where | x | y | h | s
  deriving DecidableEq, Repr

/-- The eleven engine states (R67). -/
inductive Engine where
  | idle | running | pivoting | dwelling | starved | holding | held | halting | halted | cancelling | aborted
  deriving DecidableEq, Repr

/-- The trip level (R144). -/
inductive TripLevel where | none | hold | halt | quickStop
  deriving DecidableEq, Repr

/-- The action of a trip source (R144). -/
inductive Action where | ignore | report | hold | halt | quickStop
  deriving DecidableEq, Repr

/-- The state of a trip source (R149). -/
inductive SourceState where | clear | active | latched
  deriving DecidableEq, Repr

/-- The polarity of an input source (R147). -/
inductive Polarity where | activeHigh | activeLow
  deriving DecidableEq, Repr

/-- The setting of a lamp (R160). -/
inductive LampSetting where | off | on | blink
  deriving DecidableEq, Repr

/-- The cause of a change of engine state (R87): REQUEST, TRIP, END, STARVE, DRAINED. -/
inductive Cause where | request | trip | ending | starve | drained
  deriving DecidableEq, Repr

/-- The stroke states (R89). -/
inductive StrokeState where | stopped | starting | running | stalled | stopping
  deriving DecidableEq, Repr

/-- The tare states (R89). -/
inductive TareState where | idle | waiting | measuring | doneOk | failed
  deriving DecidableEq, Repr

/-- The store states (R188). -/
inductive StoreState where | idle | saving | doneOk | failed
  deriving DecidableEq, Repr

/-- The settings sources (R190). -/
inductive SettingsSource where | stored | defaultAbsent | defaultBadCheck | defaultBadData | defaultSafe
  deriving DecidableEq, Repr

/-- The seven notice classes (R181), in class order. -/
inductive NoticeClass where | trip | engineState | segmentDone | queueLow | band | tareDone | storeDone
  deriving DecidableEq, Repr

/-- The result of a tare or of a save as a notice carries it (R176). -/
inductive NoticeResult where | ok | failed
  deriving DecidableEq, Repr

/-- A level change as the trip unit hands it on (R154): the level before and the level after. -/
structure LevelChange where
  before : TripLevel
  after : TripLevel
  deriving DecidableEq, Repr

/-! ## The cut queue (R1 to R23) -/

/-- The junction kinds (R13). -/
inductive Junction where | blend | pivot
  deriving DecidableEq, Repr

/-- The stored geometry of an arc (R9, R16): centre, radius r, sweep direction and sweep (radians, scaled by 2^256). -/
structure ArcGeometry where
  centreX : Int
  centreY : Int
  radius : Nat
  ccw : Bool
  sweep : Nat
  deriving DecidableEq, Repr

/-- The path of a moving segment. -/
inductive Path where
  | line
  | arc (g : ArcGeometry)
  deriving DecidableEq, Repr

/-- What the stored record of a moving segment holds beside kind, tag and flags (R16). -/
structure Moving where
  path : Path
  startX : Int
  startY : Int
  endX : Int
  endY : Int
  /-- resolved feed, 0.1 mm/s (R14) -/
  feed : Nat
  /-- length L, µm (R11) -/
  length : Nat
  entryHeading : Half
  exitHeading : Half
  /-- entry turn Δ, hu, −32768 … +32767 (R13) -/
  turn : Int
  junction : Junction
  /-- planning cap, µm/s (R15) -/
  cap : Nat
  deriving DecidableEq, Repr

/-- The kind of a stored record with the fields that the kind holds (R16). -/
inductive RecordBody where
  | moving (m : Moving)
  | dwell (duration : Nat)
  | programEnd
  deriving DecidableEq, Repr

/-- A stored record (R16). -/
structure Record where
  tag : Half
  material : Bool
  report : Bool
  body : RecordBody
  deriving DecidableEq, Repr

/-- The tail (R4). -/
structure Tail where
  x : Int
  y : Int
  heading : Half
  /-- 0.1 mm/s -/
  feed : Nat
  deriving DecidableEq, Repr

structure CutQueue where
  /-- the records, head first -/
  records : List Record
  tail : Tail
  deriving DecidableEq, Repr

/-! ## The interpolator (R49) -/

/-- The turn record of a pivot in progress (R49). -/
structure Turn where
  ccw : Bool
  /-- hu still to turn, 1 … 32768 -/
  remaining : Nat
  deriving DecidableEq, Repr

structure Interpolator where
  /-- commanded X, µm -/
  x : Int
  /-- commanded Y, µm -/
  y : Int
  /-- commanded H, hu -/
  heading : Half
  /-- feed, µm/s -/
  feed : Nat
  /-- path progress of the head record, nm -/
  progress : Nat
  turn : Option Turn
  /-- the turn-made marker reads "pending" -/
  turnPending : Bool
  deriving DecidableEq, Repr

/-! ## The cut sequencer (R67) -/

/-- What the resume memory can hold when present (R73). -/
inductive Resume where | running | dwelling | starved
  deriving DecidableEq, Repr

inductive StarveTimer where
  | stopped
  | running (remaining : Nat)
  | expired
  deriving DecidableEq, Repr

/-- The interrupted report (R83): the tag and the distance in µm, absent together, and the commanded position. -/
structure Interrupted where
  active : Option (Half × Nat)
  x : Int
  y : Int
  deriving DecidableEq, Repr

structure Sequencer where
  engine : Engine
  resume : Option Resume
  dwellCount : Nat
  starve : StarveTimer
  interrupted : Option Interrupted
  /-- level changes handed on by the trip unit and not yet taken by the sequencer, oldest first (R154) -/
  changes : List LevelChange
  deriving DecidableEq, Repr

/-! ## The stroke unit (R89, R101) -/

/-- An OPEN measurement window (R101). -/
structure Window where
  w : Nat
  pulses : Nat
  /-- reference cycles P -/
  p : Nat
  /-- LFQ pulses C -/
  c : Nat
  /-- nm -/
  distance : Nat
  frameSeen : Bool
  material : Bool
  runningAtOpening : Bool
  deriving DecidableEq, Repr

/-- The tare record (R89). `windowCounts` tells whether the open window opened at or after the entry into MEASURING
(R108). -/
structure Tare where
  owner : Bool
  count : Nat
  sum : Nat
  windowCounts : Bool
  deriving DecidableEq, Repr

structure StrokeUnit where
  state : StrokeState
  fSet : Nat
  /-- remaining ms, absent when stopped -/
  startTimer : Option Nat
  stopTimer : Option Nat
  good : Nat
  slow : Nat
  stall : Bool
  /-- absent when WAITING -/
  window : Option Window
  fm : Nat
  lf : Nat
  tareState : TareState
  tare : Option Tare
  deriving DecidableEq, Repr

/-! ## The density classifier (R113, R114) -/

structure BandEntry where
  ceiling : Nat
  bite : Nat
  frequency : Nat
  feedCap : Nat
  deriving DecidableEq, Repr

structure Classifier where
  bands : Vector BandEntry 8
  material : Fin 8
  candidate : Option (Fin 8)
  df : Nat
  overload : Bool
  deriving DecidableEq, Repr

/-! ## The drive bus master (R140) -/

/-- The setpoint value and enable flag of a setpoint record sent (R129). -/
structure SentRecord where
  value : Int
  enable : Bool
  deriving DecidableEq, Repr

structure SlotState where
  active : Bool
  misses : Nat
  actual : Option Int
  lost : Bool
  fault : Bool
  following : Bool
  adopted : Bool
  /-- the setpoint value fixed at the present frame's begin (R129) -/
  setpoint : Int
  sentNow : Option SentRecord
  sentBefore : Option SentRecord
  deriving DecidableEq, Repr

/-- The return window that is open (R131), and whether its return has been taken. -/
structure ReturnWindow where
  slot : Slot
  answered : Bool
  deriving DecidableEq, Repr

/-- The first return window of a bus that a host RESET has restarted while a return of the old frame could still come (R141): it
opens at the end of the setpoint record (R127), `cycles` of the reference from now. -/
structure OpeningWindow where
  slot : Slot
  cycles : Nat
  deriving DecidableEq, Repr

structure Bus where
  /-- bus start has been made (R140) -/
  started : Bool
  frameCount : Byte
  /-- the master's copy of the trip level -/
  level : TripLevel
  x : SlotState
  y : SlotState
  h : SlotState
  s : SlotState
  window : Option ReturnWindow
  /-- the first window after a host RESET, not yet open (R141; notes/assumptions/26.md) -/
  opening : Option OpeningWindow
  /-- the bytes the master has sent in the present frame (R127, R142) -/
  line : List Byte
  /-- level changes handed on by the trip unit and not yet taken by the master, oldest first (R154) -/
  changes : List LevelChange
  deriving DecidableEq, Repr

/-! ## The trip unit (R144) -/

structure Source where
  action : Action
  condition : Bool
  state : SourceState
  count : Nat
  deriving DecidableEq, Repr

structure Input where
  polarity : Polarity
  /-- debounce time, ms -/
  debounce : Nat
  /-- line state: active -/
  line : Bool
  /-- elapsed time of the debounce timer in reference cycles, absent when stopped -/
  timer : Option Nat
  deriving DecidableEq, Repr

structure TripUnit where
  sources : Vector Source 15
  inputs : Vector Input 8
  /-- slot set of source 13 -/
  faultSet : BitVec 4
  /-- slot set of source 14 -/
  lostSet : BitVec 4
  level : TripLevel
  green : LampSetting
  amber : LampSetting
  red : LampSetting
  /-- the blink clock in reference cycles, 0 … 9,999,999: 10,000 to the millisecond -/
  blink : Nat
  deriving DecidableEq, Repr

/-! ## The link port (R162) -/

/-- A request frame of good CRC: KIND, TAG and body (R164). -/
structure Request where
  kind : Byte
  tag : Byte
  body : List Byte
  deriving DecidableEq, Repr

/-- The receiver with the frame being received (R162, R165). -/
inductive Receiver where
  | disabled
  | hunt
  | length
  | payload (len : Byte) (bytes : List Byte)
  | crc (len : Byte) (bytes : List Byte) (first : Option Byte)
  deriving DecidableEq, Repr

/-- The transmitter: free, or sending the reply in the reply slot or a notice (R162, R170), with the frame's bytes. -/
inductive Transmitter where
  | free
  | reply (frame : List Byte)
  | notice (frame : List Byte)
  deriving DecidableEq, Repr

structure Link where
  /-- line rate 921,600 bit/s; else 115,200 -/
  fast : Bool
  receiver : Receiver
  /-- reference cycles since the last byte of the frame being received (R166) -/
  gap : Nat
  inbox : List Request
  /-- the reply slot -/
  reply : Option (List Byte)
  transmitter : Transmitter
  /-- the notice sequence count -/
  sequence : Byte
  lengthCount : Nat
  gapCount : Nat
  crcCount : Nat
  inboxCount : Nat
  /-- the reply in the slot is that of an accepted RESET (R175) -/
  resetPending : Bool
  deriving DecidableEq, Repr

/-! ## The notice unit (R180, R181) -/

/-- A pending record: the class content and the coalesced count. -/
structure Pending (α : Type) where
  content : α
  count : Nat
  deriving DecidableEq, Repr

structure TripContent where
  source : Fin 15
  state : SourceState
  level : TripLevel
  slots : Option (BitVec 4)
  deriving DecidableEq, Repr

structure EngineContent where
  new : Engine
  previous : Engine
  cause : Cause
  interrupted : Option Interrupted
  deriving DecidableEq, Repr

structure QueueLowContent where
  count : Nat
  credit : Nat
  deriving DecidableEq, Repr

structure BandContent where
  new : Fin 8
  previous : Fin 8
  df : Nat
  deriving DecidableEq, Repr

structure TareContent where
  result : NoticeResult
  figure : Nat
  deriving DecidableEq, Repr

structure NoticeUnit where
  trip : Option (Pending TripContent)
  engineState : Option (Pending EngineContent)
  segmentDone : Option (Pending Half)
  queueLow : Option (Pending QueueLowContent)
  band : Option (Pending BandContent)
  tareDone : Option (Pending TareContent)
  storeDone : Option (Pending NoticeResult)
  /-- the class enables: bit n for class n -/
  enables : BitVec 7
  lastSent : NoticeClass
  deriving DecidableEq, Repr

/-! ## The settings store (R185, R188) -/

/-- The parameter table with the machine label (R185). -/
structure Params where
  softXMin : Int
  softXMax : Int
  softYMin : Int
  softYMax : Int
  maxCutFeed : Nat
  maxAirFeed : Nat
  defaultFeed : Nat
  rampStep : Nat
  turnRate : Nat
  blendAngle : Nat
  pivotLimit : Nat
  pivotRate : Nat
  minRadius : Nat
  arcTol : Nat
  followLimitXY : Nat
  followLimitH : Nat
  windowExp : Nat
  overloadCeiling : Nat
  classFloor : Nat
  entryBand : Fin 8
  airFreq : Nat
  strokeStartTimeout : Nat
  strokeStopTimeout : Nat
  starveTimeout : Nat
  queueLowMark : Nat
  slotMask : BitVec 4
  /-- NOTICE_ARB is ROTATING; else FIXED -/
  rotating : Bool
  airFigure : Nat
  label0 : Word
  label1 : Word
  label2 : Word
  label3 : Word
  deriving DecidableEq, Repr

/-- A save in flight: the snapshot as an image and the page being written (R188, R189). -/
structure Save where
  image : List Byte
  page : Nat
  deriving DecidableEq, Repr

structure Settings where
  params : Params
  source : SettingsSource
  /-- the EEPROM present flag (R174, R190) -/
  present : Bool
  store : StoreState
  save : Option Save
  deriving DecidableEq, Repr

/-! ## Start-up and pins (R191, 11.4) -/

/-- Where start-up stands: RESET_N low; the settings load running (step 2); started (steps 3 and 4 done). -/
inductive Phase where | held | loading | started
  deriving DecidableEq, Repr

structure Startup where
  phase : Phase
  /-- the LRATE strap as sampled at the last POR: high -/
  lrateHigh : Bool
  /-- the SAFE_N strap as sampled at the last POR: high -/
  safeNHigh : Bool
  deriving DecidableEq, Repr

/-- What the FC740 puts on the two-wire line, item by item (R187, R189, R190). The device address is 0x50; it is named, with its
direction, and not coded into a byte. -/
inductive WireItem where
  | start
  | stop
  /-- the device address for writing -/
  | addressWrite
  /-- the device address for reading -/
  | addressRead
  /-- a byte that the FC740 sends -/
  | sent (b : Byte)
  /-- bytes received, each acknowledged but the last -/
  | received (count : Nat)
  deriving DecidableEq, Repr

/-- The outputs that stand between events: the lamps (R160), ATTN (R184) and LDE (R162). -/
structure Outputs where
  lgrn : Bool
  lamb : Bool
  lred : Bool
  attn : Bool
  lde : Bool
  deriving DecidableEq, Repr

end Sys2Proof.Machine
end

