-- ==== Sys2Proof/Machine/Rom.lean ====
section
/-! DEFINITION. The ROM defaults of the working set (R114, R145, R185) and what each block holds after a reset. -/

namespace Sys2Proof.Machine

/-- The ROM defaults of the parameters (R185). -/
def Params.rom : Params where
  softXMin := 0
  softXMax := 3200000
  softYMin := 0
  softYMax := 2100000
  maxCutFeed := 2500
  maxAirFeed := 4000
  defaultFeed := 1000
  rampStep := 1500
  turnRate := 400
  blendAngle := 364
  pivotLimit := 16384
  pivotRate := 22
  minRadius := 2000
  arcTol := 20
  followLimitXY := 2000
  followLimitH := 182
  windowExp := 3
  overloadCeiling := 1800
  classFloor := 100
  entryBand := 7
  airFreq := 500
  strokeStartTimeout := 1500
  strokeStopTimeout := 2000
  starveTimeout := 5000
  queueLowMark := 16
  slotMask := 15
  rotating := false
  airFigure := 0
  label0 := 0x20202020
  label1 := 0x20202020
  label2 := 0x20202020
  label3 := 0x20202020

/-- The ROM defaults of the band table (R114). -/
def romBands : Vector BandEntry 8 := #v[
  ⟨120, 2400, 600, 3000⟩, ⟨200, 2000, 650, 2800⟩, ⟨300, 1600, 700, 2500⟩, ⟨420, 1300, 750, 2200⟩,
  ⟨560, 1000, 800, 1800⟩, ⟨740, 800, 850, 1500⟩, ⟨1000, 600, 900, 1200⟩, ⟨65535, 400, 950, 800⟩]

/-- A source after a reset, with the action it has (R144). -/
def Source.fresh (a : Action) : Source := ⟨a, false, .clear, 0⟩

/-- The default actions of the fifteen sources (R145). -/
def romActions : Vector Action 15 := #v[
  .quickStop, .ignore, .ignore, .ignore, .ignore, .ignore, .ignore, .ignore,
  .halt, .halt, .quickStop, .quickStop, .quickStop, .quickStop, .quickStop]

/-- The sources after a reset under the default actions (R144, R145). -/
def romSources : Vector Source 15 := romActions.map Source.fresh

/-- An input after a reset, before its line is first derived (R144, R148). DESIGN CHOICE (notes/assumptions/28.md): its line state
stands inactive until then, which the book does not say. -/
def Input.fresh (p : Polarity) (debounce : Nat) : Input := ⟨p, debounce, false, none⟩

/-- The inputs under the default polarity and debounce time (R145). -/
def romInputs : Vector Input 8 := Vector.replicate 8 (Input.fresh .activeLow 10)

/-! ## What each block holds after a reset -/

/-- The cut queue after any reset (R5, R17), with the working value of DEFAULT_FEED. -/
def CutQueue.reset (p : Params) : CutQueue := ⟨[], ⟨0, 0, 0, p.defaultFeed⟩⟩

/-- The interpolator after any reset (R49). -/
def Interpolator.reset : Interpolator := ⟨0, 0, 0, 0, 0, none, false⟩

/-- The cut sequencer after any reset (R67). -/
def Sequencer.reset : Sequencer := ⟨.idle, none, 0, .stopped, none, []⟩

/-- The stroke unit after any reset (R89), with the working value of AIR_FREQ. -/
def StrokeUnit.reset (p : Params) : StrokeUnit :=
  ⟨.stopped, p.airFreq, none, none, 0, 0, false, none, 0, 0, .idle, none⟩

/-- The classifier after a reset (R113) with the band table `b`. -/
def Classifier.reset (p : Params) (b : Vector BandEntry 8) : Classifier := ⟨b, p.entryBand, none, 0, false⟩

/-- A slot at bus start (R140). -/
def SlotState.reset (active : Bool) : SlotState :=
  ⟨active, 0, none, false, false, false, false, 0, none, none⟩

/-- The drive bus master before bus start: no frames, no activity (R140). -/
def Bus.silent : Bus :=
  ⟨false, 255, .none, SlotState.reset false, SlotState.reset false, SlotState.reset false, SlotState.reset false,
    none, none, [], []⟩

/-- The trip unit after a reset that keeps its configuration: sources CLEAR, level NONE, lamps OFF (R144). -/
def TripUnit.reset (t : TripUnit) : TripUnit where
  sources := t.sources.map fun src => Source.fresh src.action
  inputs := t.inputs.map fun i => Input.fresh i.polarity i.debounce
  faultSet := 0
  lostSet := 0
  level := .none
  green := .off
  amber := .off
  red := .off
  blink := 0

/-- The trip unit after a reset with the default configuration (R145). -/
def TripUnit.rom : TripUnit := ⟨romSources, romInputs, 0, 0, .none, .off, .off, .off, 0⟩

/-- The link port after POR, with the line rate of the LRATE strap (R162). -/
def Link.reset (fast : Bool) : Link := ⟨fast, .disabled, 0, [], none, .free, 0, 0, 0, 0, 0, false⟩

/-- The notice unit after POR or LINE: TRIP and ENGINE_STATE enabled (R180). -/
def NoticeUnit.reset : NoticeUnit := ⟨none, none, none, none, none, none, none, 3, .trip⟩

/-- The settings store after POR, before the settings load (notes/assumptions/4.md): the ROM defaults stand in the
working set until the load fills it. DESIGN CHOICE. -/
def Settings.reset : Settings := ⟨Params.rom, .defaultAbsent, false, .idle, none⟩

/-- The read transfer of the settings load (R190): the four bytes the FC740 sends are the device address for writing, the 2-byte
address 0 and the device address for reading. -/
def readTransfer : List WireItem :=
  [.start, .addressWrite, .sent 0, .sent 0, .start, .addressRead, .received 230, .stop]

end Sys2Proof.Machine
end

