-- ==== Sys2Proof/Machine/State.lean ====
section
/-! DEFINITION. The state of the FC740: what each block owns, the input pins, the outputs, and the queue of commands
that wait. Plain data throughout. -/

namespace Sys2Proof.Machine

structure State where
  /-- the commands that wait, first in first out -/
  pending : List Instr
  startup : Startup
  /-- the levels of the input pins IN0 … IN7: high -/
  pins : Vector Bool 8
  queue : CutQueue
  /-- the override, %: the planner's only stored value (R24) -/
  override : Nat
  interp : Interpolator
  seq : Sequencer
  stroke : StrokeUnit
  classifier : Classifier
  bus : Bus
  trip : TripUnit
  link : Link
  notice : NoticeUnit
  settings : Settings
  outputs : Outputs
  /-- the MODEL's own: how often a choice has released ATTN (R184; notes/assumptions/19.md) -/
  attnFalls : Nat
  /-- the transfers under way on the two-wire line, in order: what the FC740 sends the EEPROM (R189, R190) -/
  twoWire : List WireItem
  /-- the MODEL's own: how many free values have been drawn (notes/assumptions/1.md, 2.md) -/
  draws : Nat
  deriving DecidableEq, Repr

/-- Why the block would stop with a fault. The data book describes no event at which the FC740 stops: every request that
cannot be met has a reason code and every event has an effect or none, so no meaning raises one. -/
inductive Fault where
  /-- Raised by no meaning: it stands for a stop that the data book does not describe. Safe: a model that never raises
  it never stops where the part goes on. -/
  | notInTheDataBook
  deriving DecidableEq, Repr

/-- Why a command is turned away unmodelled. -/
inductive Refusal where
  /-- Raised only by an arm of exec whose command has no meaning yet; no arm does. Safe. -/
  | notModelled (mnemonic : String)
  deriving DecidableEq, Repr

/-- The machine right after POR (R191): every block at its reset values, LRATE and SAFE_N sampled, start-up at step 2,
where the settings load runs and its read transfer is on the two-wire line; the link receiver disabled and the bus silent until it ends (R140, R162).
DESIGN CHOICE (notes/assumptions/3.md, 4.md): both straps and the pins IN0 … IN7 high, and the working set at the ROM
defaults until the load fills it. -/
def State.reset : State where
  pending := []
  startup := ⟨.loading, true, true⟩
  pins := Vector.replicate 8 true
  queue := CutQueue.reset Params.rom
  override := 100
  interp := Interpolator.reset
  seq := Sequencer.reset
  stroke := StrokeUnit.reset Params.rom
  classifier := Classifier.reset Params.rom romBands
  bus := Bus.silent
  trip := TripUnit.rom
  link := Link.reset true
  notice := NoticeUnit.reset
  settings := Settings.reset
  outputs := ⟨false, false, false, false, false⟩
  attnFalls := 0
  twoWire := readTransfer
  draws := 0

end Sys2Proof.Machine
end

