-- ==== Sys2Proof/Machine/Ops.lean ====
section
/-! DEFINITION. The shared operations: one update per block of the state, big-endian bytes, the two CRCs, saturating counts,
clamping and the exact floor root. -/

namespace Sys2Proof.Machine

/-! ## One update per block ("each block owns its own state") -/

def State.setStartup (s : State) (v : Startup) : State := { s with startup := v }
def State.setPins (s : State) (v : Vector Bool 8) : State := { s with pins := v }
def State.setQueue (s : State) (v : CutQueue) : State := { s with queue := v }
def State.setOverride (s : State) (v : Nat) : State := { s with override := v }
def State.setInterp (s : State) (v : Interpolator) : State := { s with interp := v }
def State.setSeq (s : State) (v : Sequencer) : State := { s with seq := v }
def State.setStroke (s : State) (v : StrokeUnit) : State := { s with stroke := v }
def State.setClassifier (s : State) (v : Classifier) : State := { s with classifier := v }
def State.setBus (s : State) (v : Bus) : State := { s with bus := v }
def State.setTrip (s : State) (v : TripUnit) : State := { s with trip := v }
def State.setLink (s : State) (v : Link) : State := { s with link := v }
def State.setNotice (s : State) (v : NoticeUnit) : State := { s with notice := v }
def State.setSettings (s : State) (v : Settings) : State := { s with settings := v }
def State.setOutputs (s : State) (v : Outputs) : State := { s with outputs := v }
def State.setAttnFalls (s : State) (v : Nat) : State := { s with attnFalls := v }
def State.setTwoWire (s : State) (v : List WireItem) : State := { s with twoWire := v }
def State.setDraws (s : State) (v : Nat) : State := { s with draws := v }

/-- The working parameter table. -/
abbrev State.params (s : State) : Params := s.settings.params

/-! ## Numbers -/

/-- A value brought to the nearest end of its range ("clamped" in the terms). -/
def clampInt (lo hi v : Int) : Int := max lo (min v hi)

/-- The same for whole numbers from 0 up. -/
def clampNat (lo hi v : Nat) : Nat := max lo (min v hi)

/-- A count raised by 1, saturating ("Saturating at n"). -/
def saturate (top n : Nat) : Nat := min (n + 1) top

/-- Division rounded toward plus infinity ("Ceiling"). -/
def ceilDiv (a b : Nat) : Nat := (a + (b - 1)) / b

/-- One binary digit of the floor root at a time: `r` is the root so far. -/
def isqrtFrom : Nat → Nat → Nat → Nat
  | 0, _, r => r
  | k + 1, n, r =>
    if (r + 2 ^ k) * (r + 2 ^ k) ≤ n then isqrtFrom k n (r + 2 ^ k) else isqrtFrom k n r

/-- "A square root is the exact integer floor root of its operand." -/
def isqrt (n : Nat) : Nat := isqrtFrom (n.log2 / 2 + 1) n 0

/-! ## Bytes, most significant first (R142, R163) -/

/-- A figure as one byte. -/
def byte (n : Nat) : Byte := BitVec.ofNat 8 n

/-- A figure as two bytes. -/
def be16 (n : Nat) : List Byte := [byte (n / 256), byte n]

/-- A 32-bit word as four bytes. -/
def beWord (w : Word) : List Byte :=
  [byte (w.toNat / 16777216), byte (w.toNat / 65536), byte (w.toNat / 256), byte w.toNat]

/-- A signed figure as four bytes, two's complement. -/
def be32 (v : Int) : List Byte := beWord (BitVec.ofInt 32 v)

/-- The number that bytes spell, most significant first. -/
def readBE (bs : List Byte) : Nat := bs.foldl (fun acc b => acc * 256 + b.toNat) 0

/-- The `n` bytes at an offset of a body, as a number. -/
def readNat (bs : List Byte) (off n : Nat) : Nat := readBE ((bs.drop off).take n)

/-- Four bytes at an offset as a signed number. -/
def readInt (bs : List Byte) (off : Nat) : Int := (BitVec.ofNat 32 (readNat bs off 4)).toInt

/-- One byte at an offset; past the end, 0. -/
def readByte (bs : List Byte) (off : Nat) : Byte := bs.getD off 0

/-! ## The cyclic redundancy checks -/

/-- `n` bits of the CRC-8 division by x⁸ + x² + x + 1 (R143). -/
def crc8Bits : Nat → Byte → Byte
  | 0, c => c
  | n + 1, c => crc8Bits n (if c.msb then (c <<< (1 : Nat)) ^^^ 0x07#8 else c <<< (1 : Nat))

/-- The CRC-8 of the drive bus (R143): initial value 0, no reflection, no final inversion. -/
def crc8 (bs : List Byte) : Byte := bs.foldl (fun c b => crc8Bits 8 (c ^^^ b)) 0x00#8

/-- `n` bits of the CRC-16 division by 0x1021 (R163). -/
def crc16Bits : Nat → Half → Half
  | 0, c => c
  | n + 1, c => crc16Bits n (if c.msb then (c <<< (1 : Nat)) ^^^ 0x1021#16 else c <<< (1 : Nat))

/-- A byte in the upper half of a 16-bit word. -/
def highByte (b : Byte) : Half := BitVec.ofNat 16 (b.toNat * 256)

/-- The CRC-16 of the host link and of the EEPROM image (R163, R187): initial value 0xFFFF, no reflection, no inversion. -/
def crc16 (bs : List Byte) : Half := bs.foldl (fun c b => crc16Bits 8 (c ^^^ highByte b)) 0xFFFF#16

/-! ## Reading across blocks -/

/-- The states in which a segment can be active (R68). -/
def Engine.holdsSegment : Engine → Bool
  | .running | .pivoting | .dwelling | .holding | .halting | .cancelling | .held | .halted => true
  | .idle | .starved | .aborted => false

/-- The states from which the stroke is already expected to run (R72). -/
def Engine.runsProgram : Engine → Bool
  | .running | .pivoting | .dwelling => true
  | .idle | .starved | .holding | .held | .halting | .halted | .cancelling | .aborted => false

/-- The active segment (R68): the head record, while the engine executes or approaches it. -/
def State.activeRecord (s : State) : Option Record :=
  if s.seq.engine.holdsSegment then s.queue.records.head? else none

/-- A moving record with a PIVOT junction: one whose turn is pending when it becomes the head (R49). -/
def Record.turns (r : Record) : Bool :=
  match r.body with
  | .moving m => m.junction == .pivot
  | .dwell _ => false
  | .programEnd => false

/-- A tare is in flight (R89). -/
def StrokeUnit.tareInFlight (u : StrokeUnit) : Bool :=
  match u.tareState with
  | .waiting | .measuring => true
  | .idle | .doneOk | .failed => false

/-- A slot of the bus. -/
def Bus.get (b : Bus) : Slot → SlotState
  | .x => b.x
  | .y => b.y
  | .h => b.h
  | .s => b.s

/-- A slot of the bus replaced. -/
def Bus.put (b : Bus) (k : Slot) (v : SlotState) : Bus :=
  match k with
  | .x => { b with x := v }
  | .y => { b with y := v }
  | .h => { b with h := v }
  | .s => { b with s := v }

/-- X, Y and H are all adopted (R139). -/
def Bus.allAdopted (b : Bus) : Bool := b.x.adopted && b.y.adopted && b.h.adopted

/-- All four slots are active (R74, R139). -/
def Bus.allActive (b : Bus) : Bool := b.x.active && b.y.active && b.h.active && b.s.active

/-- Free queue entries (R17). -/
def CutQueue.credit (q : CutQueue) : Nat := 128 - q.records.length

end Sys2Proof.Machine
end

