-- ==== Sys2Proof/Machine/Flags.lean ====
section
/-! DEFINITION. The codes that bodies carry (R171, R176) and the ranks of levels and actions (R146, R153). -/

namespace Sys2Proof.Machine

/-- The results of a reply (R171). -/
inductive Result where
  | ok | clamped | unknownKind | badLength | badKind | busy | state | queueFull | outOfRange | radiusSmall | arcMismatch
  | zeroLength | cornerSharp | aborted | tripped | axesIncomplete | tareActive | inMaterial | badId | order | noStore
  deriving DecidableEq, Repr

/-- The RESULT byte (R171). -/
def Result.code : Result → Byte
  | .ok => 0x00 | .clamped => 0x01 | .unknownKind => 0x10 | .badLength => 0x11 | .badKind => 0x12 | .busy => 0x13
  | .state => 0x14 | .queueFull => 0x15 | .outOfRange => 0x16 | .radiusSmall => 0x17 | .arcMismatch => 0x18
  | .zeroLength => 0x19 | .cornerSharp => 0x1A | .aborted => 0x1B | .tripped => 0x1C | .axesIncomplete => 0x1D
  | .tareActive => 0x1E | .inMaterial => 0x1F | .badId => 0x20 | .order => 0x21 | .noStore => 0x22

/-- OK, or CLAMPED when a value was brought into its range. -/
def Result.okOr (clamped : Bool) : Result := if clamped then .clamped else .ok

def Engine.code : Engine → Byte
  | .idle => 0 | .running => 1 | .pivoting => 2 | .dwelling => 3 | .starved => 4 | .holding => 5 | .held => 6
  | .halting => 7 | .halted => 8 | .cancelling => 9 | .aborted => 10

def StrokeState.code : StrokeState → Byte
  | .stopped => 0 | .starting => 1 | .running => 2 | .stalled => 3 | .stopping => 4

def TareState.code : TareState → Byte
  | .idle => 0 | .waiting => 1 | .measuring => 2 | .doneOk => 3 | .failed => 4

def StoreState.code : StoreState → Byte
  | .idle => 0 | .saving => 1 | .doneOk => 2 | .failed => 3

def TripLevel.code : TripLevel → Byte
  | .none => 0 | .hold => 1 | .halt => 2 | .quickStop => 3

def Action.code : Action → Byte
  | .ignore => 0 | .report => 1 | .hold => 2 | .halt => 3 | .quickStop => 4

/-- The action of a code; a code above QUICK_STOP reads as QUICK_STOP (R155). -/
def Action.ofCode : Nat → Action
  | 0 => .ignore | 1 => .report | 2 => .hold | 3 => .halt | _ => .quickStop

def SourceState.code : SourceState → Byte
  | .clear => 0 | .active => 1 | .latched => 2

def Polarity.code : Polarity → Byte
  | .activeHigh => 0 | .activeLow => 1

/-- The polarity of a code: 0 ACTIVE_HIGH, any other value ACTIVE_LOW (R176). -/
def Polarity.ofByte (b : Byte) : Polarity := if b = 0 then .activeHigh else .activeLow

def LampSetting.code : LampSetting → Byte
  | .off => 0 | .on => 1 | .blink => 2

/-- The lamp setting of a code, absent for a code outside the three (R160). -/
def LampSetting.ofCode : Nat → Option LampSetting
  | 0 => some .off | 1 => some .on | 2 => some .blink | _ => none

def Cause.code : Cause → Byte
  | .request => 0 | .trip => 1 | .ending => 2 | .starve => 3 | .drained => 4

def SettingsSource.code : SettingsSource → Byte
  | .stored => 0 | .defaultAbsent => 1 | .defaultBadCheck => 2 | .defaultBadData => 3 | .defaultSafe => 4

def NoticeClass.number : NoticeClass → Nat
  | .trip => 0 | .engineState => 1 | .segmentDone => 2 | .queueLow => 3 | .band => 4 | .tareDone => 5 | .storeDone => 6

def NoticeResult.code : NoticeResult → Byte
  | .ok => 0 | .failed => 1

/-- A flag as a byte. -/
def flagByte (b : Bool) : Byte := if b then 1 else 0

/-- The seven classes in class order (R181). -/
def NoticeClass.all : List NoticeClass :=
  [.trip, .engineState, .segmentDone, .queueLow, .band, .tareDone, .storeDone]

/-! ## Ranks -/

/-- Severity of a level: NONE < HOLD < HALT < QUICK_STOP. -/
def TripLevel.rank : TripLevel → Nat
  | .none => 0 | .hold => 1 | .halt => 2 | .quickStop => 3

/-- The more severe of two levels. -/
def TripLevel.worse (a b : TripLevel) : TripLevel := if a.rank < b.rank then b else a

/-- What an action counts toward the level as (R146); NONE where it counts as nothing. -/
def Action.level : Action → TripLevel
  | .ignore => .none | .report => .none | .hold => .hold | .halt => .halt | .quickStop => .quickStop

/-- The action latches: HOLD or above (R146). -/
def Action.stops : Action → Bool
  | .ignore | .report => false
  | .hold | .halt | .quickStop => true

/-- The rank of an action in the order of its codes. -/
def Action.rank : Action → Nat
  | .ignore => 0 | .report => 1 | .hold => 2 | .halt => 3 | .quickStop => 4

/-- The lowest action a source accepts (R145): HALT for sources 10 to 14. -/
def lowestAction (i : Fin 15) : Action := if 10 ≤ i.val then .halt else .ignore

end Sys2Proof.Machine
end

