-- ==== Sys2Proof/Machine/Operands.lean ====
section
/-! DEFINITION. The operands as bytes carry them: segment records (R177), drive-bus records (R142), the EEPROM image (R187)
and the numbered parameters (R185). -/

namespace Sys2Proof.Machine

/-! ## Segment records (R177) -/

/-- The five segment kinds (R1). -/
inductive SegmentKind where | line | arcCw | arcCcw | dwell | programEnd
  deriving DecidableEq, Repr

/-- The kind of a code; any other value fails check 1 (R7). -/
def SegmentKind.ofByte (b : Byte) : Option SegmentKind :=
  match b.toNat with
  | 1 => some .line
  | 2 => some .arcCw
  | 3 => some .arcCcw
  | 4 => some .dwell
  | 5 => some .programEnd
  | _ => none

/-- The record moves the blade (R1). -/
def SegmentKind.moves : SegmentKind → Bool
  | .line | .arcCw | .arcCcw => true
  | .dwell | .programEnd => false

/-- The record length that a kind requires, with and without FEED (R177). -/
def SegmentKind.length : SegmentKind → Bool → Nat
  | .line, false => 12
  | .line, true => 14
  | .arcCw, false => 20
  | .arcCw, true => 22
  | .arcCcw, false => 20
  | .arcCcw, true => 22
  | .dwell, _ => 6
  | .programEnd, _ => 4

/-- A segment record as sent (R177). -/
structure SentSegment where
  kind : SegmentKind
  material : Bool
  feedFlag : Bool
  report : Bool
  tag : Half
  x : Int
  y : Int
  i : Int
  j : Int
  /-- feed ceiling as sent, when FEED is set -/
  feed : Nat
  /-- dwell duration as sent -/
  duration : Nat
  deriving DecidableEq, Repr

/-- The fields of a record of a known kind whose bytes are all there (R177). -/
def SentSegment.read (k : SegmentKind) (bs : List Byte) : SentSegment :=
  let flags := readByte bs 1
  { kind := k
    material := flags.getLsbD 0
    feedFlag := flags.getLsbD 1
    report := flags.getLsbD 2
    tag := BitVec.ofNat 16 (readNat bs 2 2)
    x := readInt bs 4
    y := readInt bs 8
    i := readInt bs 12
    j := readInt bs 16
    feed := readNat bs (k.length false) 2
    duration := readNat bs 4 2 }

/-- The tag of a refused record: 0 when the body ended before its tag field (R22). DESIGN CHOICE (notes/assumptions/27.md): a body that
ends inside the tag field, after one of its two bytes, answers 0 as well. -/
def refusedTag (bs : List Byte) : Half := if bs.length < 4 then 0 else BitVec.ofNat 16 (readNat bs 2 2)

/-! ## Drive-bus records (R142) -/

/-- The slot number (R142). -/
def Slot.number : Slot → Nat
  | .x => 0 | .y => 1 | .h => 2 | .s => 3

/-- The sync record with a frame count. -/
def syncRecord (count : Byte) : List Byte := [0xB4, count, crc8 [0xB4, count]]

/-- The first five bytes of a setpoint record. -/
def setpointHead (k : Slot) (enable quickStop : Bool) (value : Int) : List Byte :=
  byte (k.number + (if enable then 4 else 0) + (if quickStop then 8 else 0)) :: be32 value

/-- A setpoint record. -/
def setpointRecord (k : Slot) (enable quickStop : Bool) (value : Int) : List Byte :=
  setpointHead k enable quickStop value ++ [crc8 (setpointHead k enable quickStop value)]

/-- The CRC test of a return (R131): the CRC-8 of its first five bytes is its sixth. -/
def returnCrcGood (status : Byte) (actual : Word) (crc : Byte) : Bool := crc8 (status :: beWord actual) == crc

/-- The READY flag of a return. -/
def returnReady (status : Byte) : Bool := status.getLsbD 0

/-- The FAULT flag of a return. -/
def returnFault (status : Byte) : Bool := status.getLsbD 1

/-- The AT_REST flag of a return. -/
def returnAtRest (status : Byte) : Bool := status.getLsbD 2

/-! ## Parameters (R185) -/

/-- The value of parameter `n`, absent for a number that names none. A label is given as a signed 32-bit value. -/
def Params.get (p : Params) : Nat → Option Int
  | 1 => some p.softXMin
  | 2 => some p.softXMax
  | 3 => some p.softYMin
  | 4 => some p.softYMax
  | 5 => some p.maxCutFeed
  | 6 => some p.maxAirFeed
  | 7 => some p.defaultFeed
  | 8 => some p.rampStep
  | 9 => some p.turnRate
  | 10 => some p.blendAngle
  | 11 => some p.pivotLimit
  | 12 => some p.pivotRate
  | 13 => some p.minRadius
  | 14 => some p.arcTol
  | 15 => some p.followLimitXY
  | 16 => some p.followLimitH
  | 17 => some p.windowExp
  | 18 => some p.overloadCeiling
  | 19 => some p.classFloor
  | 20 => some (p.entryBand.val : Nat)
  | 21 => some p.airFreq
  | 22 => some p.strokeStartTimeout
  | 23 => some p.strokeStopTimeout
  | 24 => some p.starveTimeout
  | 25 => some p.queueLowMark
  | 26 => some (p.slotMask.toNat : Nat)
  | 27 => some (if p.rotating then 1 else 0)
  | 28 => some p.airFigure
  | 29 => some p.label0.toInt
  | 30 => some p.label1.toInt
  | 31 => some p.label2.toInt
  | 32 => some p.label3.toInt
  | _ => none

/-- Parameter `n` stored; the value is within its range. -/
def Params.put (p : Params) (n : Nat) (v : Int) : Params :=
  match n with
  | 1 => { p with softXMin := v }
  | 2 => { p with softXMax := v }
  | 3 => { p with softYMin := v }
  | 4 => { p with softYMax := v }
  | 5 => { p with maxCutFeed := v.toNat }
  | 6 => { p with maxAirFeed := v.toNat }
  | 7 => { p with defaultFeed := v.toNat }
  | 8 => { p with rampStep := v.toNat }
  | 9 => { p with turnRate := v.toNat }
  | 10 => { p with blendAngle := v.toNat }
  | 11 => { p with pivotLimit := v.toNat }
  | 12 => { p with pivotRate := v.toNat }
  | 13 => { p with minRadius := v.toNat }
  | 14 => { p with arcTol := v.toNat }
  | 15 => { p with followLimitXY := v.toNat }
  | 16 => { p with followLimitH := v.toNat }
  | 17 => { p with windowExp := v.toNat }
  | 18 => { p with overloadCeiling := v.toNat }
  | 19 => { p with classFloor := v.toNat }
  | 20 => { p with entryBand := Fin.ofNat 8 v.toNat }
  | 21 => { p with airFreq := v.toNat }
  | 22 => { p with strokeStartTimeout := v.toNat }
  | 23 => { p with strokeStopTimeout := v.toNat }
  | 24 => { p with starveTimeout := v.toNat }
  | 25 => { p with queueLowMark := v.toNat }
  | 26 => { p with slotMask := BitVec.ofInt 4 v }
  | 27 => { p with rotating := decide (v ≠ 0) }
  | 28 => { p with airFigure := v.toNat }
  | 29 => { p with label0 := BitVec.ofInt 32 v }
  | 30 => { p with label1 := BitVec.ofInt 32 v }
  | 31 => { p with label2 := BitVec.ofInt 32 v }
  | 32 => { p with label3 := BitVec.ofInt 32 v }
  | _ => p

/-- The range of parameter `n` where it does not depend on another parameter (R185). -/
def paramRange : Nat → Int × Int
  | 1 => (-8000000, 8000000)
  | 2 => (-8000000, 8000000)
  | 3 => (-8000000, 8000000)
  | 4 => (-8000000, 8000000)
  | 5 => (10, 5000)
  | 6 => (10, 5000)
  | 7 => (1, 5000)
  | 8 => (10, 20000)
  | 9 => (10, 2000)
  | 10 => (0, 2048)
  | 11 => (0, 32768)
  | 12 => (1, 128)
  | 13 => (100, 100000)
  | 14 => (1, 500)
  | 15 => (100, 50000)
  | 16 => (16, 4096)
  | 17 => (0, 5)
  | 18 => (100, 2000)
  | 19 => (10, 1000)
  | 20 => (0, 7)
  | 21 => (200, 1200)
  | 22 => (100, 5000)
  | 23 => (100, 5000)
  | 24 => (0, 600000)
  | 25 => (0, 127)
  | 26 => (0, 15)
  | 27 => (0, 1)
  | 28 => (0, 2000)
  | _ => (-2147483648, 2147483647)

/-- The value that a SET_PARAM of `v` to parameter `n` stores (R185, R186): the simple range, and then the range that
depends on another parameter; SLOT_MASK keeps bits 0 … 3 and NOTICE_ARB stores any other value as 1. -/
def Params.clampValue (p : Params) (n : Nat) (v : Int) : Int :=
  let c := clampInt (paramRange n).1 (paramRange n).2 v
  match n with
  | 1 => if c < p.softXMax then c else p.softXMax - 1
  | 2 => if p.softXMin < c then c else p.softXMin + 1
  | 3 => if c < p.softYMax then c else p.softYMax - 1
  | 4 => if p.softYMin < c then c else p.softYMin + 1
  | 10 => min c p.pivotLimit
  | 11 => max c p.blendAngle
  | 26 => ((BitVec.ofInt 4 v).toNat : Nat)
  | 27 => if v = 0 then 0 else 1
  | _ => c

/-- The parameters that may be written only in IDLE with an empty queue (R185). -/
def paramNeedsIdle (n : Nat) : Bool :=
  n == 1 || n == 2 || n == 3 || n == 4 || n == 5 || n == 6 || n == 8 || n == 9 || n == 26

/-! ## The EEPROM image (R187) -/

/-- The working set: what the image holds and SAVE copies (R187, R188). -/
structure WorkingSet where
  params : Params
  bands : Vector BandEntry 8
  actions : List Action
  polarities : List Polarity
  debounces : List Nat
  deriving DecidableEq, Repr

/-- The numbers of a run of values from 1. -/
def paramNumbers : List Nat :=
  [1, 2, 3, 4, 5, 6, 7, 8, 9, 10, 11, 12, 13, 14, 15, 16, 17, 18, 19, 20, 21, 22, 23, 24, 25, 26, 27, 28]

/-- One band entry as eight bytes. -/
def BandEntry.bytes (e : BandEntry) : List Byte := be16 e.ceiling ++ be16 e.bite ++ be16 e.frequency ++ be16 e.feedCap

/-- The first 228 bytes of the image of a working set (R187). PRESUMED (notes/assumptions/30.md): R187 gives the sizes and no byte order
of the length, the parameters and the band fields; the model puts the most significant byte first, as the link does (R163). -/
def WorkingSet.body (w : WorkingSet) : List Byte :=
  [0x5A, 0xC7, 1] ++ be16 230 ++
  (paramNumbers.map fun n => be32 ((w.params.get n).getD 0)).flatten ++
  (w.bands.toList.map BandEntry.bytes).flatten ++
  w.actions.map Action.code ++ w.polarities.map Polarity.code ++ w.debounces.map byte ++
  beWord w.params.label0 ++ beWord w.params.label1 ++ beWord w.params.label2 ++ beWord w.params.label3

/-- The image of a working set with its CRC-16 (R187). -/
def WorkingSet.image (w : WorkingSet) : List Byte := w.body ++ be16 (crc16 w.body).toNat

/-- The offset of parameter `n` in the image. -/
def imageParamAt (n : Nat) : Nat := 5 + 4 * (n - 1)

/-- The parameters as the image holds them, the label among them. -/
def imageParams (im : List Byte) : Params :=
  let p := paramNumbers.foldl (fun q n => q.put n (readInt im (imageParamAt n))) Params.rom
  { p with
    label0 := BitVec.ofNat 32 (readNat im 212 4)
    label1 := BitVec.ofNat 32 (readNat im 216 4)
    label2 := BitVec.ofNat 32 (readNat im 220 4)
    label3 := BitVec.ofNat 32 (readNat im 224 4) }

/-- Band entry `i` as the image holds it. -/
def imageBand (im : List Byte) (i : Nat) : BandEntry :=
  let at0 := 117 + 8 * i
  ⟨readNat im at0 2, readNat im (at0 + 2) 2, readNat im (at0 + 4) 2, readNat im (at0 + 6) 2⟩

/-- The band table as the image holds it. -/
def imageBands (im : List Byte) : Vector BandEntry 8 :=
  #v[imageBand im 0, imageBand im 1, imageBand im 2, imageBand im 3, imageBand im 4, imageBand im 5, imageBand im 6,
    imageBand im 7]

/-- The working set that the image holds. -/
def imageWorkingSet (im : List Byte) : WorkingSet where
  params := imageParams im
  bands := imageBands im
  actions := (List.range 15).map fun i => Action.ofCode (readByte im (181 + i)).toNat
  polarities := (List.range 8).map fun i => Polarity.ofByte (readByte im (196 + i))
  debounces := (List.range 8).map fun i => (readByte im (204 + i)).toNat

/-- The stored CRC of the image agrees with its first 228 bytes (R190). -/
def imageCrcGood (im : List Byte) : Bool := (crc16 (im.take 228)).toNat == readNat im 228 2

/-- The marker, version and length of R187 stand in the image. -/
def imageHeaderGood (im : List Byte) : Bool :=
  readNat im 0 2 == 0x5AC7 && readNat im 2 1 == 1 && readNat im 3 2 == 230

/-- A band field lies in its range (R114). -/
def BandEntry.inRange (e : BandEntry) : Bool :=
  decide (1 ≤ e.ceiling ∧ e.ceiling ≤ 65535) && decide (50 ≤ e.bite ∧ e.bite ≤ 4000) &&
    decide (200 ≤ e.frequency ∧ e.frequency ≤ 1200) && decide (10 ≤ e.feedCap ∧ e.feedCap ≤ 5000)

/-- The ceilings of a band table are strictly ascending (R114). -/
def ceilingsAscend (b : Vector BandEntry 8) : Bool :=
  decide (b[0].ceiling < b[1].ceiling) && decide (b[1].ceiling < b[2].ceiling) && decide (b[2].ceiling < b[3].ceiling) &&
    decide (b[3].ceiling < b[4].ceiling) && decide (b[4].ceiling < b[5].ceiling) &&
    decide (b[5].ceiling < b[6].ceiling) && decide (b[6].ceiling < b[7].ceiling)

/-- Every parameter, band field, action, polarity and debounce time of the image lies in its range, the ceilings ascend,
sources 10 to 14 stand at HALT or above, each MIN is below its MAX and BLEND_ANGLE does not exceed PIVOT_LIMIT (R190).
DEDUCED (notes/assumptions/13.md): a polarity byte other than 0 and 1 is outside its range. -/
def imageDataGood (im : List Byte) : Bool :=
  let p := imageParams im
  (paramNumbers.all fun n =>
    decide ((paramRange n).1 ≤ readInt im (imageParamAt n) ∧ readInt im (imageParamAt n) ≤ (paramRange n).2)) &&
  (imageBands im).toList.all BandEntry.inRange && ceilingsAscend (imageBands im) &&
  ((List.range 15).all fun i => decide ((readByte im (181 + i)).toNat ≤ 4)) &&
  ((List.range 5).all fun i => decide (3 ≤ (readByte im (191 + i)).toNat)) &&
  ((List.range 8).all fun i => decide ((readByte im (196 + i)).toNat ≤ 1)) &&
  ((List.range 8).all fun i => decide ((readByte im (204 + i)).toNat ≤ 50)) &&
  decide (p.softXMin < p.softXMax) && decide (p.softYMin < p.softYMax) && decide (p.blendAngle ≤ p.pivotLimit)

end Sys2Proof.Machine
end

