-- ==== Sys2Proof/Machine/Notice.lean ====
section
/-! DEFINITION. The notice unit: pending records and their coalescing (R181), the choice of a record (R183) and the bodies of
notices (R179). -/

namespace Sys2Proof.Machine

/-- An event of a class with content `c` (R181): a record with count 1, or the pending one overwritten and counted. -/
def Pending.coalesce {α : Type} (old : Option (Pending α)) (c : α) : Option (Pending α) :=
  match old with
  | none => some ⟨c, 1⟩
  | some p => some ⟨c, saturate 255 p.count⟩

def State.noteTrip (s : State) (c : TripContent) : State :=
  s.setNotice { s.notice with trip := Pending.coalesce s.notice.trip c }

def State.noteEngine (s : State) (c : EngineContent) : State :=
  s.setNotice { s.notice with engineState := Pending.coalesce s.notice.engineState c }

def State.noteSegmentDone (s : State) (tag : Half) : State :=
  s.setNotice { s.notice with segmentDone := Pending.coalesce s.notice.segmentDone tag }

def State.noteQueueLow (s : State) (c : QueueLowContent) : State :=
  s.setNotice { s.notice with queueLow := Pending.coalesce s.notice.queueLow c }

def State.noteBand (s : State) (c : BandContent) : State :=
  s.setNotice { s.notice with band := Pending.coalesce s.notice.band c }

def State.noteTareDone (s : State) (c : TareContent) : State :=
  s.setNotice { s.notice with tareDone := Pending.coalesce s.notice.tareDone c }

def State.noteStoreDone (s : State) (c : NoticeResult) : State :=
  s.setNotice { s.notice with storeDone := Pending.coalesce s.notice.storeDone c }

/-- The class holds a pending record. -/
def NoticeUnit.isPending (n : NoticeUnit) : NoticeClass → Bool
  | .trip => n.trip.isSome
  | .engineState => n.engineState.isSome
  | .segmentDone => n.segmentDone.isSome
  | .queueLow => n.queueLow.isSome
  | .band => n.band.isSome
  | .tareDone => n.tareDone.isSome
  | .storeDone => n.storeDone.isSome

/-- The class is enabled (R182). -/
def NoticeUnit.enabled (n : NoticeUnit) (c : NoticeClass) : Bool := n.enables.getLsbD c.number

/-- The class is a candidate (R183): enabled, with a pending record. -/
def NoticeUnit.candidate (n : NoticeUnit) (c : NoticeClass) : Bool := n.enabled c && n.isPending c

/-- The order in which the classes are looked at (R183): class order in FIXED; in ROTATING the classes after the last class
sent, wrapping, and ending with that class itself. -/
def NoticeUnit.searchOrder (n : NoticeUnit) (rotating : Bool) : List NoticeClass :=
  if rotating then
    NoticeClass.all.drop (n.lastSent.number + 1) ++ NoticeClass.all.take (n.lastSent.number + 1)
  else NoticeClass.all

/-- The chosen class, if there is a candidate (R183). -/
def NoticeUnit.choose (n : NoticeUnit) (rotating : Bool) : Option NoticeClass :=
  (n.searchOrder rotating).find? n.candidate

/-- The set of classes that hold a pending record, bit n for class n (R178). -/
def NoticeUnit.pendingSet (n : NoticeUnit) : Byte :=
  NoticeClass.all.foldl (fun acc c => if n.isPending c then acc ||| byte (2 ^ c.number) else acc) 0

/-- The content of an ENGINE_STATE notice after its count (R179): fields behind an absent part read 0. -/
def EngineContent.bytes (c : EngineContent) : List Byte :=
  [c.new.code, c.previous.code, c.cause.code] ++
  match c.interrupted with
  | none => [0] ++ be16 0 ++ be32 0 ++ be32 0 ++ be32 0
  | some i =>
    match i.active with
    | none => [1] ++ be16 0 ++ be32 0 ++ be32 i.x ++ be32 i.y
    | some (tag, distance) => [3] ++ be16 tag.toNat ++ be32 distance ++ be32 i.x ++ be32 i.y

/-- The body of the notice of a class (R179): the coalesced count, then the class content; empty when nothing is pending. -/
def NoticeUnit.noticeBody (n : NoticeUnit) : NoticeClass → List Byte
  | .trip =>
    match n.trip with
    | none => []
    | some p => [byte p.count, byte p.content.source.val, p.content.state.code, p.content.level.code,
        match p.content.slots with | none => 0 | some m => byte m.toNat]
  | .engineState =>
    match n.engineState with
    | none => []
    | some p => byte p.count :: p.content.bytes
  | .segmentDone =>
    match n.segmentDone with
    | none => []
    | some p => byte p.count :: be16 p.content.toNat
  | .queueLow =>
    match n.queueLow with
    | none => []
    | some p => [byte p.count, byte p.content.count, byte p.content.credit]
  | .band =>
    match n.band with
    | none => []
    | some p => [byte p.count, byte p.content.new.val, byte p.content.previous.val] ++ be16 p.content.df
  | .tareDone =>
    match n.tareDone with
    | none => []
    | some p => [byte p.count, p.content.result.code] ++ be16 p.content.figure
  | .storeDone =>
    match n.storeDone with
    | none => []
    | some p => [byte p.count, p.content.code]

/-- The record of a class handed over (R183): it becomes absent, and the class becomes the last class sent. -/
def NoticeUnit.handOver (n : NoticeUnit) : NoticeClass → NoticeUnit
  | .trip => { n with trip := none, lastSent := .trip }
  | .engineState => { n with engineState := none, lastSent := .engineState }
  | .segmentDone => { n with segmentDone := none, lastSent := .segmentDone }
  | .queueLow => { n with queueLow := none, lastSent := .queueLow }
  | .band => { n with band := none, lastSent := .band }
  | .tareDone => { n with tareDone := none, lastSent := .tareDone }
  | .storeDone => { n with storeDone := none, lastSent := .storeDone }

/-- Every pending record cleared (R180). -/
def NoticeUnit.cleared (n : NoticeUnit) : NoticeUnit := ⟨none, none, none, none, none, none, none, n.enables, .trip⟩

/-- At least one enabled class holds a pending record (R184). -/
def NoticeUnit.attention (n : NoticeUnit) : Bool := NoticeClass.all.any n.candidate

end Sys2Proof.Machine
end

