-- ==== Sys2Proof/Machine/Trip.lean ====
section
/-! DEFINITION. The trip unit: source states (R149 to R152), the trip level (R153, R154), input lines and their debounce (R147,
R148). -/

namespace Sys2Proof.Machine

/-- What a source counts toward the level as (R149, R153): its action's level while ACTIVE or LATCHED. -/
def Source.level (src : Source) : TripLevel :=
  match src.state with
  | .clear => .none
  | .active => src.action.level
  | .latched => src.action.level

/-- The trip level of a set of sources (R153): the most severe of what they count as. -/
def levelOf (sources : Vector Source 15) : TripLevel :=
  sources.toList.foldl (fun l src => l.worse src.level) .none

/-- A source replaced. -/
def TripUnit.putSource (t : TripUnit) (i : Fin 15) (src : Source) : TripUnit :=
  { t with sources := t.sources.set i.val src }

/-- An input replaced. -/
def TripUnit.putInput (t : TripUnit) (i : Fin 8) (inp : Input) : TripUnit :=
  { t with inputs := t.inputs.set i.val inp }

/-- The slot set that a TRIP record of source `i` names: present for sources 13 and 14 (R159). -/
def TripUnit.slotSet (t : TripUnit) (i : Fin 15) : Option (BitVec 4) :=
  if i.val = 13 then some t.faultSet else if i.val = 14 then some t.lostSet else none

/-- The level recomputed (R153); a change is handed to the cut sequencer and to the drive bus master, each of which takes it
as an event of its own (R154). -/
def State.recompute (s : State) : State :=
  let new := levelOf s.trip.sources
  if new = s.trip.level then s
  else
    let change : LevelChange := ⟨s.trip.level, new⟩
    ((s.setTrip { s.trip with level := new }).setSeq { s.seq with changes := s.seq.changes ++ [change] }).setBus
      { s.bus with changes := s.bus.changes ++ [change] }

/-- The TRIP record of source `i` set with its state and the level as they stand (R159). -/
def State.tripNotice (s : State) (i : Fin 15) : State :=
  s.noteTrip ⟨i, (s.trip.sources[i]).state, s.trip.level, s.trip.slotSet i⟩

/-- A source put into a new state and the level recomputed, with the TRIP record set when the action is not IGNORE. -/
def State.moveSource (s : State) (i : Fin 15) (src : Source) : State :=
  let s1 := (s.setTrip (s.trip.putSource i src)).recompute
  if src.action = .ignore then s1 else s1.tripNotice i

/-- The condition of a source becomes true (R150). -/
def State.activate (s : State) (i : Fin 15) : State :=
  let src := s.trip.sources[i]
  s.moveSource i { src with condition := true, state := .active, count := saturate 255 src.count }

/-- The condition of a source becomes false (R151). -/
def State.release (s : State) (i : Fin 15) : State :=
  let src := s.trip.sources[i]
  if src.state = .active then
    s.moveSource i { src with condition := false, state := if src.action.stops then .latched else .clear }
  else s.setTrip (s.trip.putSource i { src with condition := false })

/-- A condition handed to the trip unit: only a change acts (R150). -/
def State.setCondition (s : State) (i : Fin 15) (b : Bool) : State :=
  if (s.trip.sources[i]).condition = b then s else if b then s.activate i else s.release i

/-- DRIVE_FAULT handed on with the set of faulted slots (R152). -/
def State.setFaultSet (s : State) (m : BitVec 4) : State :=
  if m = 0 then s.setCondition 13 false
  else (s.setTrip { s.trip with faultSet := m }).setCondition 13 true

/-- DRIVE_LOST handed on with the set of lost slots (R152). -/
def State.setLostSet (s : State) (m : BitVec 4) : State :=
  if m = 0 then s.setCondition 14 false
  else (s.setTrip { s.trip with lostSet := m }).setCondition 14 true

/-! ## Input lines -/

/-- The source of an input. -/
def sourceOfInput (i : Fin 8) : Fin 15 := ⟨i.val, by omega⟩

/-- The line state that a pin's level gives (R147). -/
def lineState (p : Polarity) (high : Bool) : Bool :=
  match p with
  | .activeHigh => high
  | .activeLow => !high

/-- The condition takes the line state and the timer stops (R148). -/
def State.takeLine (s : State) (i : Fin 8) : State :=
  let inp := s.trip.inputs[i]
  (s.setTrip (s.trip.putInput i { inp with timer := none })).setCondition (sourceOfInput i) inp.line

/-- The line state of an input becomes `line` (R148): different from the condition, the timer starts at 0, or with a debounce
time of 0 the condition changes at once; equal to it, the timer stops. -/
def State.lineBecomes (s : State) (i : Fin 8) (line : Bool) : State :=
  let inp := s.trip.inputs[i]
  if line = (s.trip.sources[sourceOfInput i]).condition then
    s.setTrip (s.trip.putInput i { inp with line := line, timer := none })
  else
    let s1 := s.setTrip (s.trip.putInput i { inp with line := line, timer := some 0 })
    if inp.debounce = 0 then s1.takeLine i else s1

/-- The line state derived from the pin; a change of it acts on the debounce timer (R147). -/
def State.deriveLine (s : State) (i : Fin 8) : State :=
  let inp := s.trip.inputs[i]
  let line := lineState inp.polarity s.pins[i]
  if line = inp.line then s else s.lineBecomes i line

/-- The input lines are first read (R148): each line state is derived from its pin, and an active one starts its timer. DESIGN CHOICE
(notes/assumptions/28.md): R148 gives the eight no order; they are read from IN0 to IN7. -/
def State.readInputs (s : State) : State :=
  [0, 1, 2, 3, 4, 5, 6, 7].foldl (fun (t : State) (i : Fin 8) => t.deriveLine i) s

/-- Reference cycles in a millisecond. -/
def cyclesPerMs : Nat := 10000

/-- A debounce timer that has counted to the debounce time (R148). -/
def Input.due (inp : Input) : Bool :=
  match inp.timer with
  | none => false
  | some t => decide (inp.debounce * cyclesPerMs ≤ t)

end Sys2Proof.Machine
end

