-- ==== Sys2Proof/Machine/Classifier.lean ====
section
/-! DEFINITION. The density classifier: the window record, overload, classification and confirmation (R117 to R124). -/

namespace Sys2Proof.Machine

/-- The window record handed to the classifier (R106). -/
structure WindowRecord where
  w : Nat
  fm : Nat
  lf : Nat
  /-- µm -/
  distance : Nat
  material : Bool
  runningAtOpening : Bool
  runningAtCompletion : Bool
  deriving DecidableEq, Repr

/-- The cutting load (R117). -/
def cuttingLoad (lf airFigure : Nat) : Nat := lf - airFigure

/-- The overload condition takes a value; a change is handed to the trip unit (R119). -/
def State.setOverload (s : State) (b : Bool) : State :=
  if s.classifier.overload = b then s
  else (s.setClassifier { s.classifier with overload := b }).setCondition 8 b

/-- The average bite of a window (R120). -/
def WindowRecord.averageBite (r : WindowRecord) : Nat := r.distance / r.w

/-- The window qualifies for classification (R120). -/
def WindowRecord.qualifies (r : WindowRecord) (classFloor : Nat) : Bool :=
  r.material && r.runningAtOpening && r.runningAtCompletion && decide (classFloor ≤ r.averageBite)

/-- The density figure (R121). -/
def densityFigure (cl b : Nat) : Nat := min (cl * 1000 / b) 65535

/-- The window's band (R121): the lowest band whose ceiling reaches DF, or band 7. -/
def bandOf (bands : Vector BandEntry 8) (df : Nat) : Fin 8 :=
  if df ≤ bands[0].ceiling then 0
  else if df ≤ bands[1].ceiling then 1
  else if df ≤ bands[2].ceiling then 2
  else if df ≤ bands[3].ceiling then 3
  else if df ≤ bands[4].ceiling then 4
  else if df ≤ bands[5].ceiling then 5
  else if df ≤ bands[6].ceiling then 6
  else 7

/-- The confirmation of the window's band (R122), with BAND set pending on a change of material band (R123). -/
def State.confirmBand (s : State) (band : Fin 8) : State :=
  if band = s.classifier.material then s.setClassifier { s.classifier with candidate := none }
  else if s.classifier.candidate = some band then
    (s.setClassifier { s.classifier with material := band, candidate := none }).noteBand
      ⟨band, s.classifier.material, s.classifier.df⟩
  else s.setClassifier { s.classifier with candidate := some band }

/-- Stage 3 of R117: DF is computed and stored, looked up (R121) and confirmed (R122). -/
def State.classify (s : State) (cl : Nat) (r : WindowRecord) : State :=
  let df := densityFigure cl r.averageBite
  (s.setClassifier { s.classifier with df := df }).confirmBand (bandOf s.classifier.bands df)

/-- The classifier takes a window record (R117). -/
def State.takeWindowRecord (s : State) (r : WindowRecord) : State :=
  let cl := cuttingLoad r.lf s.params.airFigure
  let s1 := if r.runningAtCompletion then s.setOverload (decide (s.params.overloadCeiling ≤ cl)) else s
  if r.qualifies s.params.classFloor then s1.classify cl r else s1

/-- The band in effect (R124): the material band on an active MATERIAL record; AIR (absent) in every other case. -/
def State.bandInEffect (s : State) : Option (Fin 8) :=
  match s.activeRecord with
  | none => none
  | some r => if r.material then some s.classifier.material else none

/-- The entry of the material band. -/
def State.materialEntry (s : State) : BandEntry := s.classifier.bands[s.classifier.material]

end Sys2Proof.Machine
end

