-- ==== Sys2Proof/Machine/Stroke.lean ====
section
/-! DEFINITION. The stroke unit: start and stop requests (R92, R93), confirmation and stall (R96 to R99), measurement windows
(R101 to R106) and the tare (R107 to R112). -/

namespace Sys2Proof.Machine

/-- The stall condition takes a value; a change is handed to the trip unit (R99). -/
def State.setStall (s : State) (b : Bool) : State :=
  if s.stroke.stall = b then s else (s.setStroke { s.stroke with stall := b }).setCondition 9 b

/-- Entry into STOPPING (R93), without what a tare makes of it. -/
def State.enterStopping (s : State) : State :=
  s.setStroke { s.stroke with
    state := .stopping, startTimer := none, stopTimer := some s.params.strokeStopTimeout, good := 0, slow := 0 }

/-- A stop request's transition (R93). -/
def State.stopStroke (s : State) : State :=
  match s.stroke.state with
  | .starting => s.enterStopping
  | .running => s.enterStopping
  | .stalled => s.enterStopping
  | .stopping => s
  | .stopped => s

/-- The engine states in which the end of a tare that owns the stroke stops it (R111). -/
def Engine.leavesStrokeToTare : Engine → Bool
  | .idle | .halted | .aborted => true
  | .running | .pivoting | .dwelling | .starved | .holding | .held | .halting | .cancelling => false

/-- The end of a tare (R111): the stroke is stopped if the tare owns it and the engine is at rest; the record goes. -/
def State.endTare (s : State) : State :=
  let s1 :=
    match s.stroke.tare with
    | none => s
    | some t => if t.owner && s.seq.engine.leavesStrokeToTare then s.stopStroke else s
  s1.setStroke { s1.stroke with tare := none }

/-- The failure of a tare in flight (R110). -/
def State.failTare (s : State) : State :=
  if s.stroke.tareInFlight then
    ((s.setStroke { s.stroke with tareState := .failed }).noteTareDone ⟨.failed, s.params.airFigure⟩).endTare
  else s

/-- The success of a tare (R109) with the LF sum of its four windows. -/
def State.tareSuccess (s : State) (sum : Nat) : State :=
  let s1 := s.setSettings { s.settings with params := { s.settings.params with airFigure := sum / 4 } }
  ((s1.setStroke { s1.stroke with tareState := .doneOk }).noteTareDone ⟨.ok, sum / 4⟩).endTare

/-- A start request (R92); STOPPING to STARTING makes the stall condition false (R99). -/
def State.strokeStart (s : State) : State :=
  match s.stroke.state with
  | .stopped => start s
  | .stopping => (start s).setStall false
  | .starting => s
  | .running => s
  | .stalled => s
where
  /-- Entry into STARTING. -/
  start (s : State) : State :=
    s.setStroke { s.stroke with
      state := .starting, stopTimer := none, startTimer := some s.params.strokeStartTimeout, good := 0 }

/-- A stop request (R93); a stroke that enters STOPPING fails a tare in flight (R110). -/
def State.strokeStop (s : State) : State :=
  match s.stroke.state with
  | .starting => s.stopStroke.failTare
  | .running => s.stopStroke.failTare
  | .stalled => s.stopStroke.failTare
  | .stopping => s
  | .stopped => s

/-- Entry into STOPPED (R95): the stall condition (R99) and the overload condition (R119) become false. -/
def State.strokeStopped (s : State) : State :=
  ((s.setStroke { s.stroke with state := .stopped, stopTimer := none }).setStall false).setOverload false

/-- Entry into STALLED, by a stall in RUNNING (R97) or by the start timer (R94): the stall condition becomes true and a tare
in flight fails (R110). -/
def State.strokeStalls (s : State) : State :=
  ((s.setStroke { s.stroke with state := .stalled, startTimer := none, slow := 0 }).setStall true).failTare

/-- Entry into RUNNING, by confirmation (R96) or from STALLED (R98): the slow-window count is set to 0, the stall condition is false,
and a tare in WAITING enters MEASURING (R108). -/
def State.strokeRuns (s : State) : State :=
  let s1 := (s.setStroke { s.stroke with state := .running, slow := 0 }).setStall false
  if s1.stroke.tareState = .waiting then s1.setStroke { s1.stroke with tareState := .measuring } else s1

/-- A window is good (R96): fm lies within 10 % of f_set. -/
def goodWindow (fm fSet : Nat) : Bool := decide (((fm : Int) - fSet).natAbs * 10 ≤ fSet)

/-- A window is slow (R96): fm is below half of f_set. -/
def slowWindow (fm fSet : Nat) : Bool := decide (fm * 2 < fSet)

/-- Stage 2 of a completion: the stroke judgement (R96, R97, R98). A confirmation stops the start timer and sets the
good-window count to 0; R98 names neither, so a return from STALLED leaves the count. -/
def State.judge (s : State) (fm : Nat) : State :=
  match s.stroke.state with
  | .starting =>
    if goodWindow fm s.stroke.fSet then
      if s.stroke.good = 0 then s.setStroke { s.stroke with good := 1 }
      else (s.setStroke { s.stroke with startTimer := none, good := 0 }).strokeRuns
    else s.setStroke { s.stroke with good := 0 }
  | .running =>
    if slowWindow fm s.stroke.fSet then
      if s.stroke.slow = 0 then s.setStroke { s.stroke with slow := 1 } else s.strokeStalls
    else s.setStroke { s.stroke with slow := 0 }
  | .stalled => if goodWindow fm s.stroke.fSet then s.strokeRuns else s
  | .stopped => s
  | .stopping => s

/-- Stage 4 of a completion: a tare in MEASURING takes a window that opened at or after its entry (R108). -/
def State.tareWindow (s : State) (lf : Nat) : State :=
  if s.stroke.tareState = .measuring then
    match s.stroke.tare with
    | none => s
    | some t =>
      if t.windowCounts then
        if 4 ≤ t.count + 1 then s.tareSuccess (t.sum + lf)
        else s.setStroke { s.stroke with tare := some { t with count := t.count + 1, sum := t.sum + lf } }
      else s
  else s

/-- A window opens (R101); a tare that is MEASURING counts it when it completes (R108). -/
def State.openWindow (s : State) : State :=
  s.setStroke { s.stroke with
    window := some ⟨2 ^ s.params.windowExp, 0, 0, 0, 0, false, true, decide (s.stroke.state = .running)⟩
    tare :=
      if s.stroke.tareState = .measuring then s.stroke.tare.map fun t => { t with windowCounts := true }
      else s.stroke.tare }

/-- The frequency figure fm (R104), in 0.1 Hz; P is at least 1 at any completion. -/
def frequencyFigure (w p : Nat) : Nat := 100000000 * w / max p 1

/-- The load figure LF (R104), in kHz, capped at 2000. -/
def loadFigure (c p : Nat) : Nat := min (c * 10000 / max p 1) 2000

/-- The window record of a completed window (R106). -/
def Window.record (win : Window) (fm lf : Nat) (before : StrokeState) : WindowRecord :=
  ⟨win.w, fm, lf, win.distance / 1000, win.frameSeen && win.material, win.runningAtOpening, decide (before = .running)⟩

/-- The completion of a window (R104), in its five stages. Before the settings load has ended the classifier takes no record
(R113). -/
def State.completeWindow (s : State) (win : Window) : State :=
  let fm := frequencyFigure win.w win.p
  let lf := loadFigure win.c win.p
  let before := s.stroke.state
  let s1 := s.setStroke { s.stroke with fm := fm, lf := lf, window := none }
  let s2 := s1.judge fm
  let s3 := if s.startup.phase = .started then s2.takeWindowRecord (win.record fm lf before) else s2
  (s3.tareWindow lf).openWindow

/-- The last count of P before the overflow (R105). -/
def overflowCount : Nat := 16777216

/-- A window overflow (R105). -/
def State.overflowWindow (s : State) : State :=
  let s1 := s.setStroke { s.stroke with fm := 0, window := none }
  match s1.stroke.state with
  | .starting => s1.setStroke { s1.stroke with good := 0 }
  | .running => s1.strokeStalls
  | .stalled => s1
  | .stopped => s1
  | .stopping => s1

/-- A frame report (R103) with an advance in nm and a material flag; a set flag fails a tare in flight (R110). -/
def State.frameReport (s : State) (advance : Nat) (material : Bool) : State :=
  let s1 :=
    match s.stroke.window with
    | none => s
    | some win => s.setStroke { s.stroke with
        window := some { win with
          distance := win.distance + advance, frameSeen := true, material := win.material && material } }
  if material then s1.failTare else s1

/-- f_set derived from the other blocks as they stand (R90). -/
def State.deriveFSet (s : State) : State :=
  let f :=
    match s.activeRecord with
    | none => s.params.airFreq
    | some r => if r.material then s.materialEntry.frequency else s.params.airFreq
  s.setStroke { s.stroke with fSet := f }

/-- The S setpoint (R91). -/
def StrokeUnit.setpoint (u : StrokeUnit) : Nat :=
  match u.state with
  | .starting => u.fSet
  | .running => u.fSet
  | .stalled => u.fSet
  | .stopped => 0
  | .stopping => 0

/-- The S enable (R91). -/
def StrokeUnit.enable (u : StrokeUnit) : Bool :=
  match u.state with
  | .stopped => false
  | .starting => true
  | .running => true
  | .stalled => true
  | .stopping => true

/-- A TARE request (R107) and what it acts on at once (R108). -/
def State.serveTare (s : State) : State × Result :=
  let active := s.activeRecord
  if ¬(s.seq.engine = .idle ∨ active.isSome) then (s, .state)
  else if (active.map Record.material).getD false then (s, .inMaterial)
  else if s.stroke.tareInFlight then (s, .busy)
  else if ¬(s.trip.level = .none ∨ s.trip.level = .hold) then (s, .tripped)
  else
    match s.stroke.state with
    | .stopped => ((create s true .waiting).strokeStart, .ok)
    | .stopping => ((create s true .waiting).strokeStart, .ok)
    | .starting => (create s false .waiting, .ok)
    | .stalled => (create s false .waiting, .ok)
    | .running => (create s false .measuring, .ok)
where
  /-- The tare record created. -/
  create (s : State) (owner : Bool) (t : TareState) : State :=
    s.setStroke { s.stroke with tareState := t, tare := some ⟨owner, 0, 0, false⟩ }

end Sys2Proof.Machine
end

