-- ==== Sys2Proof/Machine/Trig.lean ====
section
/-! DEFINITION. The exact geometry of R9 to R13 and R51 to R53. Directions are integer vectors and comparisons of directions
are exact. An irrational figure (an angle, a sine, a quotient by a root) is computed as a whole number scaled by 2^256
with an error below 2^64 and then rounded once; where the error could change the rounding, the free value Config.roundsUp
decides (notes/assumptions/1.md). -/

namespace Sys2Proof.Machine

/-- The scale of a computed irrational figure. -/
def one : Nat := 2 ^ 256

/-- The error bound of a computed figure, in units of the scale's last place. -/
def slack : Nat := 2 ^ 64

/-- π × 2^256, rounded down. -/
def piFix : Nat :=
  363771576891766324280234942777729862653393377328392429958772151117938894466185

/-- 2π × 2^256, rounded down to an even number. -/
def turnFix : Nat := 2 * piFix

/-- arctan (2^-i) × 2^256, rounded down, with its i, for i = 1 … 8. -/
def atanTable : List (Nat × Nat) := [
  (1, 53686725316089629465732234496251071835469772785802934708191518051530999669636),
  (2, 28366591222024276724023552976526247963261012510916275766378403737526972082649),
  (3, 14399324625664568934674699350267122206019236250945842051018891246877667066605),
  (4, 7227604417138977445810363790150232408515165312610960735144878784063415302318),
  (5, 3617325580316517953183729112242407950170804178715711120593478326074976438320),
  (6, 1809104178641864249297853891739634474335179199134830978046533343906475902766),
  (7, 904607293183577285973537499632867092691571951312044366110164015061896371361),
  (8, 452310548022213020292586437164563289098575256902098330838129779339547557622)]

/-- `n` terms of the series of arctan from term k on: `t` is z^(2k+1), `z2` is z², both scaled. -/
def atanSeries (z2 : Nat) : Nat → Nat → Nat → Int → Int
  | 0, _, _, acc => acc
  | n + 1, k, t, acc =>
    atanSeries z2 n (k + 1) (t * z2 / one)
      (if k % 2 = 0 then acc + (t / (2 * k + 1) : Nat) else acc - (t / (2 * k + 1) : Nat))

/-- arctan (y / x) for 0 ≤ y ≤ x, scaled: the vector is turned back by arctan (2^-i), exactly in integers, for each i that
fits, and the rest is summed by the series. -/
def atanReduce : List (Nat × Nat) → Nat → Nat → Nat → Nat
  | [], y, x, acc =>
    acc + (atanSeries ((y * one / x) * (y * one / x) / one) 20 0 (y * one / x) 0).toNat
  | (i, a) :: rest, y, x, acc =>
    if x ≤ y * 2 ^ i then atanReduce rest (y * 2 ^ i - x) (x * 2 ^ i + y) (acc + a)
    else atanReduce rest y x acc

/-- The angle of a vector of the first octant pair, 0 … π/2, scaled. -/
def atanQuadrant (y x : Nat) : Nat :=
  if y ≤ x then atanReduce atanTable y x 0 else piFix / 2 - atanReduce atanTable x y 0

/-- The angle of a vector, 0 … 2π counterclockwise from +X, scaled. -/
def angle (x y : Int) : Nat :=
  if 0 ≤ y then
    (if 0 ≤ x then atanQuadrant y.natAbs x.natAbs else piFix - atanQuadrant y.natAbs x.natAbs)
  else
    (if x < 0 then piFix + atanQuadrant y.natAbs x.natAbs else turnFix - atanQuadrant y.natAbs x.natAbs)

/-- The floor of `v / d`, where `v` is a computed figure with an error below `slack`. -/
def floorFix (v d : Nat) : Nat :=
  if (v - slack) / d = (v + slack) / d then v / d
  else if Config.roundsUp v then (v + slack) / d else (v - slack) / d

/-- A scaled angle in hu, rounded to nearest, modulo 65536 (R12, R53). -/
def headingFix (a : Nat) : Half := BitVec.ofNat 16 (floorFix (a * 65536 + piFix) turnFix)

/-- The direction of a vector in hu (R12). -/
def direction (x y : Int) : Half := headingFix (angle x y)

/-! ## Exact comparison of directions (R9, R10) -/

/-- The cross product of two vectors. -/
def cross (ax ay bx bY : Int) : Int := ax * bY - ay * bx

/-- The dot product of two vectors. -/
def dot (ax ay bx bY : Int) : Int := ax * bx + ay * bY

/-- Two vectors have the same direction (R9): cross product 0 and dot product positive. -/
def sameDirection (ax ay bx bY : Int) : Bool := cross ax ay bx bY == 0 && decide (0 < dot ax ay bx bY)

/-- The turn from `u` counterclockwise to `v` is below half a turn. -/
def inFirstHalf (ux uy vx vy : Int) : Bool :=
  decide (0 < cross ux uy vx vy) || sameDirection ux uy vx vy

/-- The turn from `u` counterclockwise to `a` (0 … one turn, not included) is less than that from `u` to `b`. -/
def turnsLess (ux uy ax ay bx bY : Int) : Bool :=
  match inFirstHalf ux uy ax ay, inFirstHalf ux uy bx bY with
  | true, true => decide (0 < cross ax ay bx bY)
  | true, false => true
  | false, true => false
  | false, false => decide (0 < cross ax ay bx bY)

/-- Direction `e` lies strictly inside the counterclockwise sweep from `u` to `v` (R10 part 5); a sweep from `u` to its own
direction is a full turn (R9). -/
def insideSweep (ux uy vx vy ex ey : Int) : Bool :=
  !sameDirection ux uy ex ey && (sameDirection ux uy vx vy || turnsLess ux uy ex ey vx vy)

/-- The counterclockwise sweep from `u` to `v` in radians, scaled: greater than 0 and at most one turn (R9). -/
def sweepFix (ux uy vx vy : Int) : Nat :=
  if sameDirection ux uy vx vy then turnFix else angle (dot ux uy vx vy) (cross ux uy vx vy)

/-! ## Positions (R51, R52) -/

/-- "Rounded to nearest … with halves away from zero" of start + sign × √(num / den) / 2: `num / den` is the square of
twice the offset. -/
def roundOffset (start : Int) (negative : Bool) (num den : Nat) : Int :=
  let twice := isqrt (num / den)
  let tie := twice % 2 = 1 ∧ twice * twice * den = num
  let off : Int := if negative then -(((twice + 1) / 2 : Nat) : Int) else (((twice + 1) / 2 : Nat) : Int)
  let inner : Int := if negative then -((twice / 2 : Nat) : Int) else ((twice / 2 : Nat) : Int)
  if tie ∧ (start + inner).natAbs > (start + off).natAbs then start + inner else start + off

/-- One coordinate of the commanded position on a LINE at progress `p` nm (R51): start + d × p / (1000 × √n2), where `n2` is
the squared length of the line. -/
def lineCoordinate (start d : Int) (p n2 : Nat) : Int :=
  roundOffset start (decide (d < 0)) (4 * d.natAbs * d.natAbs * (p * p)) (1000000 * n2)

/-- `n` terms of the series of sine or cosine: `t` is the term whose last factor was k, `b2` the squared angle, scaled. -/
def trigSeries (b2 : Nat) : Nat → Nat → Bool → Nat → Int → Int
  | 0, _, _, _, acc => acc
  | n + 1, k, minus, t, acc =>
    trigSeries b2 n (k + 2) (!minus) (t * b2 / one / ((k + 1) * (k + 2)))
      (if minus then acc - (t : Int) else acc + (t : Int))

/-- cos of a scaled angle, scaled. -/
def cosFix (b : Nat) : Int := trigSeries (b * b / one) 70 0 false one 0

/-- sin of a scaled angle, scaled. -/
def sinFix (b : Nat) : Int := trigSeries (b * b / one) 70 1 false b 0

/-- The rounding to nearest of a signed figure computed with an error below `slack`. -/
def roundFix (v : Int) : Int :=
  if 0 ≤ v then (floorFix (v.toNat + one / 2) one : Nat) else -((floorFix ((-v).toNat + one / 2) one : Nat) : Int)

/-- The angle travelled along an arc at progress `p` nm: p / (1000 × r) radians, scaled (R52). -/
def arcAngle (p r : Nat) : Nat := p * one / (1000 * r)

/-- The offset from the centre on an arc (R52): r × (cos φ, sin φ), where φ is the direction of the start vector `u` plus
(counterclockwise) or minus (clockwise) the travelled angle `b`. -/
def arcOffset (ux uy : Int) (r : Nat) (ccw : Bool) (b : Nat) : Int × Int :=
  let c := cosFix b
  let sn := if ccw then sinFix b else -sinFix b
  let root : Int := (isqrt ((ux * ux + uy * uy).toNat * one * one) : Nat)
  (roundFix ((r : Int) * (ux * c - uy * sn) * (one : Int) / root),
   roundFix ((r : Int) * (uy * c + ux * sn) * (one : Int) / root))

/-- The commanded H on an arc (R53): φ in hu plus 16384 (counterclockwise) or minus 16384 (clockwise), to nearest. -/
def arcHeading (ux uy : Int) (ccw : Bool) (b : Nat) : Half :=
  if ccw then headingFix (angle ux uy + b) + 16384#16
  else headingFix (angle ux uy + (b / turnFix + 1) * turnFix - b) - 16384#16

end Sys2Proof.Machine
end

