-- ==== Sys2Proof/Machine/Queue.lean ====
section
/-! DEFINITION. The cut queue: acceptance (R6 to R16), removal (R19, R20) and flush (R21). -/

namespace Sys2Proof.Machine

/-! ## Leaving the queue -/

/-- The head record completes (R19): it leaves the queue, the progress is that of a new head and the new head's turn is pending
when its junction is PIVOT (R49, R55), QUEUE_LOW is set when the count falls to the mark (R20), and SEGMENT_DONE is updated when
REPORT is set (R65). On an empty queue nothing happens. -/
def State.completeHead (s : State) : State :=
  match s.queue.records with
  | [] => s
  | r :: rest =>
    let s1 := (s.setQueue { s.queue with records := rest }).setInterp
      { s.interp with progress := 0, turnPending := (rest.head?.map Record.turns).getD false }
    let s2 :=
      if s.params.queueLowMark < rest.length + 1 ∧ rest.length ≤ s.params.queueLowMark then
        s1.noteQueueLow ⟨rest.length, s1.queue.credit⟩
      else s1
    if r.report then s2.noteSegmentDone r.tag else s2

/-- A flush (R21): every record leaves without completing, and the tail is set from the commanded values; its feed is kept. -/
def State.flush (s : State) : State :=
  (s.setQueue ⟨[], ⟨s.interp.x, s.interp.y, s.interp.heading, s.queue.tail.feed⟩⟩).setInterp
    { s.interp with progress := 0, turnPending := false }

/-! ## Acceptance -/

/-- The end point lies in the soft-limit box (R8), the bounds included. -/
def Params.inBox (p : Params) (x y : Int) : Bool :=
  decide (p.softXMin ≤ x ∧ x ≤ p.softXMax) && decide (p.softYMin ≤ y ∧ y ≤ p.softYMax)

/-- The maximum feed of a segment (R14, R15), 0.1 mm/s. -/
def Params.maxFeed (p : Params) (material : Bool) : Nat := if material then p.maxCutFeed else p.maxAirFeed

/-- The geometry of an arc as acceptance derives it (R9): the start vector `u`, the end vector `v` (both from the centre; `v`
as it gives the end direction) and r. -/
structure ArcFigures where
  centreX : Int
  centreY : Int
  ux : Int
  uy : Int
  /-- end point less centre -/
  ex : Int
  ey : Int
  vx : Int
  vy : Int
  radius : Nat
  ccw : Bool
  deriving DecidableEq, Repr

/-- The start or end vector of the sweep measured counterclockwise: for ARC_CW the two change places. -/
def ArcFigures.sweepFigure (a : ArcFigures) : Nat :=
  if a.ccw then sweepFix a.ux a.uy a.vx a.vy else sweepFix a.vx a.vy a.ux a.uy

/-- A direction lies strictly inside the sweep (R10 part 5). -/
def ArcFigures.inside (a : ArcFigures) (x y : Int) : Bool :=
  if a.ccw then insideSweep a.ux a.uy a.vx a.vy x y else insideSweep a.vx a.vy a.ux a.uy x y

/-- The end direction as a vector: end point less centre; where the end point is the centre there is no such direction and
the free value stands in (notes/assumptions/2.md). -/
def endVector (ex ey ux uy : Int) (draws : Nat) : Int × Int :=
  if ex = 0 ∧ ey = 0 then
    if Config.endDirectionAtCentre draws = (0, 0) then (ux, uy) else Config.endDirectionAtCentre draws
  else (ex, ey)

/-- The figures of an arc from the tail position and the record's fields (R9). -/
def arcFigures (tail : Tail) (g : SentSegment) (draws : Nat) : ArcFigures :=
  let cx := tail.x + g.i
  let cy := tail.y + g.j
  let ux := -g.i
  let uy := -g.j
  let v := endVector (g.x - cx) (g.y - cy) ux uy draws
  ⟨cx, cy, ux, uy, g.x - cx, g.y - cy, v.1, v.2, isqrt (g.i * g.i + g.j * g.j).toNat, g.kind == .arcCcw⟩

/-- The end point equals the start point (R9): a full circle. -/
def ArcFigures.fullCircle (a : ArcFigures) : Bool := a.ex == a.ux && a.ey == a.uy

/-- A distance rounded to nearest: the root of a squared length in whole µm. -/
def roundedRoot (n : Nat) : Nat := (isqrt (4 * n) + 1) / 2

/-- The length of an arc (R11): floor (r × sweep), a full circle floor (2π × r). -/
def ArcFigures.length (a : ArcFigures) : Nat := floorFix (a.radius * a.sweepFigure) one

/-- An axis-extreme point is in the box, or its direction is not inside the sweep (R10 part 5). -/
def ArcFigures.extremeGood (a : ArcFigures) (p : Params) (dx dy : Int) : Bool :=
  !(a.fullCircle || a.inside dx dy) ||
    p.inBox (a.centreX + dx * (a.radius : Int)) (a.centreY + dy * (a.radius : Int))

/-- Check 8 (R10), its six parts in order; absent when the arc is sound. -/
def checkArc (p : Params) (g : SentSegment) (a : ArcFigures) : Option Result :=
  if ¬((-16000000 ≤ g.i ∧ g.i ≤ 16000000) ∧ (-16000000 ≤ g.j ∧ g.j ≤ 16000000)) then some .outOfRange
  else if a.radius < p.minRadius then some .radiusSmall
  else if p.arcTol < ((roundedRoot (a.ex * a.ex + a.ey * a.ey).toNat : Int) - a.radius).natAbs then some .arcMismatch
  else if !a.fullCircle && sameDirection a.ux a.uy a.ex a.ey then some .arcMismatch
  else if !(a.extremeGood p 1 0 && a.extremeGood p 0 1 && a.extremeGood p (-1) 0 && a.extremeGood p 0 (-1)) then
    some .outOfRange
  else if a.length < 1 then some .zeroLength
  else none

/-- The entry turn (R13): the shortest signed difference, an exact half-turn as −32768. -/
def entryTurn (tailHeading entry : Half) : Int := (entry - tailHeading).toInt

/-- The junction kind (R13). -/
def junctionOf (p : Params) (turn : Int) : Junction := if turn.natAbs ≤ p.blendAngle then .blend else .pivot

/-- Check 9 (R13) fails. -/
def cornerSharp (p : Params) (material : Bool) (turn : Int) : Bool :=
  junctionOf p turn == .pivot && material && decide (p.pivotLimit < turn.natAbs)

/-- The resolved feed of a moving segment and whether it was clamped (R14). -/
def resolveFeed (p : Params) (tail : Tail) (g : SentSegment) : Nat × Bool :=
  if g.feedFlag then
    let f := clampNat 1 (p.maxFeed g.material) g.feed
    (f, decide (f ≠ g.feed))
  else (tail.feed, false)

/-- The planning cap (R15). -/
def planningCap (p : Params) (material : Bool) (arcRadius : Option Nat) : Nat :=
  match arcRadius with
  | none => p.maxFeed material * 100
  | some r => min (p.maxFeed material * 100) (r * p.turnRate / 100)

/-- What the checks say of one record: refused with a reason, or accepted as a stored record, clamped or not. -/
inductive Verdict where
  | refused (reason : Result)
  | accepted (r : Record) (clamped : Bool)
  deriving DecidableEq, Repr

/-- A moving record after checks 6 to 8: check 9 and what acceptance stores (R12 to R16). -/
def finishMoving (p : Params) (tail : Tail) (g : SentSegment) (path : Path) (length : Nat) (entry exit : Half)
    (arcRadius : Option Nat) : Verdict :=
  let turn := entryTurn tail.heading entry
  if cornerSharp p g.material turn then .refused .cornerSharp
  else
    let f := resolveFeed p tail g
    .accepted ⟨g.tag, g.material, g.report,
      .moving ⟨path, tail.x, tail.y, g.x, g.y, f.1, length, entry, exit, turn, junctionOf p turn,
        planningCap p g.material arcRadius⟩⟩ f.2

/-- Checks 6, 7 and 9 and the stored geometry of a LINE (R8, R11, R12). -/
def checkLine (p : Params) (tail : Tail) (g : SentSegment) : Verdict :=
  if !p.inBox g.x g.y then .refused .outOfRange
  else if g.x = tail.x ∧ g.y = tail.y then .refused .zeroLength
  else
    let dx := g.x - tail.x
    let dy := g.y - tail.y
    finishMoving p tail g .line (isqrt (dx * dx + dy * dy).toNat) (direction dx dy) (direction dx dy) none

/-- The heading along an arc at a direction vector (R12): a quarter turn on from it, with the sweep. -/
def tangent (ccw : Bool) (x y : Int) : Half := if ccw then direction x y + 16384#16 else direction x y - 16384#16

/-- Checks 6, 8 and 9 and the stored geometry of an arc (R8 to R12). -/
def checkArcRecord (p : Params) (tail : Tail) (g : SentSegment) (draws : Nat) : Verdict :=
  if !p.inBox g.x g.y then .refused .outOfRange
  else
    let a := arcFigures tail g draws
    match checkArc p g a with
    | some reason => .refused reason
    | none =>
      finishMoving p tail g (.arc ⟨a.centreX, a.centreY, a.radius, a.ccw, a.sweepFigure⟩) a.length
        (tangent a.ccw a.ux a.uy) (tangent a.ccw a.vx a.vy) (some a.radius)

/-- Checks 6 to 10 of a record of a known kind (R6). -/
def judgeSegment (p : Params) (tail : Tail) (g : SentSegment) (draws : Nat) : Verdict :=
  match g.kind with
  | .line => checkLine p tail g
  | .arcCw => checkArcRecord p tail g draws
  | .arcCcw => checkArcRecord p tail g draws
  | .dwell =>
    let d := clampNat 1 60000 g.duration
    .accepted ⟨g.tag, g.material, g.report, .dwell d⟩ (decide (d ≠ g.duration))
  | .programEnd => .accepted ⟨g.tag, false, g.report, .programEnd⟩ false

/-- The tail after a record is accepted (R4). -/
def Tail.after (t : Tail) (r : Record) : Tail :=
  match r.body with
  | .moving m => ⟨m.endX, m.endY, m.exitHeading, m.feed⟩
  | .dwell _ => t
  | .programEnd => t

/-- The arc's end point is its centre, so that its end direction is a free value (notes/assumptions/2.md). -/
def drawsDirection (tail : Tail) (g : SentSegment) : Bool :=
  match g.kind with
  | .arcCw => g.x == tail.x + g.i && g.y == tail.y + g.j
  | .arcCcw => g.x == tail.x + g.i && g.y == tail.y + g.j
  | .line => false
  | .dwell => false
  | .programEnd => false

/-- A record appended (R16): at the end of the queue, with the tail updated; the head of an empty queue has its turn pending when
its junction is PIVOT (R49). -/
def State.append (s : State) (r : Record) : State :=
  let s1 := s.setQueue ⟨s.queue.records ++ [r], s.queue.tail.after r⟩
  if s.queue.records.isEmpty then s1.setInterp { s.interp with progress := 0, turnPending := r.turns } else s1

/-- Where the examination of a SEGMENTS body stands (R22). -/
structure Batch where
  result : Result
  accepted : Nat
  clamped : Nat
  refusedTag : Half
  deriving DecidableEq, Repr

/-- Checks 3 to 5 (R7), in order. -/
def State.checkMachine (s : State) : Option Result :=
  if s.seq.engine = .aborted then some .aborted
  else if !s.bus.allAdopted then some .axesIncomplete
  else if 128 ≤ s.queue.records.length then some .queueFull
  else none

/-- What the examination of one record gives: the verdict, the record's length in bytes and the count of free values
drawn after it (notes/assumptions/2.md). -/
structure Examined where
  verdict : Verdict
  length : Nat
  draws : Nat
  deriving DecidableEq, Repr

/-- The ten checks on the record at the front of `body` (R6). -/
def State.examine (s : State) (body : List Byte) : Examined :=
  match SegmentKind.ofByte (readByte body 0) with
  | none => ⟨.refused .badKind, 0, s.draws⟩
  | some k =>
    let len := k.length ((readByte body 1).getLsbD 1)
    if body.length < len then ⟨.refused .badLength, 0, s.draws⟩
    else
      match s.checkMachine with
      | some reason => ⟨.refused reason, 0, s.draws⟩
      | none =>
        let g := SentSegment.read k body
        ⟨judgeSegment s.params s.queue.tail g s.draws, len,
          if drawsDirection s.queue.tail g then s.draws + 1 else s.draws⟩

/-- The records of a body examined in order (R22), each against what the records before it left; `fuel` bounds their number. -/
def State.takeSegments : Nat → List Byte → Batch → State → State × Batch
  | 0, _, b, s => (s, b)
  | fuel + 1, body, b, s =>
    if body.isEmpty then (s, b)
    else
      let e := s.examine body
      match e.verdict with
      | .refused reason => (s.setDraws e.draws, { b with result := reason, refusedTag := Machine.refusedTag body })
      | .accepted r clamped =>
        takeSegments fuel (body.drop e.length)
          { b with
            accepted := b.accepted + 1
            clamped := b.clamped + (if clamped then 1 else 0)
            result := if clamped then .clamped else b.result }
          ((s.setDraws e.draws).append r)

end Sys2Proof.Machine
end

