-- ==== Sys2Proof/Machine/Planner.lean ====
section
/-! DEFINITION. The planner: junction speeds, entry limits and exits (R26 to R29), the allowance (R31), the targets (R32 to R35),
the new feed (R36, R37) and the travel of a step across segment ends (R39 to R41). -/

namespace Sys2Proof.Machine

/-- The length L of a record (R11): 0 for DWELL and END. -/
def Record.length (r : Record) : Nat :=
  match r.body with
  | .moving m => m.length
  | .dwell _ => 0
  | .programEnd => 0

/-- The planning cap of a record (R15): 0 for DWELL and END. -/
def Record.cap (r : Record) : Nat :=
  match r.body with
  | .moving m => m.cap
  | .dwell _ => 0
  | .programEnd => 0

/-- The record is a LINE, ARC_CW or ARC_CCW. -/
def Record.moves (r : Record) : Bool :=
  match r.body with
  | .moving _ => true
  | .dwell _ => false
  | .programEnd => false

/-- The junction speed between a window entry and the one that follows it (R27). -/
def junctionSpeed (k next : Record) : Nat :=
  if k.moves && next.moves && !next.turns then min k.cap next.cap else 0

/-- The speed from which a deceleration of D over `l` µm comes down to `exit` (R28, R31). -/
def brakingSpeed (d exit l : Nat) : Nat := isqrt (exit * exit + 2000 * d * l)

/-- The entry limit of a window entry with an exit speed (R28). -/
def entryLimit (d : Nat) (r : Record) (exit : Nat) : Nat :=
  if r.moves then min r.cap (brakingSpeed d exit r.length) else 0

/-- The exit speed of the first entry of a window (R29), derived from the back. -/
def exitSpeed (d : Nat) : List Record → Nat
  | [] => 0
  | [_] => 0
  | k :: next :: rest => min (junctionSpeed k next) (entryLimit d next (exitSpeed d (next :: rest)))

/-- The exit of the active segment (R26, R29): over the first eight records of the queue. -/
def activeExit (d : Nat) (records : List Record) : Nat := exitSpeed d (records.take 8)

/-- The geometric allowance (R31) of a segment with length `l` and an exit, at a path progress. -/
def allowance (d exit l progress : Nat) : Nat := brakingSpeed d exit (ceilDiv (l * 1000 - progress) 1000)

/-- The bite term (R33). -/
def State.biteTerm (s : State) : Nat :=
  if s.stroke.state = .running then s.materialEntry.bite * s.stroke.fm / 10 else 0

/-- The running target (R32, R34) on a moving record. -/
def State.runningTarget (s : State) (r : Record) (m : Moving) : Nat :=
  let programmed := m.feed * s.override
  if r.material then min (min programmed (s.materialEntry.feedCap * 100)) (min m.cap s.biteTerm)
  else min programmed m.cap

/-- The target of a path step (R25, R32, R34, R35). -/
def State.target (s : State) (r : Record) (m : Moving) : Nat :=
  if s.seq.engine = .running then s.runningTarget r m else 0

/-- The wanted feed (R36): the target approached from the present feed by at most D. -/
def wantedFeed (v d target : Nat) : Nat := if v ≤ target then min target (v + d) else max target (v - d)

/-- The new feed (R37). -/
def State.newFeed (s : State) (r : Record) (m : Moving) : Nat :=
  let d := s.params.rampStep
  min (wantedFeed s.interp.feed d (s.target r m))
    (allowance d (activeExit d s.queue.records) m.length s.interp.progress)

/-- Where a path step has come to. -/
structure Travel where
  /-- the records completed, in queue order -/
  completed : List Record
  /-- the records that remain, head first -/
  left : List Record
  progress : Nat
  /-- the step ended on an end point with exit 0 (R41) -/
  landed : Bool
  /-- the excess that the landing discards, nm -/
  discarded : Nat
  deriving DecidableEq, Repr

/-- A distance travelled from a progress on the head of a queue (R39 to R41, R54 to R56): it stops within a record, lands on
an end with exit 0, or carries its excess into the next record. DESIGN CHOICE (notes/assumptions/29.md): the exit at each end of a
chain is that of the window as it then stands (R30, R40), so a chain over records short enough can pass more than the eight records of
the window it began with, where R40 also says that it "stops within the window at the latest". -/
def travel (d : Nat) : List Record → Nat → Nat → Travel
  | [], _, dist => ⟨[], [], 0, true, dist⟩
  | r :: rest, progress, dist =>
    let remaining := r.length * 1000 - progress
    if dist < remaining then ⟨[], r :: rest, progress + dist, false, 0⟩
    else if activeExit d (r :: rest) = 0 then ⟨[r], rest, 0, true, dist - remaining⟩
    else
      let t := travel d rest 0 (dist - remaining)
      { t with completed := r :: t.completed }

end Sys2Proof.Machine
end

