-- ==== Sys2Proof/Machine/Interp.lean ====
section
/-! DEFINITION. The interpolator: positions and headings (R51 to R53), the path step (R54 to R56), pivots (R58, R59) and the
frame's report (R64). -/

namespace Sys2Proof.Machine

/-- The commanded X, Y and H on a moving record at a progress (R51 to R53). -/
def Moving.pose (m : Moving) (progress : Nat) : Int × Int × Half :=
  match m.path with
  | .line =>
    let dx := m.endX - m.startX
    let dy := m.endY - m.startY
    let n2 := (dx * dx + dy * dy).toNat
    (lineCoordinate m.startX dx progress n2, lineCoordinate m.startY dy progress n2, m.entryHeading)
  | .arc g =>
    let ux := m.startX - g.centreX
    let uy := m.startY - g.centreY
    let b := arcAngle progress g.radius
    let off := arcOffset ux uy g.radius g.ccw b
    (g.centreX + off.1, g.centreY + off.2, arcHeading ux uy g.ccw b)

/-- What the interpolator's work of a frame hands on (R50, R64): the advance, the material flag, a landing, a pivot end. -/
structure FrameWork where
  advance : Nat
  material : Bool
  landed : Bool
  pivotEnded : Bool
  deriving DecidableEq, Repr

/-- The records completed by a step leave the queue in queue order (R56, R65). -/
def State.completeAll : List Record → State → State
  | [], s => s
  | _ :: rest, s => completeAll rest s.completeHead

/-- The path stops within the record that now heads the queue (R54, R56): its progress and pose, and the feed; after a carry the
feed is bounded by the new segment's allowance (R40). -/
def State.stopWithin (s : State) (t : Travel) (v : Nat) : State :=
  match s.queue.records with
  | [] => s
  | r :: _ =>
    match r.body with
    | .moving m =>
      let pose := m.pose t.progress
      let d := s.params.rampStep
      let feed :=
        if t.completed.isEmpty then v
        else min v (allowance d (activeExit d s.queue.records) m.length t.progress)
      s.setInterp { s.interp with x := pose.1, y := pose.2.1, heading := pose.2.2, feed := feed, progress := t.progress }
    | .dwell _ => s
    | .programEnd => s

/-- The pose of a landing (R55): the end point and the exit heading of the record landed on. -/
def State.landOn (s : State) (r : Record) : State :=
  match r.body with
  | .moving m => s.setInterp { s.interp with x := m.endX, y := m.endY, heading := m.exitHeading, feed := 0 }
  | .dwell _ => s.setInterp { s.interp with feed := 0 }
  | .programEnd => s.setInterp { s.interp with feed := 0 }

/-- Every record on which the path travelled in the step is MATERIAL: those completed and, unless the step landed, the one in which
it stops. A carry from one kind of record into the other reports clear, whatever its excess (R64). -/
def Travel.allMaterial (t : Travel) : Bool :=
  t.completed.all Record.material && (t.landed || ((t.left.head?).map Record.material).getD false)

/-- The path step of a frame (R54 to R56) on the moving head record `r`. -/
def State.pathStep (s : State) (r : Record) (m : Moving) : State × FrameWork :=
  let v := s.newFeed r m
  if v = 0 then (s.setInterp { s.interp with feed := 0 }, ⟨0, r.material, false, false⟩)
  else
    let t := travel s.params.rampStep s.queue.records s.interp.progress v
    let s1 := State.completeAll t.completed s
    if t.landed then
      let s2 := match t.completed.getLast? with | none => s1 | some last => s1.landOn last
      (s2, ⟨v - t.discarded, t.allMaterial, true, false⟩)
    else (s1.stopWithin t v, ⟨v, t.allMaterial, false, false⟩)

/-- A pivot begins (R58): the feed is 0 and the turn record is created; a half-turn, stored as −32768, turns clockwise. -/
def State.pivotStart (s : State) (m : Moving) : State :=
  s.setInterp { s.interp with feed := 0, turn := some ⟨decide (0 < m.turn), m.turn.natAbs⟩ }

/-- A heading advanced by `n` hu in a direction, modulo 65536 (R59). -/
def turnBy (h : Half) (ccw : Bool) (n : Nat) : Half := if ccw then h + BitVec.ofNat 16 n else h - BitVec.ofNat 16 n

/-- A pivot step (R59). -/
def State.pivotStep (s : State) (t : Turn) (material : Bool) : State × FrameWork :=
  let rate := s.params.pivotRate
  if rate < t.remaining then
    (s.setInterp { s.interp with
      heading := turnBy s.interp.heading t.ccw rate, turn := some { t with remaining := t.remaining - rate } },
      ⟨0, material, false, false⟩)
  else
    (s.setInterp { s.interp with
      heading := turnBy s.interp.heading t.ccw t.remaining, turn := none, turnPending := false },
      ⟨0, material, false, true⟩)

/-- The material flag of a frame without motion (R64): that of the active record; clear when there is none. -/
def State.restFlag (s : State) : Bool := (s.activeRecord.map Record.material).getD false

/-- The states whose frames step or pivot (R50). -/
def Engine.steps : Engine → Bool
  | .running | .holding | .halting | .cancelling => true
  | .idle | .pivoting | .dwelling | .starved | .held | .halted | .aborted => false

/-- The states whose frames finish a pivot in progress (R50). -/
def Engine.pivots : Engine → Bool
  | .pivoting | .holding | .halting | .cancelling => true
  | .idle | .running | .dwelling | .starved | .held | .halted | .aborted => false

/-- The interpolator's one piece of work of a frame (R50). -/
def State.interpolate (s : State) : State × FrameWork :=
  match s.interp.turn with
  | some t =>
    if s.seq.engine.pivots then s.pivotStep t s.restFlag else (s, ⟨0, s.restFlag, false, false⟩)
  | none =>
    if s.seq.engine.steps && !s.interp.turnPending then
      match s.queue.records with
      | [] => (s, ⟨0, s.restFlag, false, false⟩)
      | r :: _ =>
        match r.body with
        | .moving m => s.pathStep r m
        | .dwell _ => (s, ⟨0, s.restFlag, false, false⟩)
        | .programEnd => (s, ⟨0, s.restFlag, false, false⟩)
    else (s, ⟨0, s.restFlag, false, false⟩)

end Sys2Proof.Machine
end

