-- ==== Sys2Proof/Machine/Sequencer.lean ====
section
/-! DEFINITION. The cut sequencer: changes of engine state (R87), dispatch (R70, R71), rests (R69), timers (R62, R85), the
program requests (R74 to R78) and the reactions to the trip level (R80 to R84). -/

namespace Sys2Proof.Machine

/-! ## Changes of engine state -/

/-- The engine enters `e` (R87): a change updates the ENGINE_STATE record with its cause and interrupted part; entering the state
it is in changes nothing. -/
def State.enterEngine (s : State) (e : Engine) (c : Cause) (part : Option Interrupted) : State :=
  if s.seq.engine = e then s
  else (s.setSeq { s.seq with engine := e }).noteEngine ⟨e, s.seq.engine, c, part⟩

/-- The engine enters RUNNING, PIVOTING or DWELLING: the stroke start is requested from any state other than these three (R72). -/
def State.enterProgram (s : State) (e : Engine) (c : Cause) : State :=
  (if s.seq.engine.runsProgram then s else s.strokeStart).enterEngine e c none

/-- The resume memory takes a value (R73). -/
def State.setResume (s : State) (m : Option Resume) : State := s.setSeq { s.seq with resume := m }

/-- The starve timer takes a value (R85). -/
def State.setStarve (s : State) (t : StarveTimer) : State := s.setSeq { s.seq with starve := t }

/-- The dwell count takes a value (R62). -/
def State.setDwell (s : State) (n : Nat) : State := s.setSeq { s.seq with dwellCount := n }

/-- What the resume memory is written with on entry into HOLDING, HALTING, HELD or HALTED (R73). -/
def Engine.memory : Engine → Option Resume
  | .running => some .running
  | .pivoting => some .running
  | .dwelling => some .dwelling
  | .starved => some .starved
  | .idle | .holding | .held | .halting | .halted | .cancelling | .aborted => none

/-! ## Moving on from rest (R70, R71, R85) -/

/-- Entry into STARVED (R85): the starve timer is loaded; with a timeout of 0 it expires at once. -/
def State.enterStarved (s : State) : State :=
  let s1 := s.enterEngine .starved .starve none
  if s.params.starveTimeout = 0 then (s1.setStarve .expired).strokeStop
  else s1.setStarve (.running s.params.starveTimeout)

/-- An END is reached (R71): it completes, the stroke stop is requested and the engine enters IDLE; reached by the dispatch of
START, in IDLE, it only completes. -/
def State.endReached (s : State) (c : Cause) : State :=
  let s1 := s.completeHead
  if s.seq.engine = .idle then s1 else ((s1.strokeStop).setResume none).enterEngine .idle c none

/-- The dispatch on the head of the queue (R70) with the cause of the event; `keep` leaves the dwell count as it is. -/
def State.dispatch (s : State) (c : Cause) (keep : Bool) : State :=
  match s.queue.records with
  | [] => s.enterStarved
  | r :: _ =>
    match r.body with
    | .dwell _ => (if keep then s else s.setDwell 0).enterProgram .dwelling c
    | .programEnd => s.endReached c
    | .moving m =>
      if s.interp.turnPending then (s.pivotStart m).enterProgram .pivoting c else s.enterProgram .running c

/-! ## Interrupted report and flushes (R82, R83) -/

/-- The interrupted report as the state stands (R83). -/
def State.report (s : State) : Interrupted :=
  ⟨s.activeRecord.map fun r => (r.tag, s.interp.progress / 1000), s.interp.x, s.interp.y⟩

/-- The flush ordered by a CANCEL outside IDLE (R69, R77): report, flush, stroke stop, IDLE. -/
def State.cancelFlush (s : State) (c : Cause) : State :=
  let part := s.report
  let s1 := (s.setSeq { s.seq with interrupted := some part }).flush.strokeStop
  (s1.setSeq { s1.seq with resume := none, starve := .stopped, dwellCount := 0 }).enterEngine .idle c (some part)

/-- A quick stop (R82), in its order. -/
def State.quickStop (s : State) : State :=
  let s1 := s.setInterp { s.interp with feed := 0, turn := none }
  let part := s1.report
  let s2 := (s1.setSeq { s1.seq with interrupted := some part }).flush.strokeStop
  (s2.setSeq { s2.seq with resume := none, starve := .stopped, dwellCount := 0 }).enterEngine .aborted .trip (some part)

/-! ## Rests and timers -/

/-- The rest test of a frame (R69) and what its passing completes. -/
def State.restTest (s : State) : State :=
  if s.interp.turn.isNone && s.interp.feed == 0 then
    match s.seq.engine with
    | .holding => s.enterEngine .held .drained none
    | .halting => s.strokeStop.enterEngine .halted .drained none
    | .cancelling => s.cancelFlush .drained
    | .idle | .running | .pivoting | .dwelling | .starved | .held | .halted | .aborted => s
  else s

/-- The stored duration of a DWELL at the head of the queue (R62). -/
def State.headDwell (s : State) : Option Nat :=
  match s.queue.records with
  | [] => none
  | r :: _ =>
    match r.body with
    | .dwell d => some d
    | .moving _ => none
    | .programEnd => none

/-- A dwell expires (R62): its record completes and the sequencer dispatches. The count is then that of no dwell: a DWELL reached later
by a landing keeps a count of 0 (R69). -/
def State.dwellExpire (s : State) : State := (s.completeHead.setDwell 0).dispatch .ending false

/-- The dwell count of a frame that began in DWELLING (R62). -/
def State.countDwell (s : State) : State :=
  match s.headDwell with
  | none => s
  | some d =>
    let s1 := s.setDwell (s.seq.dwellCount + 1)
    if d ≤ s.seq.dwellCount + 1 then s1.dwellExpire else s1

/-- The starve timer expires (R85). -/
def State.starveExpire (s : State) : State := (s.setStarve .expired).strokeStop

/-- The starve timer of a frame that began in STARVED (R85). -/
def State.countStarve (s : State) : State :=
  match s.seq.starve with
  | .stopped => s
  | .expired => s
  | .running n => if n ≤ 1 then s.starveExpire else s.setStarve (.running (n - 1))

/-! ## Program requests -/

/-- START (R74). -/
def State.serveStart (s : State) : State × Result :=
  if s.seq.engine ≠ .idle then (s, .state)
  else if s.queue.records.isEmpty then (s, .state)
  else if !(s.bus.allActive && s.bus.allAdopted) then (s, .axesIncomplete)
  else if s.trip.level ≠ .none then (s, .tripped)
  else if s.stroke.tareInFlight then (s, .tareActive)
  else (s.dispatch .request false, .ok)

/-- What a hold does in each state (R75, R80). -/
def State.holdEffect (s : State) (c : Cause) : State :=
  match s.seq.engine with
  | .running | .pivoting | .dwelling => (s.setResume s.seq.engine.memory).enterEngine .holding c none
  | .starved => ((s.setResume (some .starved)).setStarve .stopped).enterEngine .held c none
  | .idle | .holding | .held | .halting | .halted | .cancelling | .aborted => s

/-- HOLD (R75). -/
def State.serveHold (s : State) : State × Result :=
  match s.seq.engine with
  | .idle | .aborted => (s, .state)
  | .running | .pivoting | .dwelling | .starved | .holding | .held | .halting | .halted | .cancelling =>
    (s.holdEffect .request, .ok)

/-- What a RESUME makes of the resume memory (R73), which it clears. -/
def State.actOnMemory (s : State) : State :=
  (s.setResume none).dispatch .request (s.seq.resume == some .dwelling)

/-- RESUME (R76). -/
def State.serveResume (s : State) : State × Result :=
  match s.seq.engine with
  | .holding =>
    if s.trip.level ≠ .none then (s, .tripped)
    else if s.interp.turn.isSome then ((s.setResume none).enterProgram .pivoting .request, .ok)
    else (s.actOnMemory, .ok)
  | .held => if s.trip.level ≠ .none then (s, .tripped) else (s.actOnMemory, .ok)
  | .halted => if s.trip.level ≠ .none then (s, .tripped) else (s.strokeStart.actOnMemory, .ok)
  | .idle | .running | .pivoting | .dwelling | .starved | .halting | .cancelling | .aborted => (s, .state)

/-- CANCEL (R77). -/
def State.serveCancel (s : State) : State × Result :=
  match s.seq.engine with
  | .running | .pivoting | .dwelling | .holding | .halting =>
    ((s.setSeq { s.seq with resume := none, dwellCount := 0 }).enterEngine .cancelling .request none, .ok)
  | .cancelling => (s, .ok)
  | .held | .halted | .starved => (s.cancelFlush .request, .ok)
  | .idle => (s.flush.strokeStop, .ok)
  | .aborted => (s, .state)

/-- A slot that check 3 of RECOVER passes (R139): inactive, or with a valid actual and a miss count of 2 or less. -/
def SlotState.recent (k : SlotState) : Bool := !k.active || (k.actual.isSome && decide (k.misses ≤ 2))

/-- Check 3 of RECOVER (R78, R139). -/
def Bus.allRecent (b : Bus) : Bool := b.x.recent && b.y.recent && b.h.recent && b.s.recent

/-- The commanded value that RECOVER leaves on an axis: the latest valid actual of an active slot, else the value kept (R78). -/
def SlotState.recovered (k : SlotState) (kept : Int) : Int := if k.active then k.actual.getD kept else kept

/-- A slot after RECOVER: an active one is adopted (R139). -/
def SlotState.adoptIfActive (k : SlotState) : SlotState := if k.active then { k with adopted := true } else k

/-- The acceptance of RECOVER (R78, R139). -/
def State.recoverEffect (s : State) : State :=
  let x := s.bus.x.recovered s.interp.x
  let y := s.bus.y.recovered s.interp.y
  let h := if s.bus.h.active then ((s.bus.h.actual).map fun a => BitVec.ofInt 16 a).getD s.interp.heading
    else s.interp.heading
  let s1 := s.setInterp { s.interp with x := x, y := y, heading := h, feed := 0, progress := 0, turn := none }
  let s2 := s1.setQueue { s1.queue with tail := ⟨x, y, h, s1.queue.tail.feed⟩ }
  let s3 := s2.setBus { s2.bus with
    x := s2.bus.x.adoptIfActive, y := s2.bus.y.adoptIfActive, h := s2.bus.h.adoptIfActive }
  (s3.setResume none).enterEngine .idle .request none

/-- RECOVER (R78). -/
def State.serveRecover (s : State) : State × Result :=
  if s.seq.engine ≠ .aborted then (s, .state)
  else if s.trip.level = .quickStop then (s, .tripped)
  else if !s.bus.allRecent then (s, .axesIncomplete)
  else (s.recoverEffect, .ok)

/-- OVERRIDE (R43, R79): the planner stores the value, a value above 150 as 150. -/
def State.serveOverride (s : State) (v : Nat) : State × Result :=
  let stored := clampNat 0 150 v
  (s.setOverride stored, Result.okOr (decide (stored ≠ v)))

/-- The arrival that ends STARVED (R86). -/
def State.arrival (s : State) : State :=
  if s.seq.engine = .starved then (s.setStarve .stopped).dispatch .starve false else s

/-! ## The trip level -/

/-- The sequencer takes the change at the front of those handed on to it when it is one of the kind `k` (R154): it leaves the
list and `act` is done. Otherwise there is no such event and nothing happens. -/
def State.takeChange (s : State) (k : LevelChange → Bool) (act : State → State) : State :=
  match s.seq.changes with
  | [] => s
  | c :: rest => if k c then act (s.setSeq { s.seq with changes := rest }) else s

/-- The change is a rise to a level. -/
def LevelChange.risesTo (c : LevelChange) (l : TripLevel) : Bool := c.after == l && decide (c.before.rank < l.rank)

/-- The change is a fall. -/
def LevelChange.falls (c : LevelChange) : Bool := decide (c.after.rank < c.before.rank)

/-- What a rise to HALT does in each state (R81). -/
def State.haltEffect (s : State) : State :=
  match s.seq.engine with
  | .running | .pivoting | .dwelling => (s.setResume s.seq.engine.memory).enterEngine .halting .trip none
  | .holding => s.enterEngine .halting .trip none
  | .held => s.strokeStop.enterEngine .halted .trip none
  | .starved =>
    (((s.strokeStop).setResume (some .starved)).setStarve .stopped).enterEngine .halted .trip none
  | .halting | .halted | .cancelling | .idle | .aborted => s

/-- What a rise to QUICK_STOP does in each state (R82). -/
def State.quickStopEffect (s : State) : State := if s.seq.engine = .aborted then s else s.quickStop

/-- A rise to HOLD taken by the sequencer (R80). -/
def State.takeRiseHold (s : State) : State := s.takeChange (·.risesTo .hold) fun t => t.holdEffect .trip

/-- A rise to HALT taken by the sequencer (R81); a tare in flight fails (R110, R154). -/
def State.takeRiseHalt (s : State) : State := s.takeChange (·.risesTo .halt) fun t => t.haltEffect.failTare

/-- A rise to QUICK_STOP taken by the sequencer (R82); a tare in flight fails (R110, R154). -/
def State.takeRiseQuickStop (s : State) : State :=
  s.takeChange (·.risesTo .quickStop) fun t => t.quickStopEffect.failTare

/-- A fall taken by the sequencer (R84): no engine state changes. -/
def State.takeFall (s : State) : State := s.takeChange (·.falls) fun t => t

end Sys2Proof.Machine
end

