-- ==== Sys2Proof/Machine/Bus.lean ====
section
/-! DEFINITION. The drive bus master: activation (R128), setpoint records (R129, R130), returns (R131 to R133), the drive
conditions (R134 to R137) and adoption (R138). -/

namespace Sys2Proof.Machine

/-! ## The conditions handed to the trip unit -/

/-- A slot set: bit n for slot n. -/
def slotSetOf (x y h st : Bool) : BitVec 4 :=
  BitVec.ofNat 4 (x.toNat + 2 * y.toNat + 4 * h.toNat + 8 * st.toNat)

/-- The active slots with their lost flag true (R134). -/
def Bus.lostSlots (b : Bus) : BitVec 4 :=
  slotSetOf (b.x.active && b.x.lost) (b.y.active && b.y.lost) (b.h.active && b.h.lost) (b.s.active && b.s.lost)

/-- The active slots with their fault flag true (R135). -/
def Bus.faultSlots (b : Bus) : BitVec 4 :=
  slotSetOf (b.x.active && b.x.fault) (b.y.active && b.y.fault) (b.h.active && b.h.fault) (b.s.active && b.s.fault)

/-- A slot of the bus replaced in the state. -/
def State.putSlot (s : State) (k : Slot) (v : SlotState) : State := s.setBus (s.bus.put k v)

/-- The lost flag of a slot takes a value; a change of the set is handed on with the condition (R134). -/
def State.setLost (s : State) (k : Slot) (b : Bool) : State :=
  if (s.bus.get k).lost = b then s
  else
    let s1 := s.putSlot k { s.bus.get k with lost := b }
    s1.setLostSet s1.bus.lostSlots

/-- The fault flag of a slot takes a value; a change of the set is handed on with the condition (R135). -/
def State.setFault (s : State) (k : Slot) (b : Bool) : State :=
  if (s.bus.get k).fault = b then s
  else
    let s1 := s.putSlot k { s.bus.get k with fault := b }
    s1.setFaultSet s1.bus.faultSlots

/-- The FOLLOW source of an axis; S has none (R137). -/
def Slot.followSource : Slot → Option (Fin 15)
  | .x => some 10
  | .y => some 11
  | .h => some 12
  | .s => none

/-- The following flag of an axis takes a value; a change is handed on (R137). -/
def State.setFollowing (s : State) (k : Slot) (b : Bool) : State :=
  match k.followSource with
  | none => s
  | some i =>
    if (s.bus.get k).following = b then s
    else (s.putSlot k { s.bus.get k with following := b }).setCondition i b

/-! ## The frame begin -/

/-- The activity flag of a slot in the working SLOT_MASK (R128). -/
def Params.slotActive (p : Params) : Slot → Bool
  | .x => p.slotMask.getLsbD 0
  | .y => p.slotMask.getLsbD 1
  | .h => p.slotMask.getLsbD 2
  | .s => p.slotMask.getLsbD 3

/-- A slot deactivated (R128): each flag that falls is handed on, the actual is discarded and the axis is not adopted. DESIGN CHOICE
(notes/assumptions/31.md): several slots deactivated at one frame begin hand their flags on slot by slot, in the order X, Y, H, S, and
each its lost, fault and following flag in turn. -/
def State.deactivateSlot (s : State) (k : Slot) : State :=
  let s1 := ((s.setLost k false).setFault k false).setFollowing k false
  s1.putSlot k { s1.bus.get k with active := false, actual := none, adopted := false, sentNow := none, sentBefore := none }

/-- A slot at a frame begin (R128, R129): activated, deactivated or carried on, with the record of the frame before kept. -/
def State.openSlot (s : State) (k : Slot) : State :=
  let slot := s.bus.get k
  if s.params.slotActive k then
    if slot.active then s.putSlot k { slot with sentBefore := slot.sentNow, sentNow := none }
    else s.putSlot k (SlotState.reset true)
  else if slot.active then s.deactivateSlot k
  else s

/-- The master opens a frame (R127, R128): the frame count rises by 1, and the slots are taken from SLOT_MASK. -/
def State.openFrame (s : State) : State :=
  let s1 := s.setBus { s.bus with frameCount := s.bus.frameCount + 1, window := none, opening := none, line := [] }
  (((s1.openSlot .x).openSlot .y).openSlot .h).openSlot .s

/-- The setpoint value of a slot as its source stands (R129). -/
def State.setpointOf (s : State) : Slot → Int
  | .x => s.interp.x
  | .y => s.interp.y
  | .h => (s.interp.heading.toNat : Int)
  | .s => (s.stroke.setpoint : Int)

/-- A slot with its setpoint of the frame fixed (R129). -/
def SlotState.fix (k : SlotState) (v : Int) : SlotState := if k.active then { k with setpoint := v } else k

/-- The setpoints of the frame are taken (R129). -/
def State.takeSetpoints (s : State) : State :=
  s.setBus { s.bus with
    x := s.bus.x.fix (s.setpointOf .x), y := s.bus.y.fix (s.setpointOf .y)
    h := s.bus.h.fix (s.setpointOf .h), s := s.bus.s.fix (s.setpointOf .s) }

/-! ## Setpoint records -/

/-- The quick-stop flag (R130). -/
def Bus.quickStopFlag (b : Bus) : Bool := b.level == .quickStop

/-- The enable flag of a slot's record from the state that stands when it is sent (R130). -/
def State.enableOf (s : State) (k : Slot) : Bool :=
  let below := !s.bus.quickStopFlag
  match k with
  | .x => s.bus.x.adopted && below && !(s.seq.engine == .aborted)
  | .y => s.bus.y.adopted && below && !(s.seq.engine == .aborted)
  | .h => s.bus.h.adopted && below && !(s.seq.engine == .aborted)
  | .s => s.stroke.enable && below

/-- The master sends the setpoint record of a slot and opens its return window (R127, R130); enable off clears the following
flag (R137). DESIGN CHOICE (notes/assumptions/33.md): the records of X, Y and H that are still to be sent in the frame in which RECOVER is
taken carry enable on (R130) at the values fixed at the frame's begin (R129), where R130 has the first records after RECOVER at the
actuals. -/
def State.sendSlot (s : State) (k : Slot) : State :=
  let slot := s.bus.get k
  let enable := s.enableOf k
  let b := s.bus.put k { slot with sentNow := some ⟨slot.setpoint, enable⟩ }
  let s1 := s.setBus { b with
    line := b.line ++ setpointRecord k enable s.bus.quickStopFlag slot.setpoint, window := some ⟨k, false⟩ }
  if enable then s1 else s1.setFollowing k false

/-- The next active slot of a list is begun; after the last the line is quiet (R127). -/
def State.sendFirstOf : List Slot → State → State
  | [], s => s.setBus { s.bus with window := none }
  | k :: rest, s => if (s.bus.get k).active then s.sendSlot k else sendFirstOf rest s

/-- The slots that follow a slot in frame order. -/
def Slot.later : Slot → List Slot
  | .x => [.y, .h, .s]
  | .y => [.h, .s]
  | .h => [.s]
  | .s => []

/-- The sync record and the first active slot's record are sent (R127). -/
def State.sendFrame (s : State) : State :=
  State.sendFirstOf [.x, .y, .h, .s] (s.setBus { s.bus with line := syncRecord s.bus.frameCount })

/-! ## Returns -/

/-- A missed return (R133): the count rises by 1, saturating at 255, and at 3 the slot is lost. -/
def State.missReturn (s : State) (k : Slot) : State :=
  let n := saturate 255 (s.bus.get k).misses
  let s1 := s.putSlot k { s.bus.get k with misses := n }
  if n = 3 then s1.setLost k true else s1

/-- The actual that a return brings (R131): X and Y in µm, H modulo 65536, S as received. -/
def returnActual (k : Slot) (actual : Word) : Int :=
  match k with
  | .x => actual.toInt
  | .y => actual.toInt
  | .h => ((actual.toNat % 65536 : Nat) : Int)
  | .s => actual.toInt

/-- The test of the actual of a return (R131). -/
def actualInRange (k : Slot) (actual : Word) : Bool :=
  match k with
  | .x => decide (-8000000 ≤ actual.toInt ∧ actual.toInt ≤ 8000000)
  | .y => decide (-8000000 ≤ actual.toInt ∧ actual.toInt ≤ 8000000)
  | .h => true
  | .s => true

/-- The commanded value of an axis and, on an empty queue, the matching tail field take the actual (R5, R66, R138). -/
def State.adoptValue (s : State) (k : Slot) (a : Int) : State :=
  let tail := s.queue.tail
  let empty := s.queue.records.isEmpty
  match k with
  | .x =>
    let s1 := s.setInterp { s.interp with x := a }
    if empty then s1.setQueue { s1.queue with tail := { tail with x := a } } else s1
  | .y =>
    let s1 := s.setInterp { s.interp with y := a }
    if empty then s1.setQueue { s1.queue with tail := { tail with y := a } } else s1
  | .h =>
    let s1 := s.setInterp { s.interp with heading := BitVec.ofInt 16 a }
    if empty then s1.setQueue { s1.queue with tail := { tail with heading := BitVec.ofInt 16 a } } else s1
  | .s => s

/-- The slot is an axis: X, Y or H. -/
def Slot.isAxis : Slot → Bool
  | .x | .y | .h => true
  | .s => false

/-- Stage 4 of a valid return (R138): adoption, when it is pending, the return says READY and the engine is not ABORTED. -/
def State.adoptStage (s : State) (k : Slot) (ready : Bool) (a : Int) : State :=
  if k.isAxis && !(s.bus.get k).adopted && ready && !(s.seq.engine == .aborted) then
    let s1 := s.adoptValue k a
    s1.putSlot k { s1.bus.get k with adopted := true }
  else s

/-- The following error exceeds its limit (R136). -/
def State.followExceeds (s : State) (k : Slot) (a v : Int) : Bool :=
  match k with
  | .x => decide (s.params.followLimitXY < (a - v).natAbs)
  | .y => decide (s.params.followLimitXY < (a - v).natAbs)
  | .h => decide (s.params.followLimitH < (BitVec.ofInt 16 (a - v)).toInt.natAbs)
  | .s => false

/-- Stage 5 of a valid return (R136): the following check, on an axis adopted before the return whose record of the frame before
carried enable on, below QUICK_STOP. -/
def State.followStage (s : State) (k : Slot) (adoptedBefore : Bool) (a : Int) : State :=
  match (s.bus.get k).sentBefore with
  | none => s
  | some sent =>
    if k.isAxis && adoptedBefore && sent.enable && !s.bus.quickStopFlag then
      s.setFollowing k (s.followExceeds k a sent.value)
    else s

/-- Stage 6 of a valid return (R95, R132): the AT_REST flag of an S return stops a STOPPING stroke. -/
def State.restStage (s : State) (k : Slot) (atRest : Bool) : State :=
  match k with
  | .s => if atRest && s.stroke.state == .stopping then s.strokeStopped else s
  | .x => s
  | .y => s
  | .h => s

/-- A valid return (R132) in its six stages. -/
def State.validReturn (s : State) (k : Slot) (status : Byte) (a : Int) : State :=
  let adoptedBefore := (s.bus.get k).adopted
  let s1 := (s.putSlot k { s.bus.get k with misses := 0 }).setLost k false
  let s2 := s1.putSlot k { s1.bus.get k with actual := some a }
  let s3 := s2.setFault k (returnFault status)
  let s4 := s3.adoptStage k (returnReady status) a
  let s5 := s4.followStage k adoptedBefore a
  s5.restStage k (returnAtRest status)

/-- A return of the frame now in progress can still come: the open window has none yet, or the first window after a host RESET has not
opened (R141). -/
def Bus.returnAwaited (b : Bus) : Bool :=
  (match b.window with
    | none => false
    | some w => !w.answered) || b.opening.isSome

/-- Reference cycles from a frame begin to the end of its first setpoint record, where the first window opens: 3 bytes and 6 bytes of
2.5 µs (R127). -/
def firstRecordCycles : Nat := 225

/-- The window that stands open is held back until its setpoint record has been sent (R127, R141). -/
def Bus.holdWindow (b : Bus) : Bus :=
  match b.window with
  | none => b
  | some w => { b with window := none, opening := some ⟨w.slot, firstRecordCycles⟩ }

/-- The window held back opens (R127). -/
def Bus.openHeld (b : Bus) : Bus :=
  match b.window with
  | some _ => b
  | none =>
    match b.opening with
    | none => b
    | some o => { b with window := some ⟨o.slot, false⟩, opening := none }

/-- The sixth byte of a return arrives (R131): outside a window, and after the first record of a window, it is discarded. Before the
first window after a host RESET it is the return of the old frame (R141), the only one that can still come, so that window then
stands open. One that comes once that window is open is taken as its slot's, as R131 and R142 tie a return to the window, although R141
calls a return of the old frame discarded whenever it comes: DESIGN CHOICE (notes/assumptions/26.md). -/
def State.takeReturn (s : State) (status : Byte) (actual : Word) (crc : Byte) : State :=
  match s.bus.window with
  | none => s.setBus s.bus.openHeld
  | some w =>
    if w.answered then s
    else
      let s1 := s.setBus { s.bus with window := some { w with answered := true } }
      if returnCrcGood status actual crc && actualInRange w.slot actual then
        s1.validReturn w.slot status (returnActual w.slot actual)
      else s1.missReturn w.slot

/-- The return window closes (R131, R127): without a return it is a missed one; the next active slot begins. A window held back by a
host RESET (R141) has opened before it closes. -/
def State.closeWindow (s : State) : State :=
  let s1 := s.setBus s.bus.openHeld
  match s1.bus.window with
  | none => s1
  | some w => State.sendFirstOf w.slot.later (if w.answered then s1 else s1.missReturn w.slot)

/-- A change of the trip level taken by the master (R154): the copy becomes the level after it. -/
def State.takeBusLevel (s : State) : State :=
  match s.bus.changes with
  | [] => s
  | c :: rest => s.setBus { s.bus with level := c.after, changes := rest }

/-- The state that bus start gives the master before the first frame (R140). -/
def State.startBus (s : State) : State :=
  s.setBus {
    started := true, frameCount := 255, level := s.trip.level
    x := SlotState.reset (s.params.slotActive .x), y := SlotState.reset (s.params.slotActive .y)
    h := SlotState.reset (s.params.slotActive .h), s := SlotState.reset (s.params.slotActive .s)
    window := none, opening := none, line := [], changes := [] }

end Sys2Proof.Machine
end

