-- ==== Sys2Proof/Machine/Frame.lean ====
section
/-! DEFINITION. The drive frame (R127): what a frame begin does to every block, in the order of
notes/assumptions/6.md. -/

namespace Sys2Proof.Machine

/-- What the sequencer makes of the interpolator's work (R41, R69, R70): a landing in RUNNING leads to a dispatch, and a pivot end in
PIVOTING to RUNNING. -/
def State.afterWork (s : State) (w : FrameWork) : State :=
  if w.landed && s.seq.engine == .running then s.dispatch .ending false
  else if w.pivotEnded && s.seq.engine == .pivoting then s.enterProgram .running .ending
  else s

/-- The start timer of a frame that begins in STARTING (R94). -/
def State.countStart (s : State) : State :=
  match s.stroke.startTimer with
  | none => s
  | some n => if n ≤ 1 then s.strokeStalls else s.setStroke { s.stroke with startTimer := some (n - 1) }

/-- The stop timer of a frame that begins in STOPPING (R95). -/
def State.countStop (s : State) : State :=
  match s.stroke.stopTimer with
  | none => s
  | some n => if n ≤ 1 then s.strokeStopped else s.setStroke { s.stroke with stopTimer := some (n - 1) }

/-- The timers of a frame (R62, R85, R94, R95): each counts when the frame began in its state and that state still stands. -/
def State.countTimers (s : State) (engine : Engine) (stroke : StrokeState) : State :=
  let s1 := if engine = .dwelling ∧ s.seq.engine = .dwelling then s.countDwell else s
  let s2 := if engine = .starved ∧ s1.seq.engine = .starved then s1.countStarve else s1
  let s3 := if stroke = .starting ∧ s2.stroke.state = .starting then s2.countStart else s2
  if stroke = .stopping ∧ s3.stroke.state = .stopping then s3.countStop else s3

/-- The blocks' work of a frame, from the frame's opening to its setpoints (R50, R64, R69, R90, R129). -/
def State.frameWork (s : State) : State :=
  let s1 := s.openFrame
  let p := s1.interpolate
  let s2 := p.1.frameReport p.2.advance p.2.material
  (((s2.afterWork p.2).restTest).deriveFSet).takeSetpoints

/-- A frame begin (R127). -/
def State.beginFrame (s : State) : State :=
  ((s.frameWork).countTimers s.seq.engine s.stroke.state).sendFrame

/-- Bus start (R140): the master's state is reset and the first frame begins at once. -/
def State.busStart (s : State) : State := s.startBus.beginFrame

end Sys2Proof.Machine
end

