-- ==== Sys2Proof/Machine/Settings.lean ====
section
/-! DEFINITION. Requests to the settings store, the classifier and the trip unit (R115, R116, R155 to R157, R186, R188) and the save
(R189). -/

namespace Sys2Proof.Machine

/-! ## Parameters (R186) -/

/-- The working table replaced. -/
def State.setParams (s : State) (p : Params) : State := s.setSettings { s.settings with params := p }

/-- The number names a parameter (R186). -/
def paramKnown (n : Nat) : Bool := decide (1 ≤ n ∧ n ≤ 32)

/-- The reply of SET_PARAM and GET_PARAM (R178). -/
def paramReply (r : Result) (number : Byte) (v : Int) : List Byte := r.code :: number :: be32 v

/-- SET_PARAM (R186), in its four steps. -/
def State.serveSetParam (s : State) (number : Byte) (v : Int) : State × List Byte :=
  let n := number.toNat
  if !paramKnown n then (s, paramReply .badId number 0)
  else if paramNeedsIdle n && !(s.seq.engine == .idle && s.queue.records.isEmpty) then
    (s, paramReply .state number ((s.params.get n).getD 0))
  else
    let stored := s.params.clampValue n v
    (s.setParams (s.params.put n stored), paramReply (Result.okOr (decide (stored ≠ v))) number stored)

/-- GET_PARAM (R186). -/
def State.serveGetParam (s : State) (number : Byte) : List Byte :=
  match s.params.get number.toNat with
  | none => paramReply .badId number 0
  | some v => paramReply .ok number v

/-! ## Bands (R115, R116) -/

/-- The four fields brought into their ranges (R114). -/
def BandEntry.clamped (e : BandEntry) : BandEntry :=
  ⟨clampNat 1 65535 e.ceiling, clampNat 50 4000 e.bite, clampNat 200 1200 e.frequency, clampNat 10 5000 e.feedCap⟩

/-- The clamped ceiling lies between the neighbours' ceilings (R115 step 3). -/
def bandOrdered (b : Vector BandEntry 8) (i : Fin 8) (ceiling : Nat) : Bool :=
  let list := b.toList
  (decide (i.val = 0) || decide ((list[i.val - 1]?.map BandEntry.ceiling).getD 0 < ceiling)) &&
    (decide (i.val = 7) || decide (ceiling < (list[i.val + 1]?.map BandEntry.ceiling).getD 0))

/-- SET_BAND (R115), in its four steps. -/
def State.serveSetBand (s : State) (index : Byte) (e : BandEntry) : State × List Byte :=
  if h : index.toNat < 8 then
    let i : Fin 8 := ⟨index.toNat, h⟩
    let c := e.clamped
    if bandOrdered s.classifier.bands i c.ceiling then
      (s.setClassifier { s.classifier with bands := s.classifier.bands.set i.val c },
        (Result.okOr (decide (c ≠ e))).code :: index :: c.bytes)
    else (s, Result.order.code :: index :: (s.classifier.bands[i]).bytes)
  else (s, Result.badId.code :: 0 :: (s.classifier.bands[0]).bytes)

/-- A band or its absence as one byte (R178). -/
def candidateByte (c : Option (Fin 8)) : Byte :=
  match c with
  | none => 0xFF
  | some b => byte b.val

/-- GET_BAND (R116). -/
def State.serveGetBand (s : State) (index : Byte) : List Byte :=
  if h : index.toNat < 8 then
    let i : Fin 8 := ⟨index.toNat, h⟩
    Result.ok.code :: index :: (s.classifier.bands[i]).bytes ++
      [byte s.classifier.material.val, candidateByte s.classifier.candidate] ++ be16 s.classifier.df
  else Result.badId.code :: List.replicate 13 0

/-! ## Trips (R155 to R157) -/

/-- The input that a source reads, when it is one of sources 0 to 7. -/
def inputOfSource (i : Fin 15) : Option (Fin 8) := if h : i.val < 8 then some ⟨i.val, h⟩ else none

/-- A change of action recomputes the level; where the level changes, the TRIP record is set (R155 step 4). -/
def State.writeAction (s : State) (i : Fin 15) (a : Action) : State :=
  let before := s.trip.level
  let s1 := (s.setTrip (s.trip.putSource i { s.trip.sources[i] with action := a })).recompute
  if s1.trip.level = before then s1 else s1.tripNotice i

/-- A write of polarity and debounce time (R147, R148): the line state is derived again, and a running timer is compared with a
changed debounce time. -/
def State.writeInput (s : State) (i : Fin 8) (p : Polarity) (debounce : Nat) : State :=
  let old := s.trip.inputs[i]
  let s1 := (s.setTrip (s.trip.putInput i { old with polarity := p, debounce := debounce })).deriveLine i
  if debounce ≠ old.debounce && (s1.trip.inputs[i]).due then s1.takeLine i else s1

/-- The action that a SET_TRIP stores (R155 step 2). -/
def storedAction (i : Fin 15) (code : Byte) : Action :=
  let a := Action.ofCode code.toNat
  if a.rank < (lowestAction i).rank then lowestAction i else a

/-- The configuration, state and level of a source as the SET_TRIP reply carries them (R178). -/
def State.tripReply (s : State) (r : Result) (i : Fin 15) : List Byte :=
  let src := s.trip.sources[i]
  let config : List Byte :=
    match inputOfSource i with
    | none => [0, 0]
    | some k => [(s.trip.inputs[k]).polarity.code, byte (s.trip.inputs[k]).debounce]
  [r.code, byte i.val, src.action.code] ++ config ++ [src.state.code, s.trip.level.code]

/-- SET_TRIP (R155). The action takes effect before the polarity and the debounce time (notes/assumptions/12.md). -/
def State.serveSetTrip (s : State) (index action polarity debounce : Byte) : State × List Byte :=
  if h : index.toNat < 15 then
    let i : Fin 15 := ⟨index.toNat, h⟩
    let a := storedAction i action
    let s1 := s.writeAction i a
    match inputOfSource i with
    | none => (s1, s1.tripReply (Result.okOr (decide (a.code ≠ action))) i)
    | some k =>
      let d := min debounce.toNat 50
      let s2 := s1.writeInput k (Polarity.ofByte polarity) d
      (s2, s2.tripReply (Result.okOr (decide (a.code ≠ action) || decide (d ≠ debounce.toNat))) i)
  else (s, s.tripReply .badId 0)

/-- GET_TRIPS (R156, R178). -/
def State.serveGetTrips (s : State) : List Byte :=
  [Result.ok.code, s.trip.level.code] ++
  (s.trip.sources.toList.map fun src => [src.action.code, src.state.code, byte src.count]).flatten ++
  (s.trip.inputs.toList.map fun i => [i.polarity.code, byte i.debounce, flagByte i.line]).flatten ++
  [byte s.trip.faultSet.toNat, byte s.trip.lostSet.toNat]

/-- A source after CLEAR_TRIPS (R157). -/
def Source.cleared (src : Source) : Source := if src.state = .latched then { src with state := .clear } else src

/-- How many sources stand in a state. -/
def TripUnit.countIn (t : TripUnit) (st : SourceState) : Nat := t.sources.toList.countP fun src => src.state == st

/-- The TRIP records of the sources that CLEAR_TRIPS cleared, in index order (R157 step 3): those LATCHED in `before` whose action is
not IGNORE. -/
def State.clearNotices (before : TripUnit) (s : State) : State :=
  [0, 1, 2, 3, 4, 5, 6, 7, 8, 9, 10, 11, 12, 13, 14].foldl (fun (t : State) (i : Fin 15) =>
    let src := before.sources[i]
    if src.state = .latched ∧ src.action ≠ .ignore then t.tripNotice i else t) s

/-- The effect of CLEAR_TRIPS (R157): LATCHED sources clear, their slot sets empty, the level is recomputed once, and the records are
set. -/
def State.clearTrips (s : State) : State :=
  let t := s.trip
  let s1 := s.setTrip { t with
    sources := t.sources.map Source.cleared
    faultSet := if t.sources[13].state = .latched then 0 else t.faultSet
    lostSet := if t.sources[14].state = .latched then 0 else t.lostSet }
  State.clearNotices t s1.recompute

/-- CLEAR_TRIPS (R157). -/
def State.serveClearTrips (s : State) : State × List Byte :=
  let s1 := s.clearTrips
  (s1, [Result.ok.code, byte (s.trip.countIn .latched), byte (s1.trip.countIn .active), s1.trip.level.code])

/-! ## Saves (R188, R189) -/

/-- The working set as SAVE copies it (R188). -/
def State.workingSet (s : State) : WorkingSet where
  params := s.params
  bands := s.classifier.bands
  actions := s.trip.sources.toList.map Source.action
  polarities := s.trip.inputs.toList.map Input.polarity
  debounces := s.trip.inputs.toList.map Input.debounce

/-- SAVE (R188). -/
def State.serveSave (s : State) : State × Result :=
  if s.seq.engine ≠ .idle then (s, .state)
  else if !s.settings.present then (s, .noStore)
  else if s.settings.store = .saving then (s, .busy)
  else (s.setSettings { s.settings with store := .saving, save := some ⟨s.workingSet.image, 0⟩ }, .ok)

/-- A save completes or fails (R189). -/
def State.endSave (s : State) (st : StoreState) (r : NoticeResult) : State :=
  (s.setSettings { s.settings with store := st, save := none }).noteStoreDone r

/-- A page counts as written (R189): the next begins, or after page 14 the save completes. -/
def State.pageWritten (s : State) : State :=
  match s.settings.save with
  | none => s
  | some v =>
    if 14 ≤ v.page then s.endSave .doneOk .ok
    else s.setSettings { s.settings with save := some { v with page := v.page + 1 } }

/-- The save fails (R189). -/
def State.saveFails (s : State) : State :=
  match s.settings.save with
  | none => s
  | some _ => s.endSave .failed .failed

/-- The bytes of the page being written (R189): 16, and 6 of the last page. -/
def Save.pageBytes (v : Save) : List Byte := (v.image.drop (16 * v.page)).take 16

/-! ## The two-wire line (R189, R190) -/

/-- The write transfer of the page being written, and the poll that follows it (R189). PRESUMED (notes/assumptions/30.md): the page
address goes most significant byte first, and a poll carries the device address for writing. DESIGN CHOICE (notes/assumptions/34.md): one
poll stands for all that are sent until the EEPROM acknowledges. -/
def Save.transfer (v : Save) : List WireItem :=
  [.start, .addressWrite] ++ (be16 (16 * v.page)).map WireItem.sent ++ v.pageBytes.map WireItem.sent ++
    [.stop, .start, .addressWrite]

/-- What stands on the two-wire line: at step 2 of start-up the read transfer of the load, or with SAFE_N low the one addressing of the
EEPROM (R190), which is for writing and ends with a stop condition, where R190 gives neither: DESIGN CHOICE (notes/assumptions/30.md). While
a save is in flight the transfer of its page (R189); nothing at any other time. DESIGN CHOICE (notes/assumptions/34.md): no stop condition is
shown behind a byte that is not acknowledged or behind a poll, where R189 and R190 say nothing. A refused byte of a page, a poll that times
out and the last page's poll leave the line empty, the poll of any other page gives way to the next page's start, and the read transfer of
the load stands in full until SETTINGS_LOAD, whatever the EEPROM acknowledged. -/
def State.twoWireOf (s : State) : List WireItem :=
  match s.startup.phase with
  | .held => []
  | .loading => if s.startup.safeNHigh then readTransfer else [.start, .addressWrite, .stop]
  | .started =>
    match s.settings.save with
    | none => []
    | some v => v.transfer

end Sys2Proof.Machine
end

