-- ==== Sys2Proof/Machine/Link.lean ====
section
/-! DEFINITION. The link port: frames (R163, R164), the requests and their replies (R168 to R174, R178), the receiver (R165 to
R167) and the transmitter (R170). -/

namespace Sys2Proof.Machine

/-! ## Frames (R163, R164) -/

/-- LEN and the payload: what the CRC covers. -/
def frameCovered (kind tag : Byte) (body : List Byte) : List Byte := byte (body.length + 2) :: kind :: tag :: body

/-- A frame: SYNC, LEN, payload and CRC-16. -/
def frameBytes (kind tag : Byte) (body : List Byte) : List Byte :=
  0xC3 :: frameCovered kind tag body ++ be16 (crc16 (frameCovered kind tag body)).toNat

/-- The KIND of a reply (R164). -/
def replyKind (kind : Byte) : Byte := if 128 ≤ kind.toNat then kind else kind + 0x80

/-- The KIND of a notice (R164). -/
def noticeKind (c : NoticeClass) : Byte := byte (96 + c.number)

/-! ## Request kinds (R172) -/

inductive RequestKind where
  | ident | status | segments | start | hold | resume | cancel | recover | override | setParam | getParam | setBand
  | getBand | setTrip | getTrips | clearTrips | tare | noticeMask | lamps | save | reset
  deriving DecidableEq, Repr

/-- The KIND byte of a request (R172). -/
def RequestKind.code : RequestKind → Byte
  | .ident => 0x01 | .status => 0x02 | .segments => 0x03 | .start => 0x10 | .hold => 0x11 | .resume => 0x12
  | .cancel => 0x13 | .recover => 0x14 | .override => 0x15 | .setParam => 0x20 | .getParam => 0x21 | .setBand => 0x22
  | .getBand => 0x23 | .setTrip => 0x24 | .getTrips => 0x25 | .clearTrips => 0x26 | .tare => 0x27
  | .noticeMask => 0x28 | .lamps => 0x29 | .save => 0x2A | .reset => 0x3F

/-- The request kind that a KIND byte names (R172). -/
def RequestKind.ofCode : Nat → Option RequestKind
  | 0x01 => some .ident | 0x02 => some .status | 0x03 => some .segments | 0x10 => some .start | 0x11 => some .hold
  | 0x12 => some .resume | 0x13 => some .cancel | 0x14 => some .recover | 0x15 => some .override
  | 0x20 => some .setParam | 0x21 => some .getParam | 0x22 => some .setBand | 0x23 => some .getBand
  | 0x24 => some .setTrip | 0x25 => some .getTrips | 0x26 => some .clearTrips | 0x27 => some .tare
  | 0x28 => some .noticeMask | 0x29 => some .lamps | 0x2A => some .save | 0x3F => some .reset
  | _ => none

/-- The length that R172 gives a request body; absent for SEGMENTS, whose body may have any length (R169). -/
def RequestKind.bodyLength : RequestKind → Option Nat
  | .segments => none
  | .override => some 1
  | .setParam => some 5
  | .getParam => some 1
  | .setBand => some 9
  | .getBand => some 1
  | .setTrip => some 4
  | .noticeMask => some 1
  | .lamps => some 3
  | .ident | .status | .start | .hold | .resume | .cancel | .recover | .getTrips | .clearTrips | .tare | .save
  | .reset => some 0

/-- Check 2 of R169 passes. -/
def RequestKind.lengthGood (k : RequestKind) (n : Nat) : Bool :=
  match k.bodyLength with
  | none => true
  | some m => m == n

/-! ## Replies -/

/-- A reply body of the RESULT alone. -/
def resultBody (p : State × Result) : State × List Byte := (p.1, [p.2.code])

/-- IDENT (R174): the body of the reply. -/
def State.identBody (s : State) : List Byte :=
  let flags : Byte := byte ((if s.settings.present then 1 else 0) + (if s.startup.lrateHigh then 2 else 0) +
    (if s.startup.safeNHigh then 4 else 0))
  [Result.ok.code] ++ be16 0x0A1C ++ be16 740 ++ [1, flags, s.settings.source.code] ++
    beWord s.params.label0 ++ beWord s.params.label1 ++ beWord s.params.label2 ++ beWord s.params.label3

/-- The set of LATCHED sources (R173): bit n for source n. -/
def TripUnit.latchedSet (t : TripUnit) : Nat :=
  t.sources.toList.foldr (fun src acc => 2 * acc + (if src.state = .latched then 1 else 0)) 0

/-- The band in effect as STATUS carries it (R173): 8 for AIR. -/
def bandByte (b : Option (Fin 8)) : Byte :=
  match b with
  | none => 8
  | some i => byte i.val

/-- The presence flag and the active tag of STATUS (R68, R173). -/
def activeBytes (r : Option Record) : List Byte :=
  match r with
  | none => 0 :: be16 0
  | some rec => 1 :: be16 rec.tag.toNat

/-- STATUS (R173): the body of the reply. -/
def State.statusBody (s : State) : List Byte :=
  [Result.ok.code, s.seq.engine.code] ++ activeBytes s.activeRecord ++ be32 s.interp.x ++ be32 s.interp.y ++
    be16 s.interp.heading.toNat ++ be32 (s.interp.feed : Int) ++
    [byte s.override, byte s.queue.records.length, byte s.queue.credit, s.stroke.state.code] ++
    be32 (s.stroke.fm : Int) ++ be16 s.stroke.lf ++ [bandByte s.bandInEffect] ++ be16 s.classifier.df ++
    [s.trip.level.code] ++ be16 s.trip.latchedSet ++ [s.stroke.tareState.code, s.settings.store.code] ++
    be16 s.link.lengthCount ++ be16 s.link.gapCount ++ be16 s.link.crcCount ++ be16 s.link.inboxCount

/-- The examination of a SEGMENTS body (R22): a body that holds no record is BAD_LENGTH. -/
def State.takeBody (s : State) (body : List Byte) : State × Batch :=
  if body.isEmpty then (s, ⟨.badLength, 0, 0, 0⟩) else State.takeSegments body.length body ⟨.ok, 0, 0, 0⟩ s

/-- SEGMENTS (R22), with the dispatch of an arrival in STARVED once the request has been handled whole (R86). The credit is that
after the last record was handled. -/
def State.serveSegments (s : State) (body : List Byte) : State × List Byte :=
  let p := s.takeBody body
  let reply := [p.2.result.code, byte p.2.accepted, byte p.2.clamped] ++ be16 p.2.refusedTag.toNat ++
    [byte p.1.queue.credit]
  (if p.2.accepted = 0 then p.1 else p.1.arrival, reply)

/-- NOTICE_MASK (R182). -/
def State.serveNoticeMask (s : State) (enables : Byte) : State × List Byte :=
  let s1 := s.setNotice { s.notice with enables := BitVec.ofNat 7 enables.toNat }
  (s1, [Result.ok.code, byte s1.notice.enables.toNat, s1.notice.pendingSet])

/-- The three settings of the lamps as the reply carries them (R160). -/
def TripUnit.lampBytes (t : TripUnit) : List Byte := [t.green.code, t.amber.code, t.red.code]

/-- LAMPS (R160). -/
def State.serveLamps (s : State) (green amber red : Byte) : State × List Byte :=
  match LampSetting.ofCode green.toNat, LampSetting.ofCode amber.toNat, LampSetting.ofCode red.toNat with
  | some g, some a, some r =>
    let s1 := s.setTrip { s.trip with green := g, amber := a, red := r }
    (s1, Result.ok.code :: s1.trip.lampBytes)
  | _, _, _ => (s, Result.badKind.code :: s.trip.lampBytes)

/-- The engine states in which a RESET is accepted (R175). -/
def Engine.resettable : Engine → Bool
  | .idle | .halted | .aborted => true
  | .running | .pivoting | .dwelling | .starved | .holding | .held | .halting | .cancelling => false

/-- RESET (R175): an accepted one takes effect when its reply has been sent. -/
def State.serveReset (s : State) : State × Result :=
  if !s.seq.engine.resettable then (s, .state)
  else if s.settings.store = .saving then (s, .busy)
  else (s.setLink { s.link with resetPending := true }, .ok)

/-- OVERRIDE with its reply (R43). -/
def State.overrideReply (s : State) (v : Byte) : State × List Byte :=
  let p := s.serveOverride v.toNat
  (p.1, [p.2.code, byte p.1.override])

/-- The band entry that a SET_BAND body carries (R178). -/
def readBand (body : List Byte) : BandEntry :=
  ⟨readNat body 1 2, readNat body 3 2, readNat body 5 2, readNat body 7 2⟩

/-- A request handed to the block that owns its kind (R168, R172): the state it leaves and the body of its reply. -/
def State.serve (s : State) (k : RequestKind) (body : List Byte) : State × List Byte :=
  match k with
  | .ident => (s, s.identBody)
  | .status => (s, s.statusBody)
  | .segments => s.serveSegments body
  | .start => resultBody s.serveStart
  | .hold => resultBody s.serveHold
  | .resume => resultBody s.serveResume
  | .cancel => resultBody s.serveCancel
  | .recover => resultBody s.serveRecover
  | .override => s.overrideReply (readByte body 0)
  | .setParam => s.serveSetParam (readByte body 0) (readInt body 1)
  | .getParam => (s, s.serveGetParam (readByte body 0))
  | .setBand => s.serveSetBand (readByte body 0) (readBand body)
  | .getBand => (s, s.serveGetBand (readByte body 0))
  | .setTrip => s.serveSetTrip (readByte body 0) (readByte body 1) (readByte body 2) (readByte body 3)
  | .getTrips => (s, s.serveGetTrips)
  | .clearTrips => s.serveClearTrips
  | .tare => resultBody s.serveTare
  | .noticeMask => s.serveNoticeMask (readByte body 0)
  | .lamps => s.serveLamps (readByte body 0) (readByte body 1) (readByte body 2)
  | .save => resultBody s.serveSave
  | .reset => resultBody s.serveReset

/-- The checks of R169 and the owner's answer. -/
def State.answerBody (s : State) (r : Request) : State × List Byte :=
  match RequestKind.ofCode r.kind.toNat with
  | none => (s, [Result.unknownKind.code])
  | some k => if k.lengthGood r.body.length then s.serve k r.body else (s, [Result.badLength.code])

/-- A request taken (R168): its reply is placed in the reply slot. -/
def State.answer (s : State) (r : Request) : State :=
  let p := s.answerBody r
  p.1.setLink { p.1.link with reply := some (frameBytes (replyKind r.kind) r.tag p.2) }

/-- The head request is taken when the reply slot is empty (R168). -/
def State.takeNext (s : State) : State :=
  match s.link.reply with
  | some _ => s
  | none =>
    match s.link.inbox with
    | [] => s
    | r :: rest => (s.setLink { s.link with inbox := rest }).answer r

/-- A discard counter raised (R167). -/
def countUp (n : Nat) : Nat := saturate 65535 n

/-- A frame of good CRC reaches the inbox (R167 step 2), and is taken at once when the reply slot is empty (R168). -/
def State.toInbox (s : State) (r : Request) : State :=
  if s.link.inbox.length < 4 then (s.setLink { s.link with inbox := s.link.inbox ++ [r] }).takeNext
  else s.setLink { s.link with inboxCount := countUp s.link.inboxCount }

/-- A whole request frame of good CRC arrives on the line; before step 4 of start-up the receiver is disabled and it is not
received (R162, R191). -/
def State.arrive (s : State) (r : Request) : State := if s.startup.phase = .started then s.toInbox r else s

/-! ## The receiver (R165 to R167) -/

/-- The receiver's next state, with the gap timer at the completion of a byte (R166). -/
def State.setReceiver (s : State) (r : Receiver) : State := s.setLink { s.link with receiver := r, gap := 0 }

/-- A complete frame is judged (R167). -/
def State.judgeFrame (s : State) (len : Byte) (bytes : List Byte) (first second : Byte) : State :=
  let s1 := s.setReceiver .hunt
  if (crc16 (len :: bytes)).toNat = first.toNat * 256 + second.toNat then
    s1.toInbox ⟨readByte bytes 0, readByte bytes 1, bytes.drop 2⟩
  else s1.setLink { s1.link with crcCount := countUp s1.link.crcCount }

/-- A LEN byte that is refused (R165). -/
def lenRefused (b : Byte) : Bool := decide (b.toNat < 2 ∨ 250 < b.toNat)

/-- The receiver takes a byte (R165). -/
def State.receiveByte (s : State) (b : Byte) : State :=
  match s.link.receiver with
  | .disabled => s
  | .hunt => if b = 0xC3 then s.setReceiver .length else s
  | .length =>
    if lenRefused b then
      let s1 := s.setReceiver .hunt
      s1.setLink { s1.link with lengthCount := countUp s1.link.lengthCount }
    else s.setReceiver (.payload b [])
  | .payload len bytes =>
    if len.toNat ≤ bytes.length + 1 then s.setReceiver (.crc len (bytes ++ [b]) none)
    else s.setReceiver (.payload len (bytes ++ [b]))
  | .crc len bytes none => s.setReceiver (.crc len bytes (some b))
  | .crc len bytes (some first) => s.judgeFrame len bytes first b

/-- A frame is being received: from SYNC to the last CRC byte (R166). -/
def Receiver.midFrame : Receiver → Bool
  | .disabled => false
  | .hunt => false
  | .length => true
  | .payload _ _ => true
  | .crc _ _ _ => true

/-- The interval exceeds 2 ms (R166): the frame is discarded and counted. -/
def State.gapExpire (s : State) : State :=
  if s.link.receiver.midFrame then
    let s1 := s.setReceiver .hunt
    s1.setLink { s1.link with gapCount := countUp s1.link.gapCount }
  else s

/-! ## The transmitter (R170, R183) -/

/-- The chosen notice handed over and sent (R164, R183); where no eligible record is left the choice releases ATTN (R184). -/
def State.sendNotice (s : State) (c : NoticeClass) : State :=
  let frame := frameBytes (noticeKind c) s.link.sequence (s.notice.noticeBody c)
  let n := s.notice.handOver c
  ((s.setNotice n).setLink { s.link with transmitter := .notice frame, sequence := s.link.sequence + 1 }).setAttnFalls
    (if n.attention then s.attnFalls else s.attnFalls + 1)

/-- The engine state changes when the sequencer takes a rise to a level (R80, R81, R82). -/
def Engine.reactsTo (e : Engine) (l : TripLevel) : Bool :=
  match l with
  | .none => false
  | .hold => e.runsProgram || e == .starved
  | .halt => e.runsProgram || e == .starved || e == .holding || e == .held
  | .quickStop => !(e == .aborted)

/-- A rise handed on to the sequencer waits, and its taking will set ENGINE_STATE (R154): the two records of the rise are not both
pending yet (R181). -/
def State.reactionWaits (s : State) : Bool :=
  s.seq.changes.any fun c => decide (c.before.rank < c.after.rank) && s.seq.engine.reactsTo c.after

/-- A choice now would be made from TRIP or ENGINE_STATE while a rise waits: one of the two is a candidate, and not both are pending. -/
def State.choiceBarred (s : State) : Bool :=
  s.reactionWaits && (s.notice.candidate .trip || s.notice.candidate .engineState)

/-- The class chosen when the link port asks for a notice (R183). On a rise of the trip level "both records are pending before any choice
is made from them" (R181), where R154 makes the sequencer's taking an event of its own: until then a choice that has TRIP or ENGINE_STATE
among its candidates is made with ENGINE_STATE counted as pending, and it waits when it falls on one of the two (notes/assumptions/19.md). -/
def State.chosenNotice (s : State) : Option NoticeClass :=
  if s.choiceBarred then
    ((s.notice.searchOrder s.params.rotating).find? fun c =>
      s.notice.candidate c || (c == .engineState && s.notice.enabled c)).filter fun c => c != .trip && c != .engineState
  else s.notice.choose s.params.rotating

/-- A free transmitter chooses (R170): the reply in the slot, else a notice, else nothing. From step 4 of start-up on. -/
def State.offerTransmit (s : State) : State :=
  if s.startup.phase = .started then
    match s.link.transmitter with
    | .reply _ => s
    | .notice _ => s
    | .free =>
      match s.link.reply with
      | some frame => s.setLink { s.link with transmitter := .reply frame }
      | none =>
        match s.chosenNotice with
        | none => s
        | some c => s.sendNotice c
  else s

/-! ## Outputs (R160, R161, R162, R184) -/

/-- How a lamp shows: dark, lit steadily, or with the blink clock. -/
def LampSetting.lit (l : LampSetting) (blinkOn : Bool) : Bool :=
  match l with
  | .off => false
  | .on => true
  | .blink => blinkOn

/-- The blink clock reads 0 … 499 (R160). -/
def TripUnit.blinkOn (t : TripUnit) : Bool := decide (t.blink < 5000000)

/-- GREEN in the automatic display (R161). -/
def State.autoGreen (s : State) : LampSetting :=
  match s.seq.engine with
  | .running | .pivoting | .dwelling => .on
  | .starved => .blink
  | .idle | .holding | .held | .halting | .halted | .cancelling | .aborted => .off

/-- AMBER in the automatic display (R161). -/
def State.autoAmber (s : State) : LampSetting :=
  match s.seq.engine with
  | .holding | .held | .halting | .halted | .cancelling => .on
  | .idle | .running | .pivoting | .dwelling | .starved | .aborted => if s.stroke.tareInFlight then .blink else .off

/-- A source is LATCHED (R161). -/
def TripUnit.anyLatched (t : TripUnit) : Bool := t.sources.toList.any fun src => src.state == .latched

/-- RED in the automatic display (R161). -/
def State.autoRed (s : State) : LampSetting :=
  if s.trip.level = .quickStop ∨ s.seq.engine = .aborted then .on
  else if s.trip.anyLatched then .blink
  else .off

/-- The host display stands (R160): at least one setting is not OFF. -/
def TripUnit.hostDisplay (t : TripUnit) : Bool := !(t.green == .off && t.amber == .off && t.red == .off)

/-- The transmitter drives the line (R162). -/
def Transmitter.busy : Transmitter → Bool
  | .free => false
  | .reply _ => true
  | .notice _ => true

/-- The outputs that the state gives (R160, R161, R162, R184); all low while RESET_N is low (R191). -/
def State.outputsOf (s : State) : Outputs :=
  if s.startup.phase = .held then ⟨false, false, false, false, false⟩
  else
    let on := s.trip.blinkOn
    let host := s.trip.hostDisplay
    { lgrn := (if host then s.trip.green else s.autoGreen).lit on
      lamb := (if host then s.trip.amber else s.autoAmber).lit on
      lred := (if host then s.trip.red else s.autoRed).lit on
      attn := s.notice.attention
      lde := s.link.transmitter.busy }

/-- The end of an event: a free transmitter chooses (R170, R183), and the outputs and the two-wire line follow (R160, R184, R189). -/
def State.commit (s : State) : State :=
  let s1 := s.offerTransmit
  (s1.setOutputs s1.outputsOf).setTwoWire s1.twoWireOf

end Sys2Proof.Machine
end

