-- ==== Sys2Proof/Machine/Startup.lean ====
section
/-! DEFINITION. The resets and the start-up sequence (R88, R175, R190, R191). -/

namespace Sys2Proof.Machine

/-! ## Resets -/

/-- Every block but the settings store, the link port and the notice unit at its values after any reset (R5, R43, R49, R67, R89, R113,
R140, R144), with the working parameters, bands and trip configuration kept. -/
def State.resetBlocks (s : State) : State :=
  (((((((s.setQueue (CutQueue.reset s.params)).setOverride 100).setInterp Interpolator.reset).setSeq
    Sequencer.reset).setStroke (StrokeUnit.reset s.params)).setClassifier
    (Classifier.reset s.params s.classifier.bands)).setBus Bus.silent).setTrip s.trip.reset

/-- A POR (R191): every block at its reset values and the straps sampled. The settings load follows unless RESET_N is low
(notes/assumptions/16.md). -/
def State.por (s : State) (lrateHigh safeNHigh : Bool) : State :=
  let phase : Phase := if s.startup.phase = .held then .held else .loading
  let s1 := (s.setSettings Settings.reset).setClassifier (Classifier.reset Params.rom romBands)
  let s2 := (s1.setTrip TripUnit.rom).resetBlocks
  ((s2.setLink (Link.reset lrateHigh)).setNotice NoticeUnit.reset).setStartup ⟨phase, lrateHigh, safeNHigh⟩

/-- A LINE reset (R191): every block at its reset values while RESET_N is low; the straps' samples are kept, and so is the
working set until the settings load fills it. A save is cut (R189) and the store state becomes IDLE. -/
def State.lineReset (s : State) : State :=
  let s1 := (s.resetBlocks).setSettings { s.settings with store := .idle, save := none }
  ((s1.setLink (Link.reset s.startup.lrateHigh)).setNotice NoticeUnit.reset).setStartup
    { s.startup with phase := .held }

/-- RESET_N is released (R191): start-up begins. -/
def State.releaseLine (s : State) : State :=
  if s.startup.phase = .held then s.setStartup { s.startup with phase := .loading } else s

/-- The ENGINE_STATE record set to IDLE with cause REQUEST (R88). -/
def State.noteIdle (s : State) (previous : Engine) : State := s.noteEngine ⟨.idle, previous, .request, none⟩

/-- A REQ reset takes effect (R175): every block takes its values after REQ; the settings store keeps the working set, the source
and the store state (R191), and the notice unit its enables (R180). Then ENGINE_STATE is set (R88) and the transmitter, which is free,
chooses (R183), so that the first frame sent is that notice (R175); then the input lines are read (R148) and bus start is made (R140). A
return of the old frame that has still to come falls outside every window of the restarted bus (R141). -/
def State.reqReset (s : State) : State :=
  let previous := s.seq.engine
  let s1 := s.resetBlocks.setNotice s.notice.cleared
  let s2 := s1.setLink { s1.link with
    receiver := .hunt, gap := 0, inbox := [], reply := none, transmitter := .free, sequence := 0
    resetPending := false }
  let s3 := (((s2.noteIdle previous).offerTransmit).readInputs).busStart
  if s.bus.returnAwaited then s3.setBus s3.bus.holdWindow else s3

/-! ## The settings load (R190) -/

/-- Where the working set comes from (R190): the first case that applies. -/
def loadSource (safeNHigh : Bool) (acked : Nat) (image : List Byte) : SettingsSource :=
  if !safeNHigh then .defaultSafe
  else if acked < 4 then .defaultAbsent
  else if !imageCrcGood image then .defaultBadCheck
  else if !(imageHeaderGood image && imageDataGood image) then .defaultBadData
  else .stored

/-- The sources of an image's trip configuration, CLEAR (R144). -/
def imageSources (image : List Byte) : Vector Source 15 :=
  #v[0, 1, 2, 3, 4, 5, 6, 7, 8, 9, 10, 11, 12, 13, 14].map fun i : Nat =>
    Source.fresh (Action.ofCode (readByte image (181 + i)).toNat)

/-- The inputs of an image's trip configuration (R144). -/
def imageInputs (image : List Byte) : Vector Input 8 :=
  #v[0, 1, 2, 3, 4, 5, 6, 7].map fun i : Nat =>
    Input.fresh (Polarity.ofByte (readByte image (196 + i))) (readByte image (204 + i)).toNat

/-- The working set filled from the image or from the ROM defaults (R190, R191 step 2): every source stands CLEAR under the
actions loaded, so the level is NONE (R144). -/
def State.fillWorkingSet (s : State) (acked : Nat) (image : List Byte) : State :=
  let source := loadSource s.startup.safeNHigh acked image
  let stored := source = .stored
  let params := if stored then imageParams image else Params.rom
  let bands := if stored then imageBands image else romBands
  let sources := if stored then imageSources image else romSources
  let inputs := if stored then imageInputs image else romInputs
  let s1 := s.setSettings ⟨params, source, decide (1 ≤ acked), .idle, none⟩
  (s1.setClassifier { s1.classifier with bands := bands }).setTrip
    { s1.trip with sources := sources, inputs := inputs, level := .none }

/-- What the reset values that depend on the working set become once it is filled: the tail feed (R5), f_set (R89) and the material
band (R113, R191 step 3). -/
def State.takeWorkingSet (s : State) : State :=
  ((s.setQueue { s.queue with tail := { s.queue.tail with feed := s.params.defaultFeed } }).setStroke
    { s.stroke with fSet := s.params.airFreq }).setClassifier { s.classifier with material := s.params.entryBand }

/-- Step 4 of start-up (R191, R88): the receiver is enabled in HUNT, and the ENGINE_STATE record is set unless step 3 has set it. -/
def State.enableLink (s : State) : State :=
  let s1 := (s.setLink { s.link with receiver := .hunt, gap := 0 }).setStartup { s.startup with phase := .started }
  if s.notice.engineState.isSome then s1 else s1.noteIdle .idle

/-- The settings load ends (R190), and with it steps 2 to 4 of start-up (R191): the working set, the material band, the input lines,
bus start and the link. -/
def State.endLoad (s : State) (acked : Nat) (image : List Byte) : State :=
  ((((s.fillWorkingSet acked image).takeWorkingSet).readInputs).busStart).enableLink

/-- The transmitter sends the last byte of a frame (R170): a reply leaves the slot; the reply of an accepted RESET brings the reset
(R175); after any other reply the next request is taken. -/
def State.frameSent (s : State) : State :=
  match s.link.transmitter with
  | .free => s
  | .notice _ => s.setLink { s.link with transmitter := .free }
  | .reply _ =>
    let s1 := s.setLink { s.link with transmitter := .free, reply := none }
    if s.link.resetPending then s1.reqReset else s1.takeNext

end Sys2Proof.Machine
end

