-- ==== Sys2Proof/Machine/Clock.lean ====
section
/-! DEFINITION. The 10 MHz reference and the pulses counted against it: stroke index pulses (R101 to R105), load-line pulses (R102), and
one cycle of the reference (R102, R148, R160, R166). -/

namespace Sys2Proof.Machine

/-! ## Pulses -/

/-- A pulse meets an OPEN window whose reference count has reached `p` (R102, R104): it completes the window, or is counted. -/
def State.pulseInWindow (s : State) (win : Window) (p : Nat) : State :=
  if win.w ≤ win.pulses + 1 then s.completeWindow { win with p := p }
  else s.setStroke { s.stroke with window := some { win with p := p, pulses := win.pulses + 1 } }

/-- A stroke index pulse after `cycles` more cycles of the reference (R101, R104); a window that overflows in them is over, and the
pulse opens the next (R105). DESIGN CHOICE (notes/assumptions/9.md): the cycles count into P alone; the debounce timers, the blink clock
and the gap stand still for them. -/
def State.indexPulse (s : State) (cycles : Nat) : State :=
  match s.stroke.window with
  | none => s.openWindow
  | some win =>
    if overflowCount ≤ win.p + cycles then s.overflowWindow.openWindow else s.pulseInWindow win (win.p + cycles)

/-- A load-line pulse (R102). -/
def State.loadPulse (s : State) : State :=
  match s.stroke.window with
  | none => s
  | some win => s.setStroke { s.stroke with window := some { win with c := min (win.c + 1) 4194303 } }

/-! ## One cycle of the reference -/

/-- P of an OPEN window counts; at 2^24 it stands until WINDOW_OVERFLOW is taken (R102, R105). -/
def Window.tick (win : Window) : Window := { win with p := min (win.p + 1) overflowCount }

/-- A running debounce timer counts; at the debounce time it stands until DEBOUNCE_EXPIRY is taken (R148). -/
def Input.tick (i : Input) : Input :=
  { i with timer := i.timer.map fun t => min (t + 1) (max t (i.debounce * cyclesPerMs)) }

/-- The blink clock counts; before 500 ms and before its wrap it stands until BLINK_TOGGLE is taken (R160). -/
def blinkTick (n : Nat) : Nat := if n = 4999999 ∨ 9999999 ≤ n then n else n + 1

/-- The gap timer counts while a frame is being received; beyond 2 ms it stands until GAP_TIMEOUT is taken (R166). -/
def Link.tick (l : Link) : Link := if l.receiver.midFrame then { l with gap := min (l.gap + 1) 20001 } else l

/-- The first window after a host RESET opens at the end of its setpoint record (R127); a return of the old frame that comes later is no
longer told apart (R141): DESIGN CHOICE (notes/assumptions/26.md). -/
def Bus.tick (b : Bus) : Bus :=
  match b.opening with
  | none => b
  | some o => if o.cycles ≤ 1 then b.openHeld else { b with opening := some { o with cycles := o.cycles - 1 } }

/-- One cycle of the 10 MHz reference: what step does on an empty queue (notes/assumptions/8.md). The counts of the reference
advance; while RESET_N is low nothing does (R191). -/
def State.tick (s : State) : State :=
  if s.startup.phase = .held then s
  else
    (((s.setStroke { s.stroke with window := s.stroke.window.map Window.tick }).setTrip
      { s.trip with inputs := s.trip.inputs.map Input.tick, blink := blinkTick s.trip.blink }).setLink s.link.tick).setBus
        s.bus.tick

/-- The blink clock passes 500 or wraps to 0 (R160). -/
def State.toggleBlink (s : State) : State :=
  s.setTrip { s.trip with blink := if s.trip.blink < 5000000 then 5000000 else 0 }

end Sys2Proof.Machine
end

