-- ==== Sys2Proof/Machine/Events.lean ====
section
/-! DEFINITION. The meanings of the events of time, pins, drives, sensors and lines: the first 29 rows of the table and the last. Each
answers a next state; each ends as every event does (`State.commit`). -/

namespace Sys2Proof.Machine

/-- The answer of a meaning: the state an event leaves, with the choice of the transmitter and the outputs settled. -/
def done (s : State) : Host.Outcome State Fault Refusal := .next s.commit

/-- POWER_ON_RESET (R191). -/
def execPowerOnReset (lrateHigh safeNHigh : Bool) (s : State) : Host.Outcome State Fault Refusal :=
  done (s.por lrateHigh safeNHigh)

/-- LINE_RESET (R191). -/
def execLineReset (s : State) : Host.Outcome State Fault Refusal := done s.lineReset

/-- LINE_RESET_RELEASE (R191). -/
def execLineResetRelease (s : State) : Host.Outcome State Fault Refusal := done s.releaseLine

/-- SETTINGS_LOAD (R190): the load runs at step 2 of start-up. DESIGN CHOICE (notes/assumptions/32.md): at any other time no load runs, and
the command does nothing. -/
def execSettingsLoad (acked : Nat) (image : List Byte) (s : State) : Host.Outcome State Fault Refusal :=
  done (if s.startup.phase = .loading then s.endLoad acked image else s)

/-- FRAME_BEGIN (R127): before bus start there are no frames. -/
def execFrameBegin (s : State) : Host.Outcome State Fault Refusal :=
  done (if s.bus.started then s.beginFrame else s)

/-- DWELL_EXPIRY (R62): the count reaches the stored duration of the DWELL at the head. -/
def execDwellExpiry (s : State) : Host.Outcome State Fault Refusal :=
  done (
    if s.seq.engine = .dwelling then
      match s.headDwell with
      | none => s
      | some d => (s.setDwell d).dwellExpire
    else s)

/-- STARVE_TIMER_EXPIRY (R85). -/
def execStarveTimerExpiry (s : State) : Host.Outcome State Fault Refusal :=
  done (
    match s.seq.starve with
    | .running _ => s.starveExpire
    | .stopped => s
    | .expired => s)

/-- RETURN_WINDOW_CLOSE (R131). -/
def execReturnWindowClose (s : State) : Host.Outcome State Fault Refusal := done s.closeWindow

/-- DRIVE_RETURN (R131, R132). -/
def execDriveReturn (status : Byte) (actual : Word) (crc : Byte) (s : State) : Host.Outcome State Fault Refusal :=
  done (s.takeReturn status actual crc)

/-- START_TIMER_EXPIRY (R94). -/
def execStartTimerExpiry (s : State) : Host.Outcome State Fault Refusal :=
  done (if s.stroke.state = .starting then s.strokeStalls else s)

/-- STOP_TIMER_EXPIRY (R95). -/
def execStopTimerExpiry (s : State) : Host.Outcome State Fault Refusal :=
  done (if s.stroke.state = .stopping then s.strokeStopped else s)

/-- SIDX_PULSE (R101, R104). -/
def execSidxPulse (cycles : Nat) (s : State) : Host.Outcome State Fault Refusal :=
  done (if s.startup.phase = .held then s else s.indexPulse cycles)

/-- LFQ_PULSE (R102). -/
def execLfqPulse (s : State) : Host.Outcome State Fault Refusal :=
  done (if s.startup.phase = .held then s else s.loadPulse)

/-- WINDOW_OVERFLOW (R105): it comes only to an OPEN window. -/
def execWindowOverflow (s : State) : Host.Outcome State Fault Refusal :=
  done (if s.stroke.window.isSome then s.overflowWindow else s)

/-- INPUT_LINE_CHANGE (R147): the pin takes its level; line changes are taken once the settings load has ended (R148). The level is the
one the pin shows at the end of a reference cycle, so that each command is a change that R147 sees (DEDUCED, notes/assumptions/25.md). -/
def execInputLineChange (input : Fin 8) (high : Bool) (s : State) : Host.Outcome State Fault Refusal :=
  let s1 := s.setPins (s.pins.set input.val high)
  done (if s.startup.phase = .started then s1.deriveLine input else s1)

/-- DEBOUNCE_EXPIRY (R148): it comes only to a running timer. -/
def execDebounceExpiry (input : Fin 8) (s : State) : Host.Outcome State Fault Refusal :=
  done (if (s.trip.inputs[input]).timer.isSome then s.takeLine input else s)

/-- LEVEL_RISE_HOLD (R80). -/
def execLevelRiseHold (s : State) : Host.Outcome State Fault Refusal := done s.takeRiseHold

/-- LEVEL_RISE_HALT (R81). -/
def execLevelRiseHalt (s : State) : Host.Outcome State Fault Refusal := done s.takeRiseHalt

/-- LEVEL_RISE_QUICK_STOP (R82). -/
def execLevelRiseQuickStop (s : State) : Host.Outcome State Fault Refusal := done s.takeRiseQuickStop

/-- LEVEL_FALL (R84). -/
def execLevelFall (s : State) : Host.Outcome State Fault Refusal := done s.takeFall

/-- BUS_LEVEL_CHANGE (R154). -/
def execBusLevelChange (s : State) : Host.Outcome State Fault Refusal := done s.takeBusLevel

/-- FRAME_RECEIVED (R167): the second CRC byte of the frame being received. -/
def execFrameReceived (crcLow : Byte) (s : State) : Host.Outcome State Fault Refusal :=
  done (
    match s.link.receiver with
    | .crc len bytes (some first) => s.judgeFrame len bytes first crcLow
    | .crc _ _ none => s
    | .payload _ _ => s
    | .length => s
    | .hunt => s
    | .disabled => s)

/-- LENGTH_BYTE_REFUSED (R165): in LENGTH, a byte outside 2 … 250. -/
def execLengthByteRefused (len : Byte) (s : State) : Host.Outcome State Fault Refusal :=
  done (if s.link.receiver = .length ∧ lenRefused len then s.receiveByte len else s)

/-- GAP_TIMEOUT (R166). -/
def execGapTimeout (s : State) : Host.Outcome State Fault Refusal := done s.gapExpire

/-- TRANSMIT_END (R170, R175). -/
def execTransmitEnd (s : State) : Host.Outcome State Fault Refusal := done s.frameSent

/-- BLINK_TOGGLE (R160). -/
def execBlinkToggle (s : State) : Host.Outcome State Fault Refusal :=
  done (if s.startup.phase = .held then s else s.toggleBlink)

/-- SAVE_PAGE_WRITTEN (R189). -/
def execSavePageWritten (s : State) : Host.Outcome State Fault Refusal := done s.pageWritten

/-- SAVE_POLL_TIMEOUT (R189). -/
def execSavePollTimeout (s : State) : Host.Outcome State Fault Refusal := done s.saveFails

/-- SAVE_BYTE_REFUSED (R189). -/
def execSaveByteRefused (s : State) : Host.Outcome State Fault Refusal := done s.saveFails

/-- LINK_BYTE_RECEIVED (R165). -/
def execLinkByteReceived (byte : Byte) (s : State) : Host.Outcome State Fault Refusal := done (s.receiveByte byte)

end Sys2Proof.Machine
end

