-- ==== Sys2Proof/Machine/Requests.lean ====
section
/-! DEFINITION. The meanings of the 21 requests (R172). A request command is the arrival of that request's whole frame, with a good
CRC, on the link (R164, R167, R168; notes/assumptions/5.md): it enters the inbox and is taken at once when the reply slot is
empty. -/

namespace Sys2Proof.Machine

/-- The arrival of the frame of a request of kind `k`. -/
def requestArrives (k : RequestKind) (tag : Byte) (body : List Byte) (s : State) : Host.Outcome State Fault Refusal :=
  done (s.arrive ⟨k.code, tag, body⟩)

/-- IDENT (R174). -/
def execIdent (tag : Byte) (s : State) : Host.Outcome State Fault Refusal :=
  requestArrives .ident tag [] s

/-- STATUS (R173). -/
def execStatus (tag : Byte) (s : State) : Host.Outcome State Fault Refusal :=
  requestArrives .status tag [] s

/-- SEGMENTS (R22). -/
def execSegments (tag : Byte) (body : List Byte) (s : State) : Host.Outcome State Fault Refusal :=
  requestArrives .segments tag body s

/-- START (R74). -/
def execStart (tag : Byte) (s : State) : Host.Outcome State Fault Refusal :=
  requestArrives .start tag [] s

/-- HOLD (R75). -/
def execHold (tag : Byte) (s : State) : Host.Outcome State Fault Refusal :=
  requestArrives .hold tag [] s

/-- RESUME (R76). -/
def execResume (tag : Byte) (s : State) : Host.Outcome State Fault Refusal :=
  requestArrives .resume tag [] s

/-- CANCEL (R77). -/
def execCancel (tag : Byte) (s : State) : Host.Outcome State Fault Refusal :=
  requestArrives .cancel tag [] s

/-- RECOVER (R78). -/
def execRecover (tag : Byte) (s : State) : Host.Outcome State Fault Refusal :=
  requestArrives .recover tag [] s

/-- OVERRIDE (R43). -/
def execOverride (tag : Byte) (value : Byte) (s : State) : Host.Outcome State Fault Refusal :=
  requestArrives .override tag [value] s

/-- SET_PARAM (R186). -/
def execSetParam (tag : Byte) (number : Byte) (value : Word) (s : State) : Host.Outcome State Fault Refusal :=
  requestArrives .setParam tag (number :: beWord value) s

/-- GET_PARAM (R186). -/
def execGetParam (tag : Byte) (number : Byte) (s : State) : Host.Outcome State Fault Refusal :=
  requestArrives .getParam tag [number] s

/-- SET_BAND (R115). -/
def execSetBand (tag : Byte) (index : Byte) (ceiling bite frequency feedCap : Half)
    (s : State) : Host.Outcome State Fault Refusal :=
  requestArrives .setBand tag
    (index :: be16 ceiling.toNat ++ be16 bite.toNat ++ be16 frequency.toNat ++ be16 feedCap.toNat) s

/-- GET_BAND (R116). -/
def execGetBand (tag : Byte) (index : Byte) (s : State) : Host.Outcome State Fault Refusal :=
  requestArrives .getBand tag [index] s

/-- SET_TRIP (R155). -/
def execSetTrip (tag : Byte) (source action polarity debounce : Byte) (s : State) : Host.Outcome State Fault Refusal :=
  requestArrives .setTrip tag [source, action, polarity, debounce] s

/-- GET_TRIPS (R156). -/
def execGetTrips (tag : Byte) (s : State) : Host.Outcome State Fault Refusal :=
  requestArrives .getTrips tag [] s

/-- CLEAR_TRIPS (R157). -/
def execClearTrips (tag : Byte) (s : State) : Host.Outcome State Fault Refusal :=
  requestArrives .clearTrips tag [] s

/-- TARE (R107). -/
def execTare (tag : Byte) (s : State) : Host.Outcome State Fault Refusal :=
  requestArrives .tare tag [] s

/-- NOTICE_MASK (R182). -/
def execNoticeMask (tag : Byte) (enables : Byte) (s : State) : Host.Outcome State Fault Refusal :=
  requestArrives .noticeMask tag [enables] s

/-- LAMPS (R160). -/
def execLamps (tag : Byte) (green amber red : Byte) (s : State) : Host.Outcome State Fault Refusal :=
  requestArrives .lamps tag [green, amber, red] s

/-- SAVE (R188). -/
def execSave (tag : Byte) (s : State) : Host.Outcome State Fault Refusal :=
  requestArrives .save tag [] s

/-- RESET (R175). -/
def execReset (tag : Byte) (s : State) : Host.Outcome State Fault Refusal :=
  requestArrives .reset tag [] s

end Sys2Proof.Machine
end

