-- ==== Sys2Proof/Machine/Dispatch.lean ====
section
/-! DEFINITION. The meaning of each command: one direct call per constructor. -/

namespace Sys2Proof.Machine

def exec (i : Instr) (s : State) : Host.Outcome State Fault Refusal :=
  match i with
  | .powerOnReset lrateHigh safeNHigh => Sys2Proof.Machine.execPowerOnReset lrateHigh safeNHigh s
  | .lineReset => Sys2Proof.Machine.execLineReset s
  | .lineResetRelease => Sys2Proof.Machine.execLineResetRelease s
  | .settingsLoad acked image => Sys2Proof.Machine.execSettingsLoad acked image s
  | .frameBegin => Sys2Proof.Machine.execFrameBegin s
  | .dwellExpiry => Sys2Proof.Machine.execDwellExpiry s
  | .starveTimerExpiry => Sys2Proof.Machine.execStarveTimerExpiry s
  | .returnWindowClose => Sys2Proof.Machine.execReturnWindowClose s
  | .driveReturn status actual crc => Sys2Proof.Machine.execDriveReturn status actual crc s
  | .startTimerExpiry => Sys2Proof.Machine.execStartTimerExpiry s
  | .stopTimerExpiry => Sys2Proof.Machine.execStopTimerExpiry s
  | .sidxPulse cycles => Sys2Proof.Machine.execSidxPulse cycles s
  | .lfqPulse => Sys2Proof.Machine.execLfqPulse s
  | .windowOverflow => Sys2Proof.Machine.execWindowOverflow s
  | .inputLineChange input high => Sys2Proof.Machine.execInputLineChange input high s
  | .debounceExpiry input => Sys2Proof.Machine.execDebounceExpiry input s
  | .levelRiseHold => Sys2Proof.Machine.execLevelRiseHold s
  | .levelRiseHalt => Sys2Proof.Machine.execLevelRiseHalt s
  | .levelRiseQuickStop => Sys2Proof.Machine.execLevelRiseQuickStop s
  | .levelFall => Sys2Proof.Machine.execLevelFall s
  | .busLevelChange => Sys2Proof.Machine.execBusLevelChange s
  | .frameReceived crcLow => Sys2Proof.Machine.execFrameReceived crcLow s
  | .lengthByteRefused len => Sys2Proof.Machine.execLengthByteRefused len s
  | .gapTimeout => Sys2Proof.Machine.execGapTimeout s
  | .transmitEnd => Sys2Proof.Machine.execTransmitEnd s
  | .blinkToggle => Sys2Proof.Machine.execBlinkToggle s
  | .savePageWritten => Sys2Proof.Machine.execSavePageWritten s
  | .savePollTimeout => Sys2Proof.Machine.execSavePollTimeout s
  | .saveByteRefused => Sys2Proof.Machine.execSaveByteRefused s
  | .ident tag => Sys2Proof.Machine.execIdent tag s
  | .status tag => Sys2Proof.Machine.execStatus tag s
  | .segments tag body => Sys2Proof.Machine.execSegments tag body s
  | .start tag => Sys2Proof.Machine.execStart tag s
  | .hold tag => Sys2Proof.Machine.execHold tag s
  | .resume tag => Sys2Proof.Machine.execResume tag s
  | .cancel tag => Sys2Proof.Machine.execCancel tag s
  | .recover tag => Sys2Proof.Machine.execRecover tag s
  | .override tag value => Sys2Proof.Machine.execOverride tag value s
  | .setParam tag number value => Sys2Proof.Machine.execSetParam tag number value s
  | .getParam tag number => Sys2Proof.Machine.execGetParam tag number s
  | .setBand tag index ceiling bite frequency feedCap => Sys2Proof.Machine.execSetBand tag index ceiling bite frequency feedCap s
  | .getBand tag index => Sys2Proof.Machine.execGetBand tag index s
  | .setTrip tag source action polarity debounce => Sys2Proof.Machine.execSetTrip tag source action polarity debounce s
  | .getTrips tag => Sys2Proof.Machine.execGetTrips tag s
  | .clearTrips tag => Sys2Proof.Machine.execClearTrips tag s
  | .tare tag => Sys2Proof.Machine.execTare tag s
  | .noticeMask tag enables => Sys2Proof.Machine.execNoticeMask tag enables s
  | .lamps tag green amber red => Sys2Proof.Machine.execLamps tag green amber red s
  | .save tag => Sys2Proof.Machine.execSave tag s
  | .reset tag => Sys2Proof.Machine.execReset tag s
  | .linkByteReceived byte => Sys2Proof.Machine.execLinkByteReceived byte s

end Sys2Proof.Machine
end

