-- ==== Sys2Proof/Safety.lean ====
section
/-! DEFINITION. What the data book promises of the machine at every moment, as predicates of the state. The statements say of each that
every step keeps it. -/

namespace Sys2Proof.Machine

/-- R153: "The trip level always equals the most severe action among sources in ACTIVE or LATCHED whose action is HOLD, HALT or
QUICK_STOP, or NONE when there is no such source." -/
def State.LevelAgrees (s : State) : Prop := s.trip.level = levelOf s.trip.sources

/-- R114: "The DF ceilings of the eight density bands are strictly ascending at every moment". -/
def State.CeilingsAscend (s : State) : Prop := ∀ i j : Fin 8, i < j →
  (s.classifier.bands[i]).ceiling < (s.classifier.bands[j]).ceiling

/-- R17: "The cut queue never holds more than 128 records." -/
def State.QueueBounded (s : State) : Prop := s.queue.records.length ≤ 128

/-- The feed is above 0 only on the way along a moving record whose turn is made: what R68's law of the feed rests on. -/
def State.FeedMoves (s : State) : Prop := s.interp.feed ≠ 0 →
  s.seq.engine.steps = true ∧ s.interp.turn = none ∧ s.interp.turnPending = false ∧
    ∃ r, s.queue.records.head? = some r ∧ r.moves = true

/-- R68: "The feed is 0 whenever the cut sequencer is in IDLE, STARVED, PIVOTING, DWELLING, HELD, HALTED or ABORTED." -/
def State.FeedAtRest (s : State) : Prop :=
  s.seq.engine ∈ [Engine.idle, .starved, .pivoting, .dwelling, .held, .halted, .aborted] → s.interp.feed = 0

/-- R38: "The feed always lies between 0 and 500,000 µm/s", with what that rests on: no planning cap exceeds 500,000 (R15), and neither
MAX_CUT_FEED nor MAX_AIR_FEED exceeds 5000 (R185). -/
def State.FeedBounded (s : State) : Prop :=
  s.interp.feed ≤ 500000 ∧ (∀ r ∈ s.queue.records, r.cap ≤ 500000) ∧
    s.settings.params.maxCutFeed ≤ 5000 ∧ s.settings.params.maxAirFeed ≤ 5000

/-- The engine is in one of the four states that a rise of the trip level ends (R68). -/
def Engine.movesOn : Engine → Bool
  | .running | .pivoting | .dwelling | .starved => true
  | .idle | .holding | .held | .halting | .halted | .cancelling | .aborted => false

/-- A rise handed on to the sequencer and not yet taken by it (R154). -/
def State.riseWaits (s : State) : Prop := ∃ c ∈ s.seq.changes, c.before.rank < c.after.rank

/-- R68: "The cut sequencer is never in RUNNING, PIVOTING, DWELLING or STARVED while the trip level is HOLD, HALT or QUICK_STOP",
once the sequencer has taken the rises handed on to it (R154). -/
def State.LevelStops (s : State) : Prop :=
  s.trip.level ≠ .none → ¬ s.riseWaits → s.seq.engine.movesOn = false

/-- R162, R168: the inbox holds at most four frames, and a request waits there only while a reply occupies the slot. -/
def State.InboxServed (s : State) : Prop :=
  s.link.inbox.length ≤ 4 ∧ (s.link.inbox ≠ [] → s.link.reply.isSome = true)

/-- R160, R161, R162, R184: the lamps, ATTN and LDE show the state as it stands; R189, R190: so does the two-wire line. -/
def State.OutputsFollow (s : State) : Prop := s.outputs = s.outputsOf ∧ s.twoWire = s.twoWireOf

/-- R145: sources 10 to 14 never stand below HALT. -/
def State.GuardsStand (s : State) : Prop := ∀ i : Fin 15, 10 ≤ i.val →
  (s.trip.sources[i]).action = .halt ∨ (s.trip.sources[i]).action = .quickStop

/-- Start-up has ended, no request waits and the reply slot is empty: a request is taken as soon as its frame arrives (R168, R191). -/
abbrev State.takesRequests (s : State) : Prop := s.startup.phase = .started ∧ s.link.reply = none ∧ s.link.inbox = []

/-- The state with a reply frame placed in the reply slot (R168). -/
def State.withReply (s : State) (kind tag : Byte) (body : List Byte) : State :=
  { s with link := { s.link with reply := some (frameBytes kind tag body) } }

/-- R69: what HOLDING, HALTING and CANCELLING complete in a frame that comes to rest with the records `q` in the queue, the commanded
values `x`, `y`, `h` and the path progress `p`. `s` is the state before the frame and `u` the state after its work. -/
def State.RestCompletes (s u : State) (q : List Record) (x y : Int) (h : Half) (p : Nat) : Prop :=
  u.interp.x = x ∧ u.interp.y = y ∧ u.interp.heading = h ∧ u.interp.feed = 0 ∧ u.interp.turn = none ∧
  (s.seq.engine = .holding →
    u.seq.engine = .held ∧ u.seq.resume = s.seq.resume ∧ u.seq.dwellCount = s.seq.dwellCount ∧
    u.queue = ⟨q, s.queue.tail⟩ ∧ u.interp.progress = p ∧
    u.notice.engineState = Pending.coalesce s.notice.engineState ⟨.held, .holding, .drained, none⟩) ∧
  (s.seq.engine = .halting →
    u.seq.engine = .halted ∧ u.seq.resume = s.seq.resume ∧ u.seq.dwellCount = s.seq.dwellCount ∧
    u.queue = ⟨q, s.queue.tail⟩ ∧ u.interp.progress = p ∧
    u.notice.engineState = Pending.coalesce s.notice.engineState ⟨.halted, .halting, .drained, none⟩) ∧
  (s.seq.engine = .cancelling →
    u.seq.engine = .idle ∧ u.seq.resume = none ∧ u.seq.dwellCount = 0 ∧ u.seq.starve = .stopped ∧
    u.queue = ⟨[], ⟨x, y, h, s.queue.tail.feed⟩⟩ ∧ u.interp.progress = 0 ∧
    u.seq.interrupted = some ⟨q.head?.map fun r => (r.tag, p / 1000), x, y⟩ ∧
    u.notice.engineState = Pending.coalesce s.notice.engineState ⟨.idle, .cancelling, .drained, u.seq.interrupted⟩) ∧
  (s.seq.engine ≠ .holding → s.stroke.state ∈ [StrokeState.starting, .running, .stalled] →
    u.stroke.state = .stopping ∧ u.stroke.stopTimer = some s.settings.params.strokeStopTimeout)

/-- The QUEUE_LOW record after the completion that leaves `left` records in the queue (R20): set when the count falls to the mark. -/
def State.queueLowAfter (s : State) (left : Nat) : Option (Pending QueueLowContent) :=
  if left = s.settings.params.queueLowMark then Pending.coalesce s.notice.queueLow ⟨left, 128 - left⟩ else s.notice.queueLow

/-- The SEGMENT_DONE record after the completion of a record (R65). -/
def State.segmentDoneAfter (s : State) (r : Record) : Option (Pending Half) :=
  if r.report then Pending.coalesce s.notice.segmentDone r.tag else s.notice.segmentDone

/-- The feed that R36 and R37 give a path step on the moving head record `r` (R35: with the target 0 outside RUNNING). -/
def State.stepFeed (s : State) (r : Record) (m : Moving) : Nat :=
  let target := if s.seq.engine = .running then s.runningTarget r m else 0
  min (if s.interp.feed ≤ target then min target (s.interp.feed + s.settings.params.rampStep)
      else max target (s.interp.feed - s.settings.params.rampStep))
    (allowance s.settings.params.rampStep (activeExit s.settings.params.rampStep s.queue.records) m.length s.interp.progress)

/-- The commanded values of the state are those of the record's path at a progress (R51 to R53). -/
def State.AtProgress (u : State) (m : Moving) (progress : Nat) : Prop :=
  (m.path = .line →
    let n2 := ((m.endX - m.startX) * (m.endX - m.startX) + (m.endY - m.startY) * (m.endY - m.startY)).toNat
    u.interp.x = lineCoordinate m.startX (m.endX - m.startX) progress n2 ∧
    u.interp.y = lineCoordinate m.startY (m.endY - m.startY) progress n2 ∧ u.interp.heading = m.entryHeading) ∧
  ∀ g, m.path = .arc g →
    let b := arcAngle progress g.radius
    let off := arcOffset (m.startX - g.centreX) (m.startY - g.centreY) g.radius g.ccw b
    u.interp.x = g.centreX + off.1 ∧ u.interp.y = g.centreY + off.2 ∧
    u.interp.heading = arcHeading (m.startX - g.centreX) (m.startY - g.centreY) g.ccw b

/-- The open window has taken a frame's report (R64, R103). -/
def State.WindowTakesFrame (s u : State) (advance : Nat) (material : Bool) : Prop :=
  ∀ w, s.stroke.window = some w →
    u.stroke.window = some { w with
      distance := w.distance + advance, frameSeen := true, material := w.material && material }

/-- A stroke index pulse with `cycles` more cycles of the reference completes the open window `w` (R104), before P overflows (R105). -/
def State.CompletesWindow (s : State) (w : Window) (cycles : Nat) : Prop :=
  s.startup.phase ≠ .held ∧ s.stroke.window = some w ∧ 1 ≤ w.p + cycles ∧ w.p + cycles < 16777216 ∧ w.w ≤ w.pulses + 1

/-- The frequency figure of a window completed after `p` cycles (R104). -/
def Window.figure (w : Window) (p : Nat) : Nat := 100000000 * w.w / p

/-- The load figure of a window completed after `p` cycles (R104). -/
def Window.load (w : Window) (p : Nat) : Nat := min (w.c * 10000 / p) 2000

/-- A tare in flight has failed (R110): FAILED, the record gone, and TARE_DONE set with the AIR_FIGURE that stands. -/
def State.TareFails (s u : State) : Prop :=
  u.stroke.tareState = .failed ∧ u.stroke.tare = none ∧ u.settings = s.settings ∧
  u.notice.tareDone = Pending.coalesce s.notice.tareDone ⟨.failed, s.settings.params.airFigure⟩

/-- The trip unit, the changes it hands on and the notices stand. -/
def State.TripStands (s u : State) : Prop :=
  u.trip = s.trip ∧ u.seq = s.seq ∧ u.bus.changes = s.bus.changes ∧ u.notice = s.notice

/-- Source `i` has taken the condition `b` (R150, R151): the level is recomputed where the source changed state (R153), a change of it is
handed on (R154), and the TRIP record is set unless the action is IGNORE (R159). -/
def State.ConditionTaken (s u : State) (i : Fin 15) (b : Bool) : Prop :=
  let before := s.trip.sources[i]
  let moved := before.condition ≠ b ∧ (b = true ∨ before.state = .active)
  u.trip.sources[i] = { before with
    condition := b
    state :=
      if moved then
        if b then .active else if before.action ∈ [Action.hold, .halt, .quickStop] then .latched else .clear
      else before.state
    count := if before.condition ≠ b ∧ b = true then min (before.count + 1) 255 else before.count } ∧
  (∀ j : Fin 15, j ≠ i → u.trip.sources[j] = s.trip.sources[j]) ∧ u.trip.inputs = s.trip.inputs ∧
  u.trip.level = (if moved then levelOf u.trip.sources else s.trip.level) ∧
  (let handed := if u.trip.level = s.trip.level then [] else [⟨s.trip.level, u.trip.level⟩]
   u.seq = { s.seq with changes := s.seq.changes ++ handed } ∧ u.bus.changes = s.bus.changes ++ handed) ∧
  u.notice = { s.notice with
    trip := if moved ∧ before.action ≠ .ignore
      then Pending.coalesce s.notice.trip ⟨i, (u.trip.sources[i]).state, u.trip.level, u.trip.slotSet i⟩
      else s.notice.trip }

/-- The drive bus master has handed on the set `m` of lost or faulted slots with the condition of source `i`, 14 or 13, where the set
changed (R134, R135, R152): an empty set leaves the source's slot set as it was. -/
def State.SlotSetTaken (s u : State) (i : Fin 15) (changed : Prop) (m : BitVec 4) : Prop :=
  (changed → s.ConditionTaken u i (decide (m ≠ 0)) ∧
    u.trip.slotSet i = (if m = 0 then s.trip.slotSet i else some m) ∧ ∀ j, j ≠ i → u.trip.slotSet j = s.trip.slotSet j) ∧
  (¬ changed → s.TripStands u)

/-- The stroke stop has been requested (R72, R93): a stroke that turns goes to STOPPING with its stop timer loaded, and any other comes no
nearer to turning. -/
def State.StrokeStopAsked (s u : State) : Prop :=
  (s.stroke.state ∈ [StrokeState.starting, .running, .stalled] → u.stroke.state = .stopping ∧
    u.stroke.stopTimer = some s.settings.params.strokeStopTimeout ∧ u.stroke.startTimer = none) ∧
  u.stroke.state ∈ [StrokeState.stopping, .stopped]

/-- The engine has entered STARVED (R85, R87): the starve timer runs with STARVE_TIMEOUT, or with a STARVE_TIMEOUT of 0 it has expired and the
stroke stop has been requested. -/
def State.Starves (s u : State) : Prop :=
  u.seq.engine = .starved ∧
  u.notice.engineState = Pending.coalesce s.notice.engineState ⟨.starved, s.seq.engine, .starve, none⟩ ∧
  (0 < s.settings.params.starveTimeout → u.seq.starve = .running s.settings.params.starveTimeout) ∧
  (s.settings.params.starveTimeout = 0 → u.seq.starve = .expired ∧ s.StrokeStopAsked u)

/-- A DWELL at the head of the queue has expired (R62): it completes, with SEGMENT_DONE (R65) and QUEUE_LOW (R20), the dwell count is 0
again (R69), and the sequencer dispatches on what is left, with the record of the change of state (R70, R71, R85, R87). -/
def State.DwellCompletes (s u : State) (r : Record) (rest : List Record) : Prop :=
  u.seq.dwellCount = 0 ∧
  ((∀ n ∈ rest.head?, n.body ≠ .programEnd) → u.queue.records = rest ∧
    u.notice.segmentDone = s.segmentDoneAfter r ∧ u.notice.queueLow = s.queueLowAfter rest.length) ∧
  u.queue.tail = s.queue.tail ∧ u.interp.x = s.interp.x ∧ u.interp.y = s.interp.y ∧
  u.interp.heading = s.interp.heading ∧
  (∀ (n : Record) (m : Moving), rest.head? = some n → n.body = .moving m → m.junction = .blend →
    u.seq.engine = .running ∧ u.interp.progress = 0 ∧ u.interp.turnPending = false ∧
    u.interp.feed = s.interp.feed ∧
    u.notice.engineState = Pending.coalesce s.notice.engineState ⟨.running, .dwelling, .ending, none⟩) ∧
  (∀ (n : Record) (m : Moving), rest.head? = some n → n.body = .moving m → m.junction = .pivot →
    u.seq.engine = .pivoting ∧ u.interp.feed = 0 ∧ u.interp.turnPending = true ∧
    u.interp.turn = some ⟨decide (0 < m.turn), m.turn.natAbs⟩ ∧
    u.notice.engineState = Pending.coalesce s.notice.engineState ⟨.pivoting, .dwelling, .ending, none⟩) ∧
  (∀ (n : Record) (e : Nat), rest.head? = some n → n.body = .dwell e →
    u.seq.engine = .dwelling ∧ u.notice.engineState = s.notice.engineState) ∧
  (∀ (n : Record) (rest' : List Record), rest = n :: rest' → n.body = .programEnd →
    u.seq.engine = .idle ∧ u.seq.resume = none ∧ u.queue.records = rest' ∧
    u.notice.engineState = Pending.coalesce s.notice.engineState ⟨.idle, .dwelling, .ending, none⟩ ∧ s.StrokeStopAsked u) ∧
  (rest = [] → s.Starves u)

/-- Nothing in a frame that begins now stops the stroke but its own timers: no END can be reached, no starve timer can expire, and the
engine comes to no rest that stops it (R69, R71, R85, R111). -/
def State.StrokeUndisturbed (s : State) : Prop :=
  s.seq.engine ∉ [Engine.halting, .cancelling] ∧ (s.seq.engine = .halted → s.stroke.tareInFlight = false) ∧
  (s.seq.engine = .starved → ∀ n, s.seq.starve = .running n → 1 < n) ∧
  (∀ r ∈ s.queue.records, r.body ≠ .programEnd) ∧ 0 < s.settings.params.starveTimeout

/-- No count of a frame that begins now reaches its end but that of the stop timer (R62, R85, R94). -/
def State.NoExpiry (s : State) : Prop :=
  (s.seq.engine = .dwelling → ∀ d, s.headDwell = some d → s.seq.dwellCount + 1 < d) ∧
  (s.seq.engine = .starved → ∀ n, s.seq.starve = .running n → 1 < n) ∧
  (s.stroke.state = .starting → ∀ n, s.stroke.startTimer = some n → 1 < n)

/-- f_set as R90 derives it from the state as it stands. -/
def State.derivedFrequency (s : State) : Nat :=
  match s.activeRecord with
  | none => s.settings.params.airFreq
  | some r =>
    if r.material then (s.classifier.bands[s.classifier.material]).frequency else s.settings.params.airFreq

/-- The S setpoint of a stroke state (R91). -/
def strokeSetpoint (state : StrokeState) (fSet : Nat) : Int :=
  if state ∈ [StrokeState.starting, .running, .stalled] then (fSet : Int) else 0

/-- The enable flag of a slot's record sent in this state with the master's copy of the level at `level` (R91, R130). -/
def State.EnableOn (s : State) (level : TripLevel) (k : Slot) : Prop :=
  level ≠ .quickStop ∧
  match k with
  | .x | .y | .h => (s.bus.get k).adopted = true ∧ s.seq.engine ≠ .aborted
  | .s => s.stroke.state ≠ .stopped

/-- A start request has been made (R92): STOPPED and STOPPING go to STARTING, and every other stroke state stands. -/
def State.StrokeStartAsked (s u : State) : Prop :=
  (s.stroke.state ∈ [StrokeState.stopped, .stopping] → u.stroke.state = .starting ∧
    u.stroke.startTimer = some s.settings.params.strokeStartTimeout ∧ u.stroke.stopTimer = none) ∧
  (s.stroke.state ∈ [StrokeState.starting, .running, .stalled] → u.stroke = s.stroke)

/-- R185's table of the parameters 1 to 28: number, least value, greatest value and default. -/
def parameterTable : List (Nat × Int × Int × Int) :=
  [(1, -8000000, 8000000, 0), (2, -8000000, 8000000, 3200000), (3, -8000000, 8000000, 0), (4, -8000000, 8000000, 2100000),
    (5, 10, 5000, 2500), (6, 10, 5000, 4000), (7, 1, 5000, 1000), (8, 10, 20000, 1500), (9, 10, 2000, 400),
    (10, 0, 2048, 364), (11, 0, 32768, 16384), (12, 1, 128, 22), (13, 100, 100000, 2000), (14, 1, 500, 20),
    (15, 100, 50000, 2000), (16, 16, 4096, 182), (17, 0, 5, 3), (18, 100, 2000, 1800), (19, 10, 1000, 100), (20, 0, 7, 7),
    (21, 200, 1200, 500), (22, 100, 5000, 1500), (23, 100, 5000, 2000), (24, 0, 600000, 5000), (25, 0, 127, 16),
    (26, 0, 15, 15), (27, 0, 1, 0), (28, 0, 2000, 0)]

/-- R190: none of the grounds for DEFAULT_BADDATA lies in an image, whose parts stand as R187 has them. The marker, version and length; the
parameters, each in its range, with each MIN below its MAX and BLEND_ANGLE not above PIVOT_LIMIT; the band fields in their ranges (R114), with
the ceilings ascending; the actions, those of sources 10 to 14 at HALT or above; the polarities, of which the codes 0 and 1 are in range
(notes/assumptions/13.md); and the debounce times. -/
def ImageGood (im : List Byte) : Prop :=
  let param (n : Nat) : Int := readInt im (5 + 4 * (n - 1))
  let band (j field : Nat) : Nat := readNat im (117 + 8 * j + 2 * field) 2
  readNat im 0 2 = 0x5AC7 ∧ readNat im 2 1 = 1 ∧ readNat im 3 2 = 230 ∧
  (∀ n lo hi dflt, (n, lo, hi, dflt) ∈ parameterTable → lo ≤ param n ∧ param n ≤ hi) ∧
  param 1 < param 2 ∧ param 3 < param 4 ∧ param 10 ≤ param 11 ∧
  (∀ j, j < 8 → (1 ≤ band j 0 ∧ band j 0 ≤ 65535) ∧ (50 ≤ band j 1 ∧ band j 1 ≤ 4000) ∧
    (200 ≤ band j 2 ∧ band j 2 ≤ 1200) ∧ (10 ≤ band j 3 ∧ band j 3 ≤ 5000)) ∧
  (∀ j, j < 7 → band j 0 < band (j + 1) 0) ∧
  (∀ i, i < 15 → (readByte im (181 + i)).toNat ≤ 4 ∧ (10 ≤ i → 3 ≤ (readByte im (181 + i)).toNat)) ∧
  (∀ i, i < 8 → (readByte im (196 + i)).toNat ≤ 1 ∧ (readByte im (204 + i)).toNat ≤ 50)

/-- Input `i`, with polarity `p` and debounce time `d`, has first been read from its pin (R147, R148). -/
def State.FirstReads (u : State) (i : Fin 8) (p : Polarity) (d : Nat) (high : Bool) : Prop :=
  let line := match p with | .activeHigh => high | .activeLow => !high
  let src := u.trip.sources[sourceOfInput i]
  u.trip.inputs[i] = ⟨p, d, line, if line = true ∧ d ≠ 0 then some 0 else none⟩ ∧
  (line = true ∧ d = 0 → src.condition = true ∧ src.state = .active ∧ src.count = 1) ∧
  (¬ (line = true ∧ d = 0) → src.condition = false ∧ src.state = .clear ∧ src.count = 0)

/-- What a SEGMENTS request of one moving record leaves once its checks have passed: the record with its resolved feed, entry turn and
junction, the tail at its end, the reply with the counts and the credit, and an arrival in STARVED dispatched (R4, R13, R14, R16, R22,
R49, R86). -/
def State.AcceptsMoving (s u : State) (tag : Byte) (segTag : Half) (material report : Bool) (feed : Option Half)
    (path : Path) (x y : Int) (length : Nat) (entry exit : Half) (cap : Nat) : Prop :=
  let p := s.settings.params
  let top := if material then p.maxCutFeed else p.maxAirFeed
  let resolved := match feed with | none => s.queue.tail.feed | some f => max 1 (min f.toNat top)
  let clamped := match feed with | none => 0 | some f => if f.toNat = resolved then 0 else 1
  let turn := (entry - s.queue.tail.heading).toInt
  let junction : Junction := if turn.natAbs ≤ p.blendAngle then .blend else .pivot
  u.queue = ⟨s.queue.records ++ [⟨segTag, material, report, .moving ⟨path, s.queue.tail.x, s.queue.tail.y, x, y, resolved, length,
    entry, exit, turn, junction, cap⟩⟩], ⟨x, y, exit, resolved⟩⟩ ∧
  u.link = { s.link with reply := some (frameBytes 0x83 tag
    [byte clamped, 1, byte clamped, 0, 0, byte (127 - s.queue.records.length)]) } ∧
  (s.seq.engine ≠ .starved → u.seq = s.seq ∧ u.stroke = s.stroke ∧ u.notice = s.notice ∧
    (s.queue.records ≠ [] → u.interp = s.interp) ∧
    (s.queue.records = [] → u.interp = { s.interp with progress := 0, turnPending := decide (junction = .pivot) })) ∧
  (s.seq.engine = .starved → u.seq.starve = .stopped ∧ s.StrokeStartAsked u ∧
    (junction = .blend → u.seq.engine = .running ∧ u.interp = { s.interp with progress := 0, turnPending := false }) ∧
    (junction = .pivot → u.seq.engine = .pivoting ∧ u.interp = { s.interp with
      feed := 0, progress := 0, turnPending := true, turn := some ⟨decide (0 < turn), turn.natAbs⟩ }) ∧
    u.notice.engineState = Pending.coalesce s.notice.engineState ⟨u.seq.engine, .starved, .starve, none⟩)

/-- A command that is a request, as the frame that carries it (R164, R172, R178). -/
def requestOf : Instr → Option Request
  | .ident tag => some ⟨0x01, tag, []⟩
  | .status tag => some ⟨0x02, tag, []⟩
  | .segments tag body => some ⟨0x03, tag, body⟩
  | .start tag => some ⟨0x10, tag, []⟩
  | .hold tag => some ⟨0x11, tag, []⟩
  | .resume tag => some ⟨0x12, tag, []⟩
  | .cancel tag => some ⟨0x13, tag, []⟩
  | .recover tag => some ⟨0x14, tag, []⟩
  | .override tag value => some ⟨0x15, tag, [value]⟩
  | .setParam tag number value => some ⟨0x20, tag, number :: beWord value⟩
  | .getParam tag number => some ⟨0x21, tag, [number]⟩
  | .setBand tag index ceiling bite frequency feedCap => some ⟨0x22, tag,
      index :: be16 ceiling.toNat ++ be16 bite.toNat ++ be16 frequency.toNat ++ be16 feedCap.toNat⟩
  | .getBand tag index => some ⟨0x23, tag, [index]⟩
  | .setTrip tag source action polarity debounce => some ⟨0x24, tag, [source, action, polarity, debounce]⟩
  | .getTrips tag => some ⟨0x25, tag, []⟩
  | .clearTrips tag => some ⟨0x26, tag, []⟩
  | .tare tag => some ⟨0x27, tag, []⟩
  | .noticeMask tag enables => some ⟨0x28, tag, [enables]⟩
  | .lamps tag green amber red => some ⟨0x29, tag, [green, amber, red]⟩
  | .save tag => some ⟨0x2A, tag, []⟩
  | .reset tag => some ⟨0x3F, tag, []⟩
  | .powerOnReset _ _ => none
  | .lineReset => none
  | .lineResetRelease => none
  | .settingsLoad _ _ => none
  | .frameBegin => none
  | .dwellExpiry => none
  | .starveTimerExpiry => none
  | .returnWindowClose => none
  | .driveReturn _ _ _ => none
  | .startTimerExpiry => none
  | .stopTimerExpiry => none
  | .sidxPulse _ => none
  | .lfqPulse => none
  | .windowOverflow => none
  | .inputLineChange _ _ => none
  | .debounceExpiry _ => none
  | .levelRiseHold => none
  | .levelRiseHalt => none
  | .levelRiseQuickStop => none
  | .levelFall => none
  | .busLevelChange => none
  | .frameReceived _ => none
  | .lengthByteRefused _ => none
  | .gapTimeout => none
  | .transmitEnd => none
  | .blinkToggle => none
  | .savePageWritten => none
  | .savePollTimeout => none
  | .saveByteRefused => none
  | .linkByteReceived _ => none

/-- R43: the override is 0 … 150 %. -/
def State.OverrideBounded (s : State) : Prop := s.override ≤ 150

/-- R189: a save in flight writes one of the pages 0 … 14, and the store state is SAVING exactly while one is in flight. -/
def State.SaveSound (s : State) : Prop :=
  (s.settings.store = .saving ↔ s.settings.save.isSome = true) ∧ ∀ v, s.settings.save = some v → v.page ≤ 14

/-- R89: the start timer runs only in STARTING and the stop timer only in STOPPING. -/
def State.StrokeTimersSound (s : State) : Prop :=
  (s.stroke.startTimer.isSome = true ↔ s.stroke.state = .starting) ∧
    (s.stroke.stopTimer.isSome = true ↔ s.stroke.state = .stopping)

end Sys2Proof.Machine
end

