-- ==== Sys2Proof/Certificates/Slice0/Obligations.lean ====
section
/-! DEFINITION. The statements for the provers. In each, `State.commit` is the end that every event has: a free transmitter chooses
(R170, R183) and the outputs follow (R160, R184); the statements `TransmitterChooses` and `OutputsFollowKept` say what it does. -/

open Sys2Proof Sys2Proof.Machine

/-! ## The step and the queue of commands -/

/-- A step with a command at the front of the queue is that command's meaning on the state with the queue's rest. -/
def Obligations.StepTakesFrontCommand : Prop :=
  ∀ (c : Instr) (rest : List Instr) (s : State),
    step { s with pending := c :: rest } = exec c { s with pending := rest }

/-- A step on an empty queue is one cycle of the 10 MHz reference: the model's choice (notes/assumptions/8.md). The counts are those
of R102 (P), R148 (debounce), R160 (blink clock) and R166 (gap), each standing at the end that a command of its own takes, and the time
to the first return window after a host RESET (R127, R141; notes/assumptions/26.md). -/
def Obligations.IdleStepCountsOneCycle : Prop :=
  ∀ s : State, s.pending = [] →
    (s.startup.phase = .held → step s = .next s) ∧
    (s.startup.phase ≠ .held → step s = .next { s with
      stroke := { s.stroke with window := s.stroke.window.map fun w => { w with p := min (w.p + 1) 16777216 } }
      trip := { s.trip with
        inputs := s.trip.inputs.map fun i =>
          { i with timer := i.timer.map fun t => min (t + 1) (max t (i.debounce * 10000)) }
        blink := if s.trip.blink = 4999999 ∨ 9999999 ≤ s.trip.blink then s.trip.blink else s.trip.blink + 1 }
      link := { s.link with
        gap := if s.link.receiver.midFrame then min (s.link.gap + 1) 20001 else s.link.gap }
      bus := match s.bus.opening with
        | none => s.bus
        | some o =>
          if 1 < o.cycles then { s.bus with opening := some { o with cycles := o.cycles - 1 } }
          else if s.bus.window = none then { s.bus with window := some ⟨o.slot, false⟩, opening := none }
          else s.bus })

/-- Every command answers a next state, and none touches the queue of commands, the straps but a POR's, or the input pins but one that
drives a pin. -/
def Obligations.EveryCommandAnswersNext : Prop :=
  ∀ (c : Instr) (s : State), ∃ t, exec c s = .next t ∧ t.pending = s.pending ∧
    (t.pins = match c with
      | .inputLineChange i high => s.pins.set i.val high
      | _ => s.pins) ∧
    ((∀ l f, c ≠ .powerOnReset l f) →
      t.startup.lrateHigh = s.startup.lrateHigh ∧ t.startup.safeNHigh = s.startup.safeNHigh)

/-! ## What every step keeps -/

/-- R153: the trip level always equals the most severe stopping action among the sources in ACTIVE or LATCHED. -/
def Obligations.TripLevelAgreesKept : Prop :=
  ∀ s t : State, s.LevelAgrees → step s = .next t → t.LevelAgrees

/-- R114: the DF ceilings are strictly ascending at every moment. -/
def Obligations.CeilingsAscendKept : Prop :=
  ∀ s t : State, s.CeilingsAscend → step s = .next t → t.CeilingsAscend

/-- R17, R162, R168: the cut queue never holds more than 128 records; at most four requests wait, and only while the reply slot is
occupied. -/
def Obligations.QueueAndInboxBoundsKept : Prop :=
  ∀ s t : State, step s = .next t → (s.QueueBounded → t.QueueBounded) ∧ (s.InboxServed → t.InboxServed)

/-- R68, first law: the feed is 0 in the seven states at rest. `FeedMoves` is what the law rests on; both hold after the step. -/
def Obligations.FeedAtRestKept : Prop :=
  ∀ s t : State, s.FeedMoves → step s = .next t → t.FeedMoves ∧ t.FeedAtRest

/-- R68, second law: the engine is not in RUNNING, PIVOTING, DWELLING or STARVED while the trip level is above NONE, once the rises
handed on to the sequencer have been taken (R154). -/
def Obligations.TripLevelStopsEngineKept : Prop :=
  ∀ s t : State, s.LevelStops → step s = .next t → t.LevelStops

/-- R160, R161, R162, R184, R189, R190: the lamps, ATTN, LDE and the two-wire line show the state as it stands. After any command: all low
while RESET_N is low; else the lamps by the host's settings while one of them is not OFF and by R161's table while all are, a steady lamp
lit and a blinking one with the blink clock below 500 ms; ATTN while an enabled class holds a record; LDE while the transmitter sends. -/
def Obligations.OutputsFollowKept : Prop :=
  (∀ s t : State, s.OutputsFollow → step s = .next t → t.OutputsFollow) ∧
  (∀ (c : Instr) (s t : State), exec c s = .next t → t.OutputsFollow) ∧
  ∀ (c : Instr) (s t : State), exec c s = .next t →
    (t.startup.phase = .held → t.outputs = ⟨false, false, false, false, false⟩) ∧
    (t.startup.phase ≠ .held →
      let clock := t.trip.blink < 5000000
      let host := ¬ (t.trip.green = .off ∧ t.trip.amber = .off ∧ t.trip.red = .off)
      (host →
        (t.outputs.lgrn = true ↔ t.trip.green = .on ∨ t.trip.green = .blink ∧ clock) ∧
        (t.outputs.lamb = true ↔ t.trip.amber = .on ∨ t.trip.amber = .blink ∧ clock) ∧
        (t.outputs.lred = true ↔ t.trip.red = .on ∨ t.trip.red = .blink ∧ clock)) ∧
      (¬ host →
        (t.outputs.lgrn = true ↔
          t.seq.engine ∈ [Engine.running, .pivoting, .dwelling] ∨ t.seq.engine = .starved ∧ clock) ∧
        (t.outputs.lamb = true ↔
          t.seq.engine ∈ [Engine.holding, .held, .halting, .halted, .cancelling] ∨
            t.stroke.tareState ∈ [TareState.waiting, .measuring] ∧ clock) ∧
        (t.outputs.lred = true ↔
          (t.trip.level = .quickStop ∨ t.seq.engine = .aborted) ∨
            (∃ i : Fin 15, (t.trip.sources[i]).state = .latched) ∧ clock)) ∧
      (t.outputs.attn = true ↔
        (t.notice.trip ≠ none ∧ t.notice.enables.getLsbD 0 = true) ∨
        (t.notice.engineState ≠ none ∧ t.notice.enables.getLsbD 1 = true) ∨
        (t.notice.segmentDone ≠ none ∧ t.notice.enables.getLsbD 2 = true) ∨
        (t.notice.queueLow ≠ none ∧ t.notice.enables.getLsbD 3 = true) ∨
        (t.notice.band ≠ none ∧ t.notice.enables.getLsbD 4 = true) ∨
        (t.notice.tareDone ≠ none ∧ t.notice.enables.getLsbD 5 = true) ∨
        (t.notice.storeDone ≠ none ∧ t.notice.enables.getLsbD 6 = true)) ∧
      (t.outputs.lde = true ↔ t.link.transmitter ≠ .free))

/-- R145, R43, R89, R188: sources 10 to 14 never stand below HALT, the override stays within 0 … 150, a stroke timer runs exactly in its
state, and the store is SAVING exactly while a save of one of the pages 0 … 14 is in flight. -/
def Obligations.RangesTimersAndSaveKept : Prop :=
  ∀ s t : State, step s = .next t →
    (s.GuardsStand → t.GuardsStand) ∧ (s.OverrideBounded → t.OverrideBounded) ∧
    (s.StrokeTimersSound → t.StrokeTimersSound) ∧ (s.SaveSound → t.SaveSound)

/-- The state after reset meets every one of these. Where they rest on reset values that the spec does not give, those are the model's
choices: the pins and straps (notes/assumptions/3.md), the working set before the load (notes/assumptions/4.md) and the wait for the
settings load (notes/assumptions/24.md). -/
def Obligations.ResetMeetsInvariants : Prop :=
  State.reset.LevelAgrees ∧ State.reset.CeilingsAscend ∧ State.reset.QueueBounded ∧ State.reset.FeedMoves ∧
    State.reset.FeedAtRest ∧ State.reset.LevelStops ∧ State.reset.GuardsStand ∧ State.reset.InboxServed ∧
    State.reset.OutputsFollow ∧ State.reset.OverrideBounded ∧ State.reset.StrokeTimersSound ∧ State.reset.SaveSound ∧
    State.reset.FeedBounded

/-! ## Resets and start-up (R191, R190, R175, R88) -/

/-- POWER_ON_RESET: what R191 and each block's table give after POR. The settings load follows unless RESET_N is low, with its transfer on
the two-wire line (R190). The working set before the load is the model's choice (notes/assumptions/4.md, 16.md), and so are the values of the
fields that are the model's own: the changes handed on, the windows, the bytes on the line, the gap and the RESET mark
(notes/assumptions/24.md), the direction and stop condition of the one addressing under SAFE_N low (notes/assumptions/30.md), and that the
read transfer stands in full until the load ends (notes/assumptions/34.md). -/
def Obligations.PowerOnResetSetsEveryBlock : Prop :=
  ∀ (lrate safeN : Bool) (s : State), ∃ t, exec (.powerOnReset lrate safeN) s = .next t ∧
    t.startup = ⟨if s.startup.phase = .held then .held else .loading, lrate, safeN⟩ ∧
    t.queue = ⟨[], ⟨0, 0, 0, 1000⟩⟩ ∧ t.override = 100 ∧ t.interp = ⟨0, 0, 0, 0, 0, none, false⟩ ∧
    t.seq = ⟨.idle, none, 0, .stopped, none, []⟩ ∧
    t.stroke = ⟨.stopped, 500, none, none, 0, 0, false, none, 0, 0, .idle, none⟩ ∧
    t.classifier.material = 7 ∧ t.classifier.candidate = none ∧ t.classifier.df = 0 ∧ t.classifier.overload = false ∧
    t.bus.started = false ∧ t.bus.window = none ∧ t.bus.opening = none ∧ t.bus.line = [] ∧ t.bus.changes = [] ∧
    (∀ i : Fin 15, (t.trip.sources[i]).state = .clear ∧ (t.trip.sources[i]).condition = false ∧
      (t.trip.sources[i]).count = 0) ∧
    t.trip.level = .none ∧ t.trip.faultSet = 0 ∧ t.trip.lostSet = 0 ∧ t.trip.green = .off ∧ t.trip.amber = .off ∧
    t.trip.red = .off ∧ t.trip.blink = 0 ∧
    t.link = ⟨lrate, .disabled, 0, [], none, .free, 0, 0, 0, 0, 0, false⟩ ∧
    t.notice = ⟨none, none, none, none, none, none, none, 3, .trip⟩ ∧
    t.settings.store = .idle ∧ t.settings.save = none ∧ t.outputs = ⟨false, false, false, false, false⟩ ∧
    t.twoWire = (if s.startup.phase = .held then []
      else if safeN then [.start, .addressWrite, .sent 0, .sent 0, .start, .addressRead, .received 230, .stop]
      else [.start, .addressWrite, .stop])

/-- LINE_RESET and LINE_RESET_RELEASE (R191): every block at its reset values and all outputs low while RESET_N is low, with the
straps' samples, the line rate and, by the model's choice (notes/assumptions/4.md), the working set kept, and a save's transfer cut (R189);
released, start-up stands at the settings load, whose transfer is on the two-wire line (R190). That each input stands with its line inactive
and its timer stopped until the lines are first read is the model's choice too (notes/assumptions/28.md), and so are the values of the
model's own fields (notes/assumptions/24.md), the direction and stop condition of the one addressing under SAFE_N low
(notes/assumptions/30.md), and that the read transfer stands in full until the load ends (notes/assumptions/34.md). -/
def Obligations.LineResetHoldsEveryBlock : Prop :=
  (∀ s : State, ∃ t, exec .lineReset s = .next t ∧
    t.startup = { s.startup with phase := .held } ∧
    t.queue = ⟨[], ⟨0, 0, 0, s.settings.params.defaultFeed⟩⟩ ∧ t.override = 100 ∧
    t.interp = ⟨0, 0, 0, 0, 0, none, false⟩ ∧ t.seq = ⟨.idle, none, 0, .stopped, none, []⟩ ∧
    t.stroke = ⟨.stopped, s.settings.params.airFreq, none, none, 0, 0, false, none, 0, 0, .idle, none⟩ ∧
    t.classifier = ⟨s.classifier.bands, s.settings.params.entryBand, none, 0, false⟩ ∧
    t.bus.started = false ∧ t.bus.window = none ∧ t.bus.opening = none ∧ t.bus.line = [] ∧ t.bus.changes = [] ∧
    t.trip.faultSet = 0 ∧ t.trip.lostSet = 0 ∧
    (∀ i : Fin 15, (t.trip.sources[i]) = ⟨(s.trip.sources[i]).action, false, .clear, 0⟩) ∧
    (∀ i : Fin 8, (t.trip.inputs[i]) = ⟨(s.trip.inputs[i]).polarity, (s.trip.inputs[i]).debounce, false, none⟩) ∧
    t.trip.level = .none ∧ t.trip.green = .off ∧ t.trip.amber = .off ∧ t.trip.red = .off ∧ t.trip.blink = 0 ∧
    t.link = ⟨s.startup.lrateHigh, .disabled, 0, [], none, .free, 0, 0, 0, 0, 0, false⟩ ∧
    t.notice = ⟨none, none, none, none, none, none, none, 3, .trip⟩ ∧
    t.settings = { s.settings with store := .idle, save := none } ∧
    t.outputs = ⟨false, false, false, false, false⟩ ∧ t.twoWire = []) ∧
  (∀ s : State, exec .lineResetRelease s = .next (State.commit
    (if s.startup.phase = .held then { s with startup := { s.startup with phase := .loading } } else s))) ∧
  (∀ s : State, s.startup.phase = .held → ∃ t, exec .lineResetRelease s = .next t ∧
    t.twoWire = (if s.startup.safeNHigh
      then [.start, .addressWrite, .sent 0, .sent 0, .start, .addressRead, .received 230, .stop]
      else [.start, .addressWrite, .stop]))

/-- SETTINGS_LOAD (R190, R191): the first case that applies decides the settings source. `ImageGood` spells out the grounds for
DEFAULT_BADDATA, among which a polarity byte above 1 is the model's reading (notes/assumptions/13.md). Every DEFAULT_ source leaves the ROM
defaults (R185, R114, R145), STORED the image, part by part as R187 has it (the order of the bytes of its fields: notes/assumptions/30.md),
of the parameters, the label, the bands and the trip configuration alike; the present flag is set when the EEPROM acknowledged its address.
Then the tail feed is the loaded DEFAULT_FEED (R5), f_set the loaded AIR_FREQ (R89, R90) and the material band that of ENTRY_BAND, the input
lines are first read (R148), the bus starts with frame 0, the receiver is enabled in HUNT and the ENGINE_STATE record is set unless it was
(R88). That the two-wire line is empty after the load is the model's choice (notes/assumptions/34.md), and that at any other time than step 2
of start-up the command does nothing too (notes/assumptions/32.md). -/
def Obligations.SettingsLoadFillsWorkingSet : Prop :=
  (∀ (acked : Nat) (image : List Byte) (s : State), s.startup.phase = .loading →
    ∃ (source : SettingsSource) (params : Params) (u : State), exec (.settingsLoad acked image) s = .next u.commit ∧
      (s.startup.safeNHigh = false → source = .defaultSafe) ∧
      (s.startup.safeNHigh = true →
        (acked < 4 → source = .defaultAbsent) ∧
        (4 ≤ acked → (crc16 (image.take 228)).toNat ≠ readNat image 228 2 → source = .defaultBadCheck) ∧
        (4 ≤ acked → (crc16 (image.take 228)).toNat = readNat image 228 2 →
          (ImageGood image → source = .stored) ∧ (¬ ImageGood image → source = .defaultBadData))) ∧
      u.settings = ⟨params, source, decide (1 ≤ acked), .idle, none⟩ ∧
      (source = .stored →
        (∀ n, 1 ≤ n → n ≤ 28 → params.get n = some (readInt image (5 + 4 * (n - 1)))) ∧
        (∀ n, n < 4 → params.get (29 + n) = some (readInt image (212 + 4 * n))) ∧
        (∀ j : Fin 8, u.classifier.bands[j] =
          ⟨readNat image (117 + 8 * j.val) 2, readNat image (119 + 8 * j.val) 2, readNat image (121 + 8 * j.val) 2,
            readNat image (123 + 8 * j.val) 2⟩) ∧
        (∀ i : Fin 15, (u.trip.sources[i]).action.code = readByte image (181 + i.val)) ∧
        (∀ i : Fin 8, u.FirstReads i (if readByte image (196 + i.val) = 0 then .activeHigh else .activeLow)
          (readByte image (204 + i.val)).toNat s.pins[i])) ∧
      (source ≠ .stored →
        (∀ n lo hi dflt, (n, lo, hi, dflt) ∈ parameterTable → params.get n = some dflt) ∧
        (∀ n, n < 4 → params.get (29 + n) = some 0x20202020) ∧
        u.classifier.bands = #v[⟨120, 2400, 600, 3000⟩, ⟨200, 2000, 650, 2800⟩, ⟨300, 1600, 700, 2500⟩, ⟨420, 1300, 750, 2200⟩,
          ⟨560, 1000, 800, 1800⟩, ⟨740, 800, 850, 1500⟩, ⟨1000, 600, 900, 1200⟩, ⟨65535, 400, 950, 800⟩] ∧
        (∀ i : Fin 15, (u.trip.sources[i]).action =
          if i.val = 0 ∨ 10 ≤ i.val then .quickStop else if 8 ≤ i.val then .halt else .ignore) ∧
        (∀ i : Fin 8, u.FirstReads i .activeLow 10 s.pins[i])) ∧
      u.queue.tail.feed = params.defaultFeed ∧ (s.seq.engine = .idle → u.stroke.fSet = params.airFreq) ∧
      u.classifier.material = params.entryBand ∧
      u.bus.started = true ∧ u.bus.frameCount = 0 ∧ u.link = { s.link with receiver := .hunt, gap := 0 } ∧
      u.startup = { s.startup with phase := .started } ∧ u.commit.twoWire = [] ∧
      (s.seq.engine = .idle → s.notice.engineState = none →
        u.notice.engineState = some ⟨⟨.idle, .idle, .request, none⟩, 1⟩) ∧
      (s.seq.engine = .idle → s.notice.engineState ≠ none → u.notice.engineState = s.notice.engineState)) ∧
  ∀ (acked : Nat) (image : List Byte) (s : State), s.startup.phase ≠ .loading →
    exec (.settingsLoad acked image) s = .next s.commit

/-- TRANSMIT_END of the reply of an accepted RESET (R175): every block takes its values after REQ. The working set, the settings source
and the store state, the class enables, the discard counters and the line rate are kept; the ENGINE_STATE record names the state left
(R88, notes/assumptions/20.md), and with its class enabled its notice is the next frame sent, TAG 0 (R175, R170); every source is CLEAR and
both slot sets are empty (R144), and the input lines are first read (R148); the bus starts again with frame 0, each slot at the values of
R140, the first active one sent a record of 0 with enable off, its first window held back to the end of its setpoint record where a return of
the old frame could still come (R141; notes/assumptions/26.md). -/
def Obligations.HostResetTakesEffectAtReplyEnd : Prop :=
  ∀ (frame : List Byte) (s : State), s.link.transmitter = .reply frame → s.link.resetPending = true →
    let first := [Slot.x, .y, .h, .s].find? s.settings.params.slotActive
    let awaited := s.bus.opening ≠ none ∨ ∃ k, s.bus.window = some ⟨k, false⟩
    ∃ u : State, exec .transmitEnd s = .next u.commit ∧
      u.settings = s.settings ∧ u.override = 100 ∧ u.queue = ⟨[], ⟨0, 0, 0, s.settings.params.defaultFeed⟩⟩ ∧
      u.seq.engine = .idle ∧ u.seq.resume = none ∧ u.seq.dwellCount = 0 ∧ u.seq.starve = .stopped ∧ u.seq.interrupted = none ∧
      u.interp = ⟨0, 0, 0, 0, 0, none, false⟩ ∧
      u.stroke = ⟨.stopped, s.settings.params.airFreq, none, none, 0, 0, false, none, 0, 0, .idle, none⟩ ∧
      u.classifier = ⟨s.classifier.bands, s.settings.params.entryBand, none, 0, false⟩ ∧
      u.trip.green = .off ∧ u.trip.amber = .off ∧ u.trip.red = .off ∧ u.trip.blink = 0 ∧
      (∀ i : Fin 15, (u.trip.sources[i]).action = (s.trip.sources[i]).action) ∧
      (∀ i : Fin 15, 8 ≤ i.val → u.trip.sources[i] = ⟨(s.trip.sources[i]).action, false, .clear, 0⟩) ∧
      u.trip.faultSet = 0 ∧ u.trip.lostSet = 0 ∧ u.trip.level = levelOf u.trip.sources ∧
      (∀ i : Fin 8, u.FirstReads i (s.trip.inputs[i]).polarity (s.trip.inputs[i]).debounce s.pins[i]) ∧
      u.bus.started = true ∧ u.bus.frameCount = 0 ∧ u.bus.level = u.trip.level ∧
      (∀ k : Slot, u.bus.get k = ⟨s.settings.params.slotActive k, 0, none, false, false, false, false, 0,
        if first = some k then some ⟨0, false⟩ else none, none⟩) ∧
      (awaited → u.bus.window = none ∧ u.bus.opening = first.map (⟨·, 225⟩)) ∧
      (¬ awaited → u.bus.window = first.map (⟨·, false⟩) ∧ u.bus.opening = none) ∧
      u.notice.enables = s.notice.enables ∧ u.notice.segmentDone = none ∧ u.notice.queueLow = none ∧
      u.notice.band = none ∧ u.notice.tareDone = none ∧ u.notice.storeDone = none ∧
      (s.startup.phase = .started ∧ s.notice.enables.getLsbD 1 = true →
        u.notice.engineState = none ∧ u.notice.lastSent = .engineState ∧
        u.link = { s.link with
          receiver := .hunt, gap := 0, inbox := [], reply := none, sequence := 1, resetPending := false
          transmitter := .notice (frameBytes 0x61 0
            [1, 0, s.seq.engine.code, 0, 0, 0, 0, 0, 0, 0, 0, 0, 0, 0, 0, 0, 0, 0, 0]) }) ∧
      (¬ (s.startup.phase = .started ∧ s.notice.enables.getLsbD 1 = true) →
        u.notice.engineState = some ⟨⟨.idle, s.seq.engine, .request, none⟩, 1⟩ ∧ u.notice.lastSent = .trip ∧
        u.link = { s.link with
          receiver := .hunt, gap := 0, inbox := [], reply := none, transmitter := .free, sequence := 0
          resetPending := false })

/-! ## The drive frame (R127 to R143) -/

/-- FRAME_BEGIN (R127, R128): the frame count rises by 1, the sync record is sent first, the activity of each slot is that of SLOT_MASK,
and the first active slot's window opens. A slot activated stands at the values of R140 with its adoption pending; one carried on keeps its
figures, and its record becomes the one of the frame before; one deactivated has its flags false, no actual and no adoption, its commanded
value kept, and each flag that falls is handed on, its lost, fault and following flag in turn (R134, R135, R137; the order is the model's
choice, notes/assumptions/31.md). A frame that begins in DWELLING raises the dwell count by 1 and completes the DWELL at its duration (R62);
one that begins in STARVED, STARTING or STOPPING takes 1 from the starve, start or stop timer and takes its expiry (R85, R94, R95), in this
order (notes/assumptions/6.md, 7.md). Before bus start there is no frame. -/
def Obligations.FrameBeginOpensFrame : Prop :=
  (∀ s : State, s.bus.started = true → ∃ t, exec .frameBegin s = .next t ∧
    t.bus.frameCount = s.bus.frameCount + 1 ∧
    t.bus.line.take 3 = [0xB4, s.bus.frameCount + 1, crc8 [0xB4, s.bus.frameCount + 1]] ∧
    (∀ k : Slot, (t.bus.get k).active = s.settings.params.slotActive k) ∧
    t.bus.window = ([Slot.x, .y, .h, .s].find? s.settings.params.slotActive).map (⟨·, false⟩) ∧
    t.settings = s.settings ∧ t.override = s.override ∧ t.classifier.bands = s.classifier.bands ∧
    (∀ k : Slot, (s.bus.get k).active = false → s.settings.params.slotActive k = true →
      (t.bus.get k).misses = 0 ∧ (t.bus.get k).actual = none ∧ (t.bus.get k).lost = false ∧
      (t.bus.get k).fault = false ∧ (t.bus.get k).following = false ∧ (t.bus.get k).adopted = false ∧
      (t.bus.get k).sentBefore = none) ∧
    (∀ k : Slot, (s.bus.get k).active = true → s.settings.params.slotActive k = true →
      (t.bus.get k).misses = (s.bus.get k).misses ∧ (t.bus.get k).actual = (s.bus.get k).actual ∧
      (t.bus.get k).lost = (s.bus.get k).lost ∧ (t.bus.get k).fault = (s.bus.get k).fault ∧
      (t.bus.get k).adopted = (s.bus.get k).adopted ∧ (t.bus.get k).sentBefore = (s.bus.get k).sentNow) ∧
    (∀ k : Slot, (s.bus.get k).active = true → s.settings.params.slotActive k = false →
      (t.bus.get k).actual = none ∧ (t.bus.get k).lost = false ∧ (t.bus.get k).fault = false ∧
      (k ≠ .s → (t.bus.get k).following = false) ∧ (t.bus.get k).adopted = false ∧
      (t.bus.get k).sentNow = none ∧ (t.bus.get k).sentBefore = none)) ∧
  (∀ (s : State) (k : Slot), s.bus.started = true → s.seq.engine = .idle →
    s.stroke.state ∈ [StrokeState.stopped, .running, .stalled] → (s.bus.get k).active = true →
    s.settings.params.slotActive k = false →
    (∀ j, j ≠ k → (s.bus.get j).active = s.settings.params.slotActive j ∧ (s.bus.get j).following = false) →
    ∃ u v w : State, exec .frameBegin s = .next u.commit ∧ u.interp = s.interp ∧ u.queue = s.queue ∧
      s.SlotSetTaken v 14 ((s.bus.get k).lost = true) u.bus.lostSlots ∧
      v.SlotSetTaken w 13 ((s.bus.get k).fault = true) u.bus.faultSlots ∧
      (∀ i, k.followSource = some i → (s.bus.get k).following = true → w.ConditionTaken u i false) ∧
      (k = .s ∨ (s.bus.get k).following = false → w.TripStands u)) ∧
  (∀ (s : State) (r : Record) (d : Nat) (rest : List Record), s.bus.started = true → s.seq.engine = .dwelling →
    s.queue.records = r :: rest → r.body = .dwell d →
    ∃ u : State, exec .frameBegin s = .next u.commit ∧
      (s.seq.dwellCount + 1 < d → u.seq.engine = .dwelling ∧ u.seq.dwellCount = s.seq.dwellCount + 1 ∧
        u.queue = s.queue ∧ u.notice.engineState = s.notice.engineState ∧
        u.notice.segmentDone = s.notice.segmentDone ∧ u.notice.queueLow = s.notice.queueLow) ∧
      (d ≤ s.seq.dwellCount + 1 → s.DwellCompletes u r rest)) ∧
  (∀ (s : State) (n : Nat), s.bus.started = true → s.seq.engine = .starved → s.seq.starve = .running n →
    ∃ u : State, exec .frameBegin s = .next u.commit ∧ u.seq.engine = .starved ∧
      u.notice.engineState = s.notice.engineState ∧ (1 < n → u.seq.starve = .running (n - 1)) ∧
      (n ≤ 1 → u.seq.starve = .expired ∧
        (s.stroke.state ∈ [StrokeState.starting, .running, .stalled] →
          u.stroke.state = .stopping ∧ u.stroke.stopTimer = some s.settings.params.strokeStopTimeout))) ∧
  (∀ (s : State) (n : Nat), s.bus.started = true → s.stroke.state = .starting → s.stroke.startTimer = some n →
    s.StrokeUndisturbed →
    ∃ u : State, exec .frameBegin s = .next u.commit ∧
      (1 < n → u.stroke.state = .starting ∧ u.stroke.startTimer = some (n - 1) ∧ u.stroke.stall = s.stroke.stall) ∧
      (n ≤ 1 → u.stroke.stall = true ∧ u.stroke.startTimer = none ∧ u.stroke.slow = 0 ∧
        (s.stroke.stall = false → (u.trip.sources[9]).condition = true) ∧
        (s.stroke.tareInFlight = false → u.stroke.state = .stalled) ∧
        (s.stroke.tareInFlight = true → s.TareFails u))) ∧
  (∀ (s : State) (n : Nat), s.bus.started = true → s.stroke.state = .stopping → s.stroke.stopTimer = some n →
    ∃ u : State, exec .frameBegin s = .next u.commit ∧
      (1 < n → u.stroke.state = .stopping ∧ u.stroke.stopTimer = some (n - 1) ∧ u.stroke.stall = s.stroke.stall ∧
        u.classifier.overload = s.classifier.overload) ∧
      (n ≤ 1 → u.stroke.state = .stopped ∧ u.stroke.stopTimer = none ∧ u.stroke.stall = false ∧
        u.classifier.overload = false ∧
        (s.stroke.stall = true → (u.trip.sources[9]).condition = false) ∧
        (s.classifier.overload = true → (u.trip.sources[8]).condition = false))) ∧
  (∀ s : State, s.bus.started = false → exec .frameBegin s = .next s.commit)

/-- A pivot step (R59): H advances by PIVOT_RATE, or by the remaining turn; X and Y stand. Its end takes PIVOTING to RUNNING; in HOLDING,
HALTING and CANCELLING it is the rest of R69 (R61). The change to RUNNING is reported with cause END (R87). -/
def Obligations.PivotStepTurnsHeading : Prop :=
  (∀ (s : State) (turn : Turn), s.bus.started = true → s.seq.engine = .pivoting → s.interp.turn = some turn →
    ∃ u : State, exec .frameBegin s = .next u.commit ∧ u.interp.x = s.interp.x ∧ u.interp.y = s.interp.y ∧
      u.interp.feed = s.interp.feed ∧ u.interp.progress = s.interp.progress ∧ u.queue = s.queue ∧
      (s.settings.params.pivotRate < turn.remaining →
        u.interp.turn = some ⟨turn.ccw, turn.remaining - s.settings.params.pivotRate⟩ ∧
        u.interp.heading = (if turn.ccw then s.interp.heading + BitVec.ofNat 16 s.settings.params.pivotRate
          else s.interp.heading - BitVec.ofNat 16 s.settings.params.pivotRate) ∧
        u.seq.engine = .pivoting ∧ u.notice.engineState = s.notice.engineState) ∧
      (turn.remaining ≤ s.settings.params.pivotRate →
        u.interp.turn = none ∧ u.interp.turnPending = false ∧
        u.interp.heading = (if turn.ccw then s.interp.heading + BitVec.ofNat 16 turn.remaining
          else s.interp.heading - BitVec.ofNat 16 turn.remaining) ∧
        u.seq.engine = .running ∧
        u.notice.engineState = Pending.coalesce s.notice.engineState ⟨.running, .pivoting, .ending, none⟩)) ∧
  ∀ (s : State) (turn : Turn), s.bus.started = true → s.seq.engine ∈ [Engine.holding, .halting, .cancelling] →
    s.interp.turn = some turn → s.interp.feed = 0 →
    ∃ u : State, exec .frameBegin s = .next u.commit ∧
      (s.settings.params.pivotRate < turn.remaining →
        u.interp = { s.interp with
          turn := some ⟨turn.ccw, turn.remaining - s.settings.params.pivotRate⟩
          heading := if turn.ccw then s.interp.heading + BitVec.ofNat 16 s.settings.params.pivotRate
            else s.interp.heading - BitVec.ofNat 16 s.settings.params.pivotRate } ∧
        u.seq.engine = s.seq.engine ∧ u.queue = s.queue ∧ u.notice.engineState = s.notice.engineState) ∧
      (turn.remaining ≤ s.settings.params.pivotRate → u.interp.turnPending = false ∧
        s.RestCompletes u s.queue.records s.interp.x s.interp.y
          (if turn.ccw then s.interp.heading + BitVec.ofNat 16 turn.remaining
            else s.interp.heading - BitVec.ofNat 16 turn.remaining) s.interp.progress)

/-- R38, whole: every step keeps the feed within 0 … 500,000, with the caps and feed limits that this rests on. After a frame begin in which
a path step can be made, the feed is no greater than the geometric allowance (R31) of the record then active, derived from the planning window
of the queue as it then stands, at the progress that the step started from or, after a carry, at the excess carried (R37, R40); over a
chain of carries the window moves on with the queue, the model's choice (notes/assumptions/29.md). From one frame
to the next the feed never rises by more than RAMP_STEP, and on a MATERIAL record it does not rise while the stroke is not RUNNING. -/
def Obligations.FeedRisesByAtMostRampStep : Prop :=
  (∀ s t : State, s.FeedBounded → step s = .next t → t.FeedBounded) ∧
  (∀ (s t : State) (r : Record) (m : Moving), exec .frameBegin s = .next t → s.bus.started = true →
    s.seq.engine ∈ [Engine.running, .holding, .halting, .cancelling] → s.interp.turn = none →
    s.interp.turnPending = false → t.queue.records.head? = some r → r.body = .moving m →
    t.interp.feed ≤ allowance s.settings.params.rampStep (activeExit s.settings.params.rampStep t.queue.records) m.length
      (if t.queue.records = s.queue.records then s.interp.progress else t.interp.progress)) ∧
  ∀ s t : State, exec .frameBegin s = .next t →
    t.interp.feed ≤ s.interp.feed + s.settings.params.rampStep ∧
    (∀ r, s.queue.records.head? = some r → r.material = true → s.stroke.state ≠ .running →
      t.interp.feed ≤ s.interp.feed)

/-- A path step that stops short of an end (R51 to R54), on a LINE or an arc: the progress rises by the new feed, which R35 to R37 give, and
the commanded values are those of the progress. One whose end has an exit above 0 and whose excess falls short of the next record's end
carries it there (R39, R40, R56): the record passed completes, and the feed is bounded by the new allowance. The open window takes the
advance, and a material flag that is clear unless every record travelled is MATERIAL (R64, R103). In RUNNING, HOLDING, HALTING and
CANCELLING. -/
def Obligations.PathStepAdvancesAlongLine : Prop :=
  ∀ (s : State) (r : Record) (rest : List Record) (m : Moving), s.bus.started = true →
    s.seq.engine ∈ [Engine.running, .holding, .halting, .cancelling] → s.interp.turn = none →
    s.interp.turnPending = false → s.queue.records = r :: rest → r.body = .moving m → 0 < s.stepFeed r m →
    (s.interp.progress + s.stepFeed r m < m.length * 1000 →
      ∃ u : State, exec .frameBegin s = .next u.commit ∧ u.interp.feed = s.stepFeed r m ∧
        u.interp.progress = s.interp.progress + s.stepFeed r m ∧
        u.AtProgress m (s.interp.progress + s.stepFeed r m) ∧ u.queue = s.queue ∧ u.seq.engine = s.seq.engine ∧
        u.interp.turn = none ∧ u.interp.turnPending = false ∧ u.notice.segmentDone = s.notice.segmentDone ∧
        u.notice.queueLow = s.notice.queueLow ∧ s.WindowTakesFrame u (s.stepFeed r m) r.material) ∧
    (∀ (n : Record) (rest' : List Record) (mn : Moving) (excess feed : Nat), rest = n :: rest' → n.body = .moving mn →
      0 < activeExit s.settings.params.rampStep s.queue.records →
      s.interp.progress + s.stepFeed r m = m.length * 1000 + excess → excess < mn.length * 1000 →
      s.interp.progress ≤ m.length * 1000 →
      feed = min (s.stepFeed r m) (allowance s.settings.params.rampStep
        (activeExit s.settings.params.rampStep rest) mn.length excess) →
      0 < feed →
      ∃ u : State, exec .frameBegin s = .next u.commit ∧ u.interp.feed = feed ∧ u.interp.progress = excess ∧
        u.AtProgress mn excess ∧ u.queue = ⟨rest, s.queue.tail⟩ ∧ u.seq.engine = s.seq.engine ∧
        u.interp.turn = none ∧ u.interp.turnPending = false ∧ u.notice.segmentDone = s.segmentDoneAfter r ∧
        u.notice.queueLow = s.queueLowAfter rest.length ∧
        s.WindowTakesFrame u (s.stepFeed r m) (r.material && n.material))

/-- A landing (R55, R41): X, Y and H are the record's end point and exit heading, the feed is 0 and the record completes, with SEGMENT_DONE
and QUEUE_LOW (R19, R20, R65). In RUNNING the sequencer dispatches with cause END (R70, R71): on an empty queue to STARVED with the timer
loaded, or with a STARVE_TIMEOUT of 0 expired at once with the stroke stop (R85). In HOLDING, HALTING and CANCELLING a landing is the rest
of R69, and so is a frame that leaves the feed at 0 or has no step to make. -/
def Obligations.LandingOnEmptyQueueStarves : Prop :=
  (∀ (s : State) (r : Record) (rest : List Record) (m : Moving), s.bus.started = true → s.interp.turn = none →
    s.interp.turnPending = false → s.queue.records = r :: rest → r.body = .moving m → 0 < s.stepFeed r m →
    m.length * 1000 ≤ s.interp.progress + s.stepFeed r m →
    activeExit s.settings.params.rampStep s.queue.records = 0 →
    (s.seq.engine = .running →
      ∃ u : State, exec .frameBegin s = .next u.commit ∧ u.interp.x = m.endX ∧ u.interp.y = m.endY ∧
        u.interp.heading = m.exitHeading ∧ u.interp.feed = 0 ∧ u.interp.progress = 0 ∧ u.queue.tail = s.queue.tail ∧
        ((∀ n ∈ rest.head?, n.body ≠ .programEnd) → u.queue.records = rest ∧
          u.notice.segmentDone = s.segmentDoneAfter r ∧ u.notice.queueLow = s.queueLowAfter rest.length) ∧
        (rest = [] → s.Starves u) ∧
        (∀ (n : Record) (mn : Moving), rest.head? = some n → n.body = .moving mn → mn.junction = .blend →
          u.seq.engine = .running ∧ u.interp.turn = none ∧ u.interp.turnPending = false ∧
          u.notice.engineState = s.notice.engineState) ∧
        (∀ (n : Record) (mn : Moving), rest.head? = some n → n.body = .moving mn → mn.junction = .pivot →
          u.seq.engine = .pivoting ∧ u.interp.turnPending = true ∧
          u.interp.turn = some ⟨decide (0 < mn.turn), mn.turn.natAbs⟩ ∧
          u.notice.engineState = Pending.coalesce s.notice.engineState ⟨.pivoting, .running, .ending, none⟩) ∧
        (∀ (n : Record) (d : Nat), rest.head? = some n → n.body = .dwell d →
          u.seq.engine = .dwelling ∧ u.seq.dwellCount = 0 ∧
          u.notice.engineState = Pending.coalesce s.notice.engineState ⟨.dwelling, .running, .ending, none⟩) ∧
        (∀ (n : Record) (rest' : List Record), rest = n :: rest' → n.body = .programEnd →
          u.seq.engine = .idle ∧ u.seq.resume = none ∧ u.queue.records = rest' ∧
          u.notice.engineState = Pending.coalesce s.notice.engineState ⟨.idle, .running, .ending, none⟩ ∧ s.StrokeStopAsked u)) ∧
    (s.seq.engine ∈ [Engine.holding, .halting, .cancelling] →
      ∃ u : State, exec .frameBegin s = .next u.commit ∧ s.RestCompletes u rest m.endX m.endY m.exitHeading 0 ∧
        u.notice.segmentDone = s.segmentDoneAfter r ∧ u.notice.queueLow = s.queueLowAfter rest.length)) ∧
  (∀ s : State, s.bus.started = true → s.seq.engine ∈ [Engine.holding, .halting, .cancelling] → s.interp.turn = none →
    ((s.interp.feed = 0 ∧ (s.interp.turnPending = true ∨ ∀ r ∈ s.queue.records.head?, r.moves = false)) ∨
      (s.interp.turnPending = false ∧
        ∃ r m, s.queue.records.head? = some r ∧ r.body = .moving m ∧ s.stepFeed r m = 0)) →
    ∃ u : State, exec .frameBegin s = .next u.commit ∧
      s.RestCompletes u s.queue.records s.interp.x s.interp.y s.interp.heading s.interp.progress ∧
      u.notice.segmentDone = s.notice.segmentDone ∧ u.notice.queueLow = s.notice.queueLow)

/-- R129, R130, R91: a setpoint record carries the value fixed at the frame begin, which for X, Y and H is the commanded value after the
interpolator's work and for S is f_set (R90) or 0 by the stroke state, and the flags of the state that stands when it is sent: enable on for
X, Y and H when the axis is adopted and the engine is not ABORTED, for S unless the stroke is STOPPED, and for none while the master's level
is QUICK_STOP, whose flag it then carries. A record sent with enable off makes the axis's following flag false, which is handed on (R137).
That f_set and the S setpoint of a frame are those from before the count that ends in it is the model's order of setpoints and timers
(notes/assumptions/6.md), and that the records sent after RECOVER in its own frame carry the values fixed at the frame begin with enable on is
its choice (notes/assumptions/33.md). -/
def Obligations.QuickStopRemovesEnable : Prop :=
  (∀ (c : Instr) (s t : State) (w : ReturnWindow), (c = .frameBegin ∧ s.bus.started = true) ∨ c = .returnWindowClose →
    s.bus.level = .quickStop → exec c s = .next t → t.bus.window = some w →
    ∃ v, (t.bus.get w.slot).sentNow = some ⟨v, false⟩ ∧
      t.bus.line.drop (t.bus.line.length - 6) = setpointRecord w.slot false true v) ∧
  (∀ (k : Slot) (enable quickStop : Bool) (v : Int),
    let first := byte (k.number + 4 * enable.toNat + 8 * quickStop.toNat)
    setpointRecord k enable quickStop v = first :: be32 v ++ [crc8 (first :: be32 v)]) ∧
  (∀ (c : Instr) (s t : State) (w : ReturnWindow), (c = .frameBegin ∧ s.bus.started = true) ∨ c = .returnWindowClose →
    exec c s = .next t → t.bus.window = some w →
    ∃ enable : Bool, (enable = true ↔ t.EnableOn s.bus.level w.slot) ∧
      (t.bus.get w.slot).sentNow = some ⟨(t.bus.get w.slot).setpoint, enable⟩ ∧
      t.bus.line.drop (t.bus.line.length - 6) =
        setpointRecord w.slot enable (decide (s.bus.level = .quickStop)) (t.bus.get w.slot).setpoint ∧
      (enable = false → w.slot ≠ .s → (t.bus.get w.slot).following = false)) ∧
  (∀ s : State, s.bus.started = true → ∃ u : State, exec .frameBegin s = .next u.commit ∧
    (s.settings.params.slotActive .x = true → u.bus.x.setpoint = u.interp.x) ∧
    (s.settings.params.slotActive .y = true → u.bus.y.setpoint = u.interp.y) ∧
    (s.settings.params.slotActive .h = true → u.bus.h.setpoint = (u.interp.heading.toNat : Int)) ∧
    (s.NoExpiry → u.stroke.fSet = u.derivedFrequency ∧
      (s.settings.params.slotActive .s = true → u.bus.s.setpoint = strokeSetpoint u.stroke.state u.stroke.fSet)) ∧
    (s.seq.engine ∈ [Engine.idle, .dwelling, .starved, .held, .aborted] → u.stroke.fSet = s.derivedFrequency ∧
      (s.settings.params.slotActive .s = true → u.bus.s.setpoint = strokeSetpoint s.stroke.state u.stroke.fSet))) ∧
  (∀ (s : State) (k : Slot) (answered : Bool), s.bus.window = some ⟨k, answered⟩ →
    ∃ u : State, exec .returnWindowClose s = .next u.commit ∧
      (∀ j, (u.bus.get j).setpoint = (s.bus.get j).setpoint) ∧
      (answered = true → (k.later.find? fun j => (s.bus.get j).active) = none → s.TripStands u) ∧
      (answered = true → ∀ j, (k.later.find? fun j => (s.bus.get j).active) = some j →
        (∀ i, j.followSource = some i → (s.bus.get j).following = true → ¬ s.EnableOn s.bus.level j →
          s.ConditionTaken u i false) ∧
        (j = .s ∨ (s.bus.get j).following = false ∨ s.EnableOn s.bus.level j → s.TripStands u)))

/-- A missed return (R131, R133), taken at RETURN_WINDOW_CLOSE where none came, or at the sixth byte of a DRIVE_RETURN whose CRC-8 is wrong
or whose X or Y actual lies outside ±8 m: the slot's miss count rises by 1, saturating at 255, and at 3 the slot is lost; its actual, fault
flag, following flag and adoption stand. A slot lost is handed on with the set of lost slots as source 14 (R134, R152). At the close the next
active slot's window opens. -/
def Obligations.MissedReturnIsCounted : Prop :=
  (∀ (s : State) (k : Slot) (answered : Bool), s.bus.window = some ⟨k, answered⟩ →
    ∃ t, exec .returnWindowClose s = .next t.commit ∧
      (t.bus.get k).misses =
        (if answered then (s.bus.get k).misses else min ((s.bus.get k).misses + 1) 255) ∧
      (t.bus.get k).lost =
        (if answered = false ∧ (s.bus.get k).misses = 2 then true else (s.bus.get k).lost) ∧
      (t.bus.get k).actual = (s.bus.get k).actual ∧ (t.bus.get k).fault = (s.bus.get k).fault ∧
      (t.bus.get k).following = (s.bus.get k).following ∧ (t.bus.get k).adopted = (s.bus.get k).adopted ∧
      t.bus.window = (k.later.find? fun j => (s.bus.get j).active).map (⟨·, false⟩) ∧
      ((∀ j ∈ k.later, (s.bus.get j).following = false) →
        s.SlotSetTaken t 14 (answered = false ∧ (s.bus.get k).misses = 2 ∧ (s.bus.get k).lost = false) t.bus.lostSlots) ∧
      t.queue = s.queue ∧ t.interp = s.interp ∧ t.stroke = s.stroke ∧ t.classifier = s.classifier ∧
      t.settings = s.settings ∧ t.override = s.override) ∧
  ∀ (s : State) (k : Slot) (status : Byte) (actual : Word) (crc : Byte), s.bus.window = some ⟨k, false⟩ →
    (crc8 (status :: beWord actual) ≠ crc ∨
      (k = .x ∨ k = .y) ∧ (actual.toInt < -8000000 ∨ 8000000 < actual.toInt)) →
    ∃ t, exec (.driveReturn status actual crc) s = .next t.commit ∧
      (t.bus.get k).misses = min ((s.bus.get k).misses + 1) 255 ∧
      (t.bus.get k).lost = (if (s.bus.get k).misses = 2 then true else (s.bus.get k).lost) ∧
      (t.bus.get k).actual = (s.bus.get k).actual ∧ (t.bus.get k).fault = (s.bus.get k).fault ∧
      (t.bus.get k).following = (s.bus.get k).following ∧ (t.bus.get k).adopted = (s.bus.get k).adopted ∧
      (∀ j, j ≠ k → t.bus.get j = s.bus.get j) ∧ t.bus.window = some ⟨k, true⟩ ∧
      s.SlotSetTaken t 14 ((s.bus.get k).misses = 2 ∧ (s.bus.get k).lost = false) t.bus.lostSlots ∧
      t.queue = s.queue ∧ t.interp = s.interp ∧ t.stroke = s.stroke ∧ t.classifier = s.classifier ∧
      t.settings = s.settings ∧ t.override = s.override

/-- DRIVE_RETURN of a valid return (R131, R132): the misses become 0, the lost flag false, the actual the return's (H modulo 65536), and
the fault flag the return's FAULT flag; the window has its return. A change of the set of lost or faulted slots is handed on as source 14 or
13 with the set (R134, R135, R152), and an AT_REST return of S takes a STOPPING stroke to STOPPED (R95). Outside a window, and after the
first record of a window, a return is discarded; one that comes before the first window after a host RESET is that of the old frame (R141),
after which that window stands open: the model's choice (notes/assumptions/26.md). -/
def Obligations.ValidReturnIsTaken : Prop :=
  (∀ (s : State) (k : Slot) (status : Byte) (actual : Word) (crc : Byte), s.bus.window = some ⟨k, false⟩ →
    crc8 (status :: beWord actual) = crc →
    ((k = .x ∨ k = .y) → -8000000 ≤ actual.toInt ∧ actual.toInt ≤ 8000000) →
    ∃ t, exec (.driveReturn status actual crc) s = .next t ∧
      (t.bus.get k).misses = 0 ∧ (t.bus.get k).lost = false ∧ (t.bus.get k).fault = status.getLsbD 1 ∧
      (t.bus.get k).actual = some (if k = .h then ((actual.toNat % 65536 : Nat) : Int) else actual.toInt) ∧
      t.bus.window = some ⟨k, true⟩ ∧ t.queue.records = s.queue.records ∧ t.settings = s.settings ∧
      t.interp.feed = s.interp.feed ∧ t.interp.progress = s.interp.progress) ∧
  (∀ (s : State) (k : Slot) (status : Byte) (actual : Word), s.bus.window = some ⟨k, false⟩ →
    ((k = .x ∨ k = .y) → -8000000 ≤ actual.toInt ∧ actual.toInt ≤ 8000000) →
    (k ≠ .s → (s.bus.get k).adopted = false ∨ (s.bus.get k).sentBefore = none ∨ s.bus.level = .quickStop) →
    let stops := k = .s ∧ status.getLsbD 2 = true ∧ s.stroke.state = .stopping
    ∃ u v : State, exec (.driveReturn status actual (crc8 (status :: beWord actual))) s = .next u.commit ∧
      s.SlotSetTaken v 14 ((s.bus.get k).lost = true) u.bus.lostSlots ∧
      (¬ stops → u.stroke = s.stroke ∧ u.classifier = s.classifier ∧
        v.SlotSetTaken u 13 ((s.bus.get k).fault ≠ status.getLsbD 1) u.bus.faultSlots) ∧
      (stops → u.stroke = { s.stroke with state := .stopped, stopTimer := none, stall := false } ∧
        u.classifier = { s.classifier with overload := false } ∧
        (s.stroke.stall = true → (u.trip.sources[9]).condition = false) ∧
        (s.classifier.overload = true → (u.trip.sources[8]).condition = false))) ∧
  (∀ (s : State) (k : Slot) (status : Byte) (actual : Word) (crc : Byte), s.bus.window = some ⟨k, true⟩ →
    exec (.driveReturn status actual crc) s = .next s.commit) ∧
  ∀ (s : State) (status : Byte) (actual : Word) (crc : Byte), s.bus.window = none →
    exec (.driveReturn status actual crc) s = .next (State.commit { s with
      bus := { s.bus with window := s.bus.opening.map (⟨·.slot, false⟩), opening := none } })

/-- DRIVE_RETURN adopts an axis (R138, R5): with adoption pending, READY set and the engine not ABORTED, the commanded value becomes the
actual, an empty queue's tail follows, and the axis is adopted. -/
def Obligations.ReadyReturnAdoptsAxis : Prop :=
  ∀ (s : State) (k : Slot) (status : Byte) (actual : Word), s.bus.window = some ⟨k, false⟩ → k ≠ .s →
    (k ≠ .h → -8000000 ≤ actual.toInt ∧ actual.toInt ≤ 8000000) →
    (s.bus.get k).adopted = false → status.getLsbD 0 = true → s.seq.engine ≠ .aborted →
    ∃ t, exec (.driveReturn status actual (crc8 (status :: beWord actual))) s = .next t ∧
      (t.bus.get k).adopted = true ∧
      t.interp.x = (if k = .x then actual.toInt else s.interp.x) ∧
      t.interp.y = (if k = .y then actual.toInt else s.interp.y) ∧
      t.interp.heading = (if k = .h then BitVec.ofNat 16 actual.toNat else s.interp.heading) ∧
      t.queue.records = s.queue.records ∧ t.queue.tail.feed = s.queue.tail.feed ∧
      (s.queue.records = [] →
        t.queue.tail.x = (if k = .x then actual.toInt else s.queue.tail.x) ∧
        t.queue.tail.y = (if k = .y then actual.toInt else s.queue.tail.y) ∧
        t.queue.tail.heading = (if k = .h then BitVec.ofNat 16 actual.toNat else s.queue.tail.heading)) ∧
      (s.queue.records ≠ [] → t.queue.tail = s.queue.tail)

/-- DRIVE_RETURN judges following (R136, R137): on an adopted axis whose record of the frame before carried enable on, below
QUICK_STOP, the flag says whether the error exceeds the limit; an error equal to the limit does not. A change of it is handed on as source 10,
11 or 12 (R150 to R154, R159), behind those of the sets of lost and of faulted slots (R132, R134, R135). -/
def Obligations.ReturnJudgesFollowing : Prop :=
  ∀ (s : State) (k : Slot) (status : Byte) (actual : Word) (v : Int), s.bus.window = some ⟨k, false⟩ → k ≠ .s →
    (k ≠ .h → -8000000 ≤ actual.toInt ∧ actual.toInt ≤ 8000000) → (s.bus.get k).adopted = true →
    let checked := (s.bus.get k).sentBefore = some ⟨v, true⟩ ∧ s.bus.level ≠ .quickStop
    let unchecked := (s.bus.get k).sentBefore = none ∨ (s.bus.get k).sentBefore = some ⟨v, false⟩ ∨ s.bus.level = .quickStop
    let exceeds : Bool := if k = .h
      then decide (s.settings.params.followLimitH < (BitVec.ofInt 16 ((actual.toNat % 65536 : Nat) - v)).toInt.natAbs)
      else decide (s.settings.params.followLimitXY < (actual.toInt - v).natAbs)
    ∃ a b u : State, exec (.driveReturn status actual (crc8 (status :: beWord actual))) s = .next u.commit ∧
      s.SlotSetTaken a 14 ((s.bus.get k).lost = true) u.bus.lostSlots ∧
      a.SlotSetTaken b 13 ((s.bus.get k).fault ≠ status.getLsbD 1) u.bus.faultSlots ∧
      (checked → (u.bus.get k).following = exceeds ∧
        (∀ i, k.followSource = some i → (s.bus.get k).following ≠ exceeds → b.ConditionTaken u i exceeds) ∧
        ((s.bus.get k).following = exceeds → b.TripStands u)) ∧
      (unchecked → (u.bus.get k).following = (s.bus.get k).following ∧ b.TripStands u) ∧
      k.followSource = some (match k with | .x => 10 | .y => 11 | .h | .s => 12) ∧
      u.interp = s.interp ∧ u.queue = s.queue

/-! ## The trip level taken by the sequencer and the bus master (R80 to R84, R154) -/

/-- LEVEL_RISE_HOLD (R80, R73): RUNNING, PIVOTING and DWELLING go to HOLDING with the resume memory written, STARVED to HELD with its
timer stopped, each with cause TRIP; in every other state only the change handed on is taken. -/
def Obligations.RiseToHoldHoldsEngine : Prop :=
  ∀ (s : State) (rest : List LevelChange), s.seq.changes = ⟨.none, .hold⟩ :: rest →
    ((s.seq.engine = .running ∨ s.seq.engine = .pivoting ∨ s.seq.engine = .dwelling) →
      exec .levelRiseHold s = .next (State.commit { s with
        seq := { s.seq with
          engine := .holding, changes := rest
          resume := if s.seq.engine = .dwelling then some .dwelling else some .running }
        notice := { s.notice with
          engineState := Pending.coalesce s.notice.engineState ⟨.holding, s.seq.engine, .trip, none⟩ } })) ∧
    (s.seq.engine = .starved →
      exec .levelRiseHold s = .next (State.commit { s with
        seq := { s.seq with engine := .held, changes := rest, resume := some .starved, starve := .stopped }
        notice := { s.notice with
          engineState := Pending.coalesce s.notice.engineState ⟨.held, .starved, .trip, none⟩ } })) ∧
    (s.seq.engine ∈ [Engine.idle, .holding, .held, .halting, .halted, .cancelling, .aborted] →
      exec .levelRiseHold s = .next (State.commit { s with seq := { s.seq with changes := rest } }))

/-- LEVEL_RISE_HALT (R81, R110): from NONE or HOLD, each engine state goes where R81's table gives, the stroke is stopped in HELD and
STARVED, and a tare in flight fails, in this event by the model's reading (notes/assumptions/14.md). -/
def Obligations.RiseToHaltHaltsEngine : Prop :=
  ∀ (s : State) (c : LevelChange) (rest : List LevelChange), s.seq.changes = c :: rest → c.after = .halt →
    (c.before = .none ∨ c.before = .hold) →
    ∃ u : State, exec .levelRiseHalt s = .next u.commit ∧
      u.seq.engine = (match s.seq.engine with
        | .running | .pivoting | .dwelling | .holding => .halting
        | .held | .starved => .halted
        | .halting => .halting
        | .halted => .halted
        | .cancelling => .cancelling
        | .idle => .idle
        | .aborted => .aborted) ∧
      u.seq.resume = (match s.seq.engine with
        | .running | .pivoting => some .running
        | .dwelling => some .dwelling
        | .starved => some .starved
        | .holding | .held | .halting | .halted | .cancelling | .idle | .aborted => s.seq.resume) ∧
      u.seq.starve = (if s.seq.engine = .starved then .stopped else s.seq.starve) ∧
      u.seq.changes = rest ∧
      ((s.seq.engine = .held ∨ s.seq.engine = .starved) →
        u.stroke.state = .stopping ∨ u.stroke.state = .stopped) ∧
      (u.stroke.tareState ≠ .waiting ∧ u.stroke.tareState ≠ .measuring) ∧
      (s.stroke.tareInFlight = false → u.stroke.tareState = s.stroke.tareState) ∧
      (u.seq.engine = s.seq.engine → u.notice.engineState = s.notice.engineState) ∧
      (u.seq.engine ≠ s.seq.engine → u.notice.engineState =
        Pending.coalesce s.notice.engineState ⟨u.seq.engine, s.seq.engine, .trip, none⟩) ∧
      u.queue = s.queue ∧ u.interp = s.interp ∧ u.trip = s.trip ∧ u.bus = s.bus ∧ u.classifier = s.classifier ∧
      u.settings = s.settings ∧ u.override = s.override ∧ u.link = s.link

/-- LEVEL_RISE_QUICK_STOP (R82, R83, R21) outside ABORTED: feed 0, no turn, the interrupted report of the active segment, the queue
flushed with the tail at the commanded values, the stroke stopped, timing and memory cleared, and ABORTED entered with cause TRIP and
the report. That a tare in flight fails in this event is the model's reading (notes/assumptions/14.md). -/
def Obligations.RiseToQuickStopAborts : Prop :=
  ∀ (s : State) (c : LevelChange) (rest : List LevelChange), s.seq.changes = c :: rest → c.after = .quickStop →
    c.before ≠ .quickStop → s.seq.engine ≠ .aborted →
    ∃ u : State, exec .levelRiseQuickStop s = .next u.commit ∧
      u.seq.engine = .aborted ∧ u.seq.resume = none ∧ u.seq.starve = .stopped ∧ u.seq.dwellCount = 0 ∧
      u.seq.changes = rest ∧
      u.seq.interrupted = some ⟨s.activeRecord.map fun r => (r.tag, s.interp.progress / 1000), s.interp.x, s.interp.y⟩ ∧
      u.notice.engineState =
        Pending.coalesce s.notice.engineState ⟨.aborted, s.seq.engine, .trip, u.seq.interrupted⟩ ∧
      u.interp = ⟨s.interp.x, s.interp.y, s.interp.heading, 0, 0, none, false⟩ ∧
      u.queue = ⟨[], ⟨s.interp.x, s.interp.y, s.interp.heading, s.queue.tail.feed⟩⟩ ∧
      (u.stroke.state = .stopping ∨ u.stroke.state = .stopped) ∧
      (u.stroke.tareState ≠ .waiting ∧ u.stroke.tareState ≠ .measuring) ∧
      u.notice.segmentDone = s.notice.segmentDone ∧ u.notice.queueLow = s.notice.queueLow ∧
      u.trip = s.trip ∧ u.bus = s.bus ∧ u.classifier = s.classifier ∧ u.settings = s.settings ∧
      u.override = s.override ∧ u.link = s.link

/-- R154, R84: a change of the trip level that a source's condition makes is handed to the sequencer and to the bus master, behind the
changes handed on before; LEVEL_FALL takes a fall at the front and changes no engine state, and BUS_LEVEL_CHANGE makes the master's copy
the level after the change at the front. Nothing else changes. The two queues are the model's form of the hand-off
(notes/assumptions/14.md). -/
def Obligations.LevelChangesAreHandedOnAndTaken : Prop :=
  (∀ (s : State) (i : Fin 15) (b : Bool),
    let u := s.setCondition i b
    (u.trip.level = s.trip.level → u.seq.changes = s.seq.changes ∧ u.bus.changes = s.bus.changes) ∧
    (u.trip.level ≠ s.trip.level →
      u.seq.changes = s.seq.changes ++ [⟨s.trip.level, u.trip.level⟩] ∧
      u.bus.changes = s.bus.changes ++ [⟨s.trip.level, u.trip.level⟩])) ∧
  (∀ (s : State) (c : LevelChange) (rest : List LevelChange), s.seq.changes = c :: rest →
    c.after.rank < c.before.rank →
    exec .levelFall s = .next (State.commit { s with seq := { s.seq with changes := rest } })) ∧
  (∀ (s : State) (c : LevelChange) (rest : List LevelChange), s.bus.changes = c :: rest →
    exec .busLevelChange s = .next (State.commit { s with bus := { s.bus with level := c.after, changes := rest } }))

/-! ## Dwells, starving, and the stroke's timers (R62, R70, R85, R94, R95) -/

/-- DWELL_EXPIRY (R62, R70, R85, R19): the DWELL completes, with SEGMENT_DONE updated when its REPORT flag is set (R65) and QUEUE_LOW set when
the count falls to the mark (R20), the dwell count is 0 again (R69), and the engine goes on to RUNNING on a BLEND record, to PIVOTING on a
PIVOT record, to IDLE at an END with the stroke stop (R71, R72), or to STARVED on an empty queue, with the record of the change (R87). That the
command says the count has reached its end, whatever it stood at, is the model's
choice (notes/assumptions/7.md). -/
def Obligations.DwellExpiryDispatches : Prop :=
  ∀ (s : State) (r : Record) (d : Nat) (rest : List Record), s.seq.engine = .dwelling →
    s.queue.records = r :: rest → r.body = .dwell d →
    ∃ u : State, exec .dwellExpiry s = .next u.commit ∧ s.DwellCompletes u r rest

/-- STARVE_TIMER_EXPIRY (R85, R93): the timer is expired and the stroke stop is requested; the engine state stands and no change of it is
reported. The command says that the timer has reached its end: the model's choice (notes/assumptions/7.md). -/
def Obligations.StarveExpiryStopsStroke : Prop :=
  ∀ (s : State) (n : Nat), s.seq.starve = .running n →
    ∃ u : State, exec .starveTimerExpiry s = .next u.commit ∧
      u.seq = { s.seq with starve := .expired } ∧ u.notice.engineState = s.notice.engineState ∧
      (s.stroke.state ∈ [StrokeState.starting, .running, .stalled] →
        u.stroke.state = .stopping ∧ u.stroke.stopTimer = some s.settings.params.strokeStopTimeout ∧
        u.stroke.startTimer = none ∧ u.stroke.good = 0 ∧ u.stroke.slow = 0) ∧
      (s.stroke.state ∈ [StrokeState.stopping, .stopped] → u.stroke = s.stroke) ∧
      u.stroke.stall = s.stroke.stall ∧ u.queue = s.queue ∧ u.interp = s.interp ∧ u.trip = s.trip ∧ u.bus = s.bus

/-- START_TIMER_EXPIRY and STOP_TIMER_EXPIRY (R94, R95, R99, R119): STARTING goes to STALLED with the stall condition true, STOPPING to
STOPPED with the stall and the overload condition false. The commands say that the timers have reached their ends: the model's choice
(notes/assumptions/7.md). -/
def Obligations.StrokeTimersExpire : Prop :=
  (∀ s : State, s.stroke.state = .starting → s.stroke.tareInFlight = false → s.stroke.stall = false →
    ∃ u : State, exec .startTimerExpiry s = .next u.commit ∧
      u.stroke = { s.stroke with state := .stalled, startTimer := none, slow := 0, stall := true } ∧
      (u.trip.sources[9]).condition = true ∧ u.queue = s.queue ∧ u.interp = s.interp ∧
      u.seq.engine = s.seq.engine) ∧
  (∀ s : State, s.stroke.state = .stopping →
    ∃ u : State, exec .stopTimerExpiry s = .next u.commit ∧
      u.stroke = { s.stroke with state := .stopped, stopTimer := none, stall := false } ∧
      u.classifier = { s.classifier with overload := false } ∧
      (s.stroke.stall = true → (u.trip.sources[9]).condition = false) ∧
      (s.classifier.overload = true → (u.trip.sources[8]).condition = false) ∧
      u.queue = s.queue ∧ u.interp = s.interp ∧ u.seq.engine = s.seq.engine)

/-! ## Measurement windows (R96 to R106) -/

/-- SIDX_PULSE (R101, R102): on a WAITING window it opens one of W = 2^WINDOW_EXP; short of the W-th pulse it raises pulses by 1, with
the cycles passed counted into P; that the command carries them is the model's choice (notes/assumptions/9.md). -/
def Obligations.IndexPulseOpensAndCounts : Prop :=
  ∀ (s : State) (cycles : Nat), s.startup.phase ≠ .held →
    (s.stroke.window = none → exec (.sidxPulse cycles) s = .next (State.commit { s with
      stroke := { s.stroke with
        window := some ⟨2 ^ s.settings.params.windowExp, 0, 0, 0, 0, false, true, decide (s.stroke.state = .running)⟩
        tare := if s.stroke.tareState = .measuring then s.stroke.tare.map (fun t => { t with windowCounts := true })
          else s.stroke.tare } })) ∧
    (∀ w, s.stroke.window = some w → w.p + cycles < 16777216 → w.pulses + 1 < w.w →
      exec (.sidxPulse cycles) s = .next (State.commit { s with
        stroke := { s.stroke with window := some { w with p := w.p + cycles, pulses := w.pulses + 1 } } }))

/-- SIDX_PULSE that completes a window (R104): fm = floor(10^8 × W / P), LF = min(floor(C × 10^4 / P), 2000), and a new window opens at
the same pulse, marked with the stroke's being RUNNING then (R101). The classifier takes the record (R106, R117) once the settings load has
ended (R113): a window completed by a RUNNING stroke judges the overload condition (R119), and one that qualifies (R120) gives DF, whose band
(R121) confirms, changes or becomes the candidate of the material band (R122), a change of which is noticed (R123). That the command carries
cycles of the reference, which count into P, is the model's choice (notes/assumptions/9.md). -/
def Obligations.WindowCompletionGivesFigures : Prop :=
  ∀ (s : State) (w : Window) (cycles : Nat), s.CompletesWindow w cycles →
    let load := w.load (w.p + cycles) - s.settings.params.airFigure
    let bite := w.distance / 1000 / w.w
    let df := min (load * 1000 / bite) 65535
    let judged := s.startup.phase = .started ∧ s.stroke.state = .running
    let qualifies := judged ∧ w.frameSeen = true ∧ w.material = true ∧ w.runningAtOpening = true ∧
      s.settings.params.classFloor ≤ bite
    ∃ u : State, exec (.sidxPulse cycles) s = .next u.commit ∧
      u.stroke.fm = 100000000 * w.w / (w.p + cycles) ∧ u.stroke.lf = min (w.c * 10000 / (w.p + cycles)) 2000 ∧
      u.stroke.window =
        some ⟨2 ^ s.settings.params.windowExp, 0, 0, 0, 0, false, true, decide (u.stroke.state = .running)⟩ ∧
      u.classifier.overload =
        (if judged then decide (s.settings.params.overloadCeiling ≤ load) else s.classifier.overload) ∧
      (u.classifier.overload ≠ s.classifier.overload → (u.trip.sources[8]).condition = u.classifier.overload) ∧
      (¬ qualifies → u.classifier = { s.classifier with overload := u.classifier.overload } ∧
        u.notice.band = s.notice.band) ∧
      (qualifies → ∀ band : Fin 8, (∀ j : Fin 8, j < band → (s.classifier.bands[j]).ceiling < df) →
        (band = 7 ∨ df ≤ (s.classifier.bands[band]).ceiling) →
        (band = s.classifier.material →
          u.classifier = ⟨s.classifier.bands, s.classifier.material, none, df, u.classifier.overload⟩ ∧
          u.notice.band = s.notice.band) ∧
        (band ≠ s.classifier.material → s.classifier.candidate = some band →
          u.classifier = ⟨s.classifier.bands, band, none, df, u.classifier.overload⟩ ∧
          u.notice.band = Pending.coalesce s.notice.band ⟨band, s.classifier.material, df⟩) ∧
        (band ≠ s.classifier.material → s.classifier.candidate ≠ some band →
          u.classifier = ⟨s.classifier.bands, s.classifier.material, some band, df, u.classifier.overload⟩ ∧
          u.notice.band = s.notice.band)) ∧
      u.stroke.fSet = s.stroke.fSet ∧ u.queue = s.queue ∧ u.interp = s.interp ∧ u.classifier.bands = s.classifier.bands ∧
      u.seq.engine = s.seq.engine ∧ u.link = s.link ∧ u.override = s.override

/-- The stroke judgement of a completed window (R96, R97, R98, R99) in each stroke state, with no tare in flight: what SIDX_PULSE leaves of
the stroke unit, and the stall condition handed on when it changes. That the command carries cycles of the reference, which count into P, is
the model's choice (notes/assumptions/9.md). -/
def Obligations.WindowJudgesStroke : Prop :=
  ∀ (s : State) (w : Window) (cycles : Nat), s.CompletesWindow w cycles → s.stroke.tareInFlight = false →
    let fm := w.figure (w.p + cycles)
    let good := ((fm : Int) - s.stroke.fSet).natAbs * 10 ≤ s.stroke.fSet
    let judged (k : StrokeUnit) : StrokeUnit := { k with
      fm := fm, lf := w.load (w.p + cycles)
      window := some ⟨2 ^ s.settings.params.windowExp, 0, 0, 0, 0, false, true, decide (k.state = .running)⟩ }
    ∃ u : State, exec (.sidxPulse cycles) s = .next u.commit ∧
      (s.stroke.state = .starting → good → s.stroke.good = 0 → u.stroke = judged { s.stroke with good := 1 }) ∧
      (s.stroke.state = .starting → good → s.stroke.good ≠ 0 →
        u.stroke = judged { s.stroke with state := .running, startTimer := none, good := 0, slow := 0, stall := false }) ∧
      (s.stroke.state = .starting → ¬ good → u.stroke = judged { s.stroke with good := 0 }) ∧
      (s.stroke.state = .running → fm * 2 < s.stroke.fSet → s.stroke.slow = 0 →
        u.stroke = judged { s.stroke with slow := 1 }) ∧
      (s.stroke.state = .running → fm * 2 < s.stroke.fSet → s.stroke.slow ≠ 0 →
        u.stroke = judged { s.stroke with state := .stalled, startTimer := none, slow := 0, stall := true }) ∧
      (s.stroke.state = .running → s.stroke.fSet ≤ fm * 2 → u.stroke = judged { s.stroke with slow := 0 }) ∧
      (s.stroke.state = .stalled → good →
        u.stroke = judged { s.stroke with state := .running, slow := 0, stall := false }) ∧
      (s.stroke.state = .stalled → ¬ good → u.stroke = judged s.stroke) ∧
      (s.stroke.state = .stopped ∨ s.stroke.state = .stopping → u.stroke = judged s.stroke) ∧
      (u.stroke.stall ≠ s.stroke.stall → (u.trip.sources[9]).condition = u.stroke.stall)

/-- LFQ_PULSE (R102) and WINDOW_OVERFLOW (R105): C rises by 1, saturating at 4,194,303; the overflow sets fm to 0, keeps LF, leaves the
window WAITING, sets the good count to 0 in STARTING and stalls a RUNNING stroke. That the command WINDOW_OVERFLOW says that P has reached
2^24, whatever the model's P stands at, is the model's choice (notes/assumptions/8.md). -/
def Obligations.LoadPulseAndOverflow : Prop :=
  (∀ (s : State) (w : Window), s.startup.phase ≠ .held → s.stroke.window = some w →
    exec .lfqPulse s = .next (State.commit { s with
      stroke := { s.stroke with window := some { w with c := min (w.c + 1) 4194303 } } })) ∧
  (∀ s : State, s.stroke.window = none → exec .lfqPulse s = .next s.commit) ∧
  (∀ (s : State) (w : Window), s.stroke.window = some w →
    ∃ u : State, exec .windowOverflow s = .next u.commit ∧ u.stroke.fm = 0 ∧ u.stroke.lf = s.stroke.lf ∧
      u.stroke.window = none ∧ u.classifier = s.classifier ∧
      (s.stroke.state = .starting → u.stroke = { s.stroke with fm := 0, window := none, good := 0 }) ∧
      (s.stroke.state = .running → u.stroke.slow = 0 ∧ u.stroke.stall = true ∧
        (s.stroke.tareInFlight = false → u.stroke.state = .stalled)) ∧
      (s.stroke.state ∈ [StrokeState.stopped, .stalled, .stopping] →
        u.stroke = { s.stroke with fm := 0, window := none }))

/-! ## Inputs, trip sources and lamps (R147 to R161) -/

/-- INPUT_LINE_CHANGE (R147, R148): the pin takes its level; a changed line state that differs from the condition starts the debounce
timer at 0, or with a debounce time of 0 changes the condition at once; one that equals it stops the timer. Before the settings load has
ended no line change is taken. -/
def Obligations.InputLineStartsDebounce : Prop :=
  ∀ (s : State) (i : Fin 8) (high : Bool),
    (s.startup.phase ≠ .started →
      exec (.inputLineChange i high) s = .next (State.commit { s with pins := s.pins.set i.val high })) ∧
    (s.startup.phase = .started →
      ∃ u : State, exec (.inputLineChange i high) s = .next u.commit ∧ u.pins = s.pins.set i.val high ∧
        (u.trip.inputs[i]).line =
          (match (s.trip.inputs[i]).polarity with | .activeHigh => high | .activeLow => !high) ∧
        ((u.trip.inputs[i]).line = (s.trip.inputs[i]).line → u.trip = s.trip) ∧
        ((u.trip.inputs[i]).line ≠ (s.trip.inputs[i]).line →
          (u.trip.inputs[i]).line = (s.trip.sources[sourceOfInput i]).condition →
          (u.trip.inputs[i]).timer = none ∧ u.trip.sources = s.trip.sources) ∧
        ((u.trip.inputs[i]).line ≠ (s.trip.inputs[i]).line →
          (u.trip.inputs[i]).line ≠ (s.trip.sources[sourceOfInput i]).condition →
          (s.trip.inputs[i]).debounce ≠ 0 →
          (u.trip.inputs[i]).timer = some 0 ∧ u.trip.sources = s.trip.sources) ∧
        ((u.trip.inputs[i]).line ≠ (s.trip.inputs[i]).line →
          (u.trip.inputs[i]).line ≠ (s.trip.sources[sourceOfInput i]).condition →
          (s.trip.inputs[i]).debounce = 0 →
          (u.trip.inputs[i]).timer = none ∧
          (u.trip.sources[sourceOfInput i]).condition = (u.trip.inputs[i]).line) ∧
        u.queue = s.queue ∧ u.interp = s.interp ∧ u.stroke = s.stroke ∧ u.seq.engine = s.seq.engine)

/-- DEBOUNCE_EXPIRY (R148, R150, R151): the timer stops and the condition takes the line state; a condition that becomes true makes the
source ACTIVE with its count raised by 1, saturating at 255, and one that becomes false leaves an ACTIVE source LATCHED under a stopping
action and CLEAR under IGNORE or REPORT. A source that changes its state recomputes the level (R153), whose change is handed on (R154), and
sets the TRIP record unless its action is IGNORE (R159). That the command says the time has reached the debounce time, whatever the model's
timer stands at, is the model's choice (notes/assumptions/8.md). -/
def Obligations.DebounceExpiryMovesSource : Prop :=
  ∀ (s : State) (i : Fin 8) (e : Nat), (s.trip.inputs[i]).timer = some e →
    let before := s.trip.sources[sourceOfInput i]
    let moved := before.condition ≠ (s.trip.inputs[i]).line ∧
      ((s.trip.inputs[i]).line = true ∨ before.state = .active)
    ∃ u : State, exec (.debounceExpiry i) s = .next u.commit ∧ (u.trip.inputs[i]).timer = none ∧
      (u.trip.sources[sourceOfInput i]).condition = (s.trip.inputs[i]).line ∧
      (before.condition = false → (s.trip.inputs[i]).line = true →
        (u.trip.sources[sourceOfInput i]).state = .active ∧
        (u.trip.sources[sourceOfInput i]).count = min (before.count + 1) 255) ∧
      (before.condition = true → (s.trip.inputs[i]).line = false → before.state = .active →
        (u.trip.sources[sourceOfInput i]).state =
          (match before.action with
            | .hold | .halt | .quickStop => .latched
            | .ignore | .report => .clear)) ∧
      (¬ moved → (u.trip.sources[sourceOfInput i]).state = before.state) ∧
      (∀ j : Fin 15, j ≠ sourceOfInput i → u.trip.sources[j] = s.trip.sources[j]) ∧
      u.trip.level = (if moved then levelOf u.trip.sources else s.trip.level) ∧
      (let handed := if u.trip.level = s.trip.level then [] else [⟨s.trip.level, u.trip.level⟩];
        u.seq = { s.seq with changes := s.seq.changes ++ handed } ∧
        u.bus = { s.bus with changes := s.bus.changes ++ handed }) ∧
      u.notice = { s.notice with
        trip := if moved ∧ before.action ≠ .ignore
          then Pending.coalesce s.notice.trip
            ⟨sourceOfInput i, (u.trip.sources[sourceOfInput i]).state, u.trip.level, none⟩
          else s.notice.trip } ∧
      u.queue = s.queue ∧ u.interp = s.interp ∧ u.stroke = s.stroke

/-- BLINK_TOGGLE and LAMPS (R160): the blink clock goes to 500 ms or wraps to 0, whatever it stood at, which is the model's choice
(notes/assumptions/8.md); a LAMPS request stores three good settings and replies
with them, and any other setting is refused with BAD_KIND and the stored ones. -/
def Obligations.BlinkAndLamps : Prop :=
  (∀ s : State, s.startup.phase ≠ .held → exec .blinkToggle s = .next (State.commit { s with
    trip := { s.trip with blink := if s.trip.blink < 5000000 then 5000000 else 0 } })) ∧
  (∀ (s : State) (tag : Byte) (g a r : LampSetting), s.startup.phase = .started → s.link.reply = none →
    s.link.inbox = [] →
    exec (.lamps tag g.code a.code r.code) s = .next (State.commit { s with
      trip := { s.trip with green := g, amber := a, red := r }
      link := { s.link with reply := some (frameBytes 0xA9 tag [0x00, g.code, a.code, r.code]) } })) ∧
  (∀ (s : State) (tag g a r : Byte), s.startup.phase = .started → s.link.reply = none → s.link.inbox = [] →
    (2 < g.toNat ∨ 2 < a.toNat ∨ 2 < r.toNat) →
    exec (.lamps tag g a r) s = .next (State.commit { s with
      link := { s.link with
        reply := some (frameBytes 0xA9 tag [0x12, s.trip.green.code, s.trip.amber.code, s.trip.red.code]) } }))

/-! ## The link (R162 to R171) -/

/-- LINK_BYTE_RECEIVED (R165): the whole table of the receiver, row by row. -/
def Obligations.ReceiverTakesByte : Prop :=
  ∀ (s : State) (b : Byte),
    (s.link.receiver = .disabled → exec (.linkByteReceived b) s = .next s.commit) ∧
    (s.link.receiver = .hunt → exec (.linkByteReceived b) s = .next (State.commit
      (if b = 0xC3 then { s with link := { s.link with receiver := .length, gap := 0 } } else s))) ∧
    (s.link.receiver = .length → 2 ≤ b.toNat → b.toNat ≤ 250 →
      exec (.linkByteReceived b) s = .next (State.commit
        { s with link := { s.link with receiver := .payload b [], gap := 0 } })) ∧
    (s.link.receiver = .length → (b.toNat < 2 ∨ 250 < b.toNat) →
      exec (.linkByteReceived b) s = .next (State.commit
        { s with link := { s.link with receiver := .hunt, gap := 0, lengthCount := min (s.link.lengthCount + 1) 65535 } })) ∧
    (∀ len bytes, s.link.receiver = .payload len bytes → exec (.linkByteReceived b) s = .next (State.commit
      { s with link := { s.link with
        receiver := if len.toNat ≤ bytes.length + 1 then .crc len (bytes ++ [b]) none else .payload len (bytes ++ [b])
        gap := 0 } })) ∧
    (∀ len bytes, s.link.receiver = .crc len bytes none → exec (.linkByteReceived b) s = .next (State.commit
      { s with link := { s.link with receiver := .crc len bytes (some b), gap := 0 } })) ∧
    (∀ len bytes first, s.link.receiver = .crc len bytes (some first) →
      exec (.linkByteReceived b) s = exec (.frameReceived b) s)

/-- LENGTH_BYTE_REFUSED and GAP_TIMEOUT (R165, R166): the frame is dropped, its counter rises by 1, saturating at 65535, and the receiver
enters HUNT. That the command GAP_TIMEOUT says that more than 2 ms have passed, whatever the model's gap stands at, is the model's choice
(notes/assumptions/8.md). -/
def Obligations.RefusedLengthAndGapAreCounted : Prop :=
  (∀ (s : State) (b : Byte), s.link.receiver = .length → (b.toNat < 2 ∨ 250 < b.toNat) →
    exec (.lengthByteRefused b) s = .next (State.commit
      { s with link := { s.link with receiver := .hunt, gap := 0, lengthCount := min (s.link.lengthCount + 1) 65535 } })) ∧
  (∀ s : State, s.link.receiver ≠ .disabled → s.link.receiver ≠ .hunt →
    exec .gapTimeout s = .next (State.commit
      { s with link := { s.link with receiver := .hunt, gap := 0, gapCount := min (s.link.gapCount + 1) 65535 } }))

/-- FRAME_RECEIVED (R167, R168, R169): a bad CRC is counted; a good frame meets a full inbox and is counted, waits behind an occupied reply
slot, or is taken at once: an unknown KIND and a wrong body length are answered with the RESULT alone, and every frame of a known KIND and a
good length is that of a request command, whose meaning it then has (notes/assumptions/5.md). -/
def Obligations.CompleteFrameIsJudged : Prop :=
  ∀ (s : State) (len kind tag first second : Byte) (body : List Byte),
    s.link.receiver = .crc len (kind :: tag :: body) (some first) →
    let good := (crc16 (len :: kind :: tag :: body)).toNat = first.toNat * 256 + second.toNat
    (¬ good → exec (.frameReceived second) s = .next (State.commit
      { s with link := { s.link with receiver := .hunt, gap := 0, crcCount := min (s.link.crcCount + 1) 65535 } })) ∧
    (good → 4 ≤ s.link.inbox.length → exec (.frameReceived second) s = .next (State.commit
      { s with link := { s.link with receiver := .hunt, gap := 0, inboxCount := min (s.link.inboxCount + 1) 65535 } })) ∧
    (good → s.link.inbox.length < 4 → s.link.reply.isSome = true →
      exec (.frameReceived second) s = .next (State.commit
        { s with link := { s.link with
          receiver := .hunt, gap := 0, inbox := s.link.inbox ++ [⟨kind, tag, body⟩] } })) ∧
    (good → s.link.inbox = [] → s.link.reply = none → RequestKind.ofCode kind.toNat = none →
      exec (.frameReceived second) s = .next (State.commit
        { s with link := { s.link with
          receiver := .hunt, gap := 0, reply := some (frameBytes (replyKind kind) tag [0x10]) } })) ∧
    (good → s.link.inbox = [] → s.link.reply = none →
      (∃ k n, RequestKind.ofCode kind.toNat = some k ∧ k.bodyLength = some n ∧ body.length ≠ n) →
      exec (.frameReceived second) s = .next (State.commit
        { s with link := { s.link with
          receiver := .hunt, gap := 0, reply := some (frameBytes (replyKind kind) tag [0x11]) } })) ∧
    (good → s.startup.phase = .started → ∀ c, requestOf c = some ⟨kind, tag, body⟩ →
      exec (.frameReceived second) s = exec c { s with link := { s.link with receiver := .hunt, gap := 0 } }) ∧
    ((∃ k, RequestKind.ofCode kind.toNat = some k ∧ (k.bodyLength = none ∨ k.bodyLength = some body.length)) →
      ∃ c, requestOf c = some ⟨kind, tag, body⟩)

/-- TRANSMIT_END (R168, R170): a notice's end frees the transmitter; a reply's end empties the slot too, and the next request of the inbox
is then taken, by the meaning its kind has, and answered under its own KIND and TAG. -/
def Obligations.TransmitEndTakesNextRequest : Prop :=
  (∀ (s : State) (frame : List Byte), s.link.transmitter = .notice frame →
    exec .transmitEnd s = .next (State.commit { s with link := { s.link with transmitter := .free } })) ∧
  (∀ (s : State) (frame : List Byte), s.link.transmitter = .reply frame → s.link.resetPending = false →
    s.link.inbox = [] →
    exec .transmitEnd s = .next (State.commit { s with link := { s.link with transmitter := .free, reply := none } })) ∧
  (∀ (s : State) (frame : List Byte) (r : Request) (rest : List Request), s.link.transmitter = .reply frame →
    s.link.resetPending = false → s.link.inbox = r :: rest →
    let w : State := { s with link := { s.link with transmitter := .free, reply := none, inbox := rest } }
    let u := (w.answerBody r).1.withReply (replyKind r.kind) r.tag (w.answerBody r).2
    exec .transmitEnd s = .next u.commit ∧ u.link.inbox = rest ∧ u.link.transmitter = .free ∧
      (∀ c, requestOf c = some r → rest = [] → s.startup.phase = .started → exec .transmitEnd s = exec c w))

/-- A free transmitter chooses (R170, R183): an unsent reply goes first; without one a chosen notice goes, framed with its class's KIND and
the sequence count, its record becoming absent, its class the last class sent and every other record as it was; without a candidate nothing
goes. One that is sending, and one before the end of start-up, chooses nothing. While a rise of the trip level waits to be taken whose
ENGINE_STATE record must be pending too (R181), a choice that has TRIP or ENGINE_STATE among its candidates is made as with that record
pending, and nothing goes where it falls on one of the two. A choice that leaves no enabled class pending releases ATTN (R184), which
the model counts. The end of an event changes the link, the notice unit, the outputs, that count and the two-wire line alone. That the choice
comes at the event's end, and what it does while a rise waits, are the model's reading (notes/assumptions/19.md). -/
def Obligations.TransmitterChooses : Prop :=
  (∀ s : State,
    s.commit = { s with
      link := s.commit.link, notice := s.commit.notice, outputs := s.commit.outputsOf, attnFalls := s.commit.attnFalls
      twoWire := s.twoWireOf } ∧
    ((s.startup.phase ≠ .started ∨ s.link.transmitter ≠ .free) →
      s.commit.link = s.link ∧ s.commit.notice = s.notice ∧ s.commit.attnFalls = s.attnFalls)) ∧
  ∀ s : State, s.startup.phase = .started → s.link.transmitter = .free →
    (∀ frame, s.link.reply = some frame →
      s.commit.link = { s.link with transmitter := .reply frame } ∧ s.commit.notice = s.notice ∧
      s.commit.attnFalls = s.attnFalls) ∧
    let from2 := s.notice.candidate .trip = true ∨ s.notice.candidate .engineState = true
    (s.reactionWaits = false ∨ ¬ from2 → s.chosenNotice = s.notice.choose s.settings.params.rotating) ∧
    (s.reactionWaits = true → from2 → ∀ c, s.chosenNotice = some c ↔ c ≠ .trip ∧ c ≠ .engineState ∧
      (s.notice.searchOrder s.settings.params.rotating).find? (fun d =>
        s.notice.candidate d || decide (d = .engineState) && s.notice.enables.getLsbD 1) = some c) ∧
    (s.link.reply = none → s.chosenNotice = none →
      s.commit.link = s.link ∧ s.commit.notice = s.notice ∧ s.commit.attnFalls = s.attnFalls) ∧
    (∀ c, s.link.reply = none → s.chosenNotice = some c →
      s.commit.link = { s.link with
        transmitter := .notice (frameBytes (byte (96 + c.number)) s.link.sequence (s.notice.noticeBody c))
        sequence := s.link.sequence + 1 } ∧
      s.commit.notice = s.notice.handOver c ∧ s.commit.notice.isPending c = false ∧ s.commit.notice.lastSent = c ∧
      s.commit.notice.enables = s.notice.enables ∧
      (c ≠ .trip → s.commit.notice.trip = s.notice.trip) ∧
      (c ≠ .engineState → s.commit.notice.engineState = s.notice.engineState) ∧
      (c ≠ .segmentDone → s.commit.notice.segmentDone = s.notice.segmentDone) ∧
      (c ≠ .queueLow → s.commit.notice.queueLow = s.notice.queueLow) ∧
      (c ≠ .band → s.commit.notice.band = s.notice.band) ∧
      (c ≠ .tareDone → s.commit.notice.tareDone = s.notice.tareDone) ∧
      (c ≠ .storeDone → s.commit.notice.storeDone = s.notice.storeDone) ∧
      s.commit.attnFalls = (if s.commit.notice.attention then s.attnFalls else s.attnFalls + 1))

/-- R181 and R183: an event creates its class's record with a count of 1, or replaces every field of the pending one and raises the count by
1, saturating at 255. FIXED chooses the candidate with the lowest class number; ROTATING the first one after the last class sent, in class
order, wrapping, and ending with that class itself. -/
def Obligations.NoticesCoalesceAndAreChosen : Prop :=
  (∀ (α : Type) (c : α), Pending.coalesce none c = some ⟨c, 1⟩) ∧
  (∀ (α : Type) (c : α) (p : Pending α), Pending.coalesce (some p) c = some ⟨c, min (p.count + 1) 255⟩) ∧
  (∀ s : State,
    (∀ c, s.noteTrip c = { s with notice := { s.notice with trip := Pending.coalesce s.notice.trip c } }) ∧
    (∀ c, s.noteEngine c =
      { s with notice := { s.notice with engineState := Pending.coalesce s.notice.engineState c } }) ∧
    (∀ c, s.noteSegmentDone c =
      { s with notice := { s.notice with segmentDone := Pending.coalesce s.notice.segmentDone c } }) ∧
    (∀ c, s.noteQueueLow c = { s with notice := { s.notice with queueLow := Pending.coalesce s.notice.queueLow c } }) ∧
    (∀ c, s.noteBand c = { s with notice := { s.notice with band := Pending.coalesce s.notice.band c } }) ∧
    (∀ c, s.noteTareDone c = { s with notice := { s.notice with tareDone := Pending.coalesce s.notice.tareDone c } }) ∧
    (∀ c, s.noteStoreDone c =
      { s with notice := { s.notice with storeDone := Pending.coalesce s.notice.storeDone c } })) ∧
  ∀ (n : NoticeUnit) (c : NoticeClass),
    (n.choose false = some c → n.candidate c = true ∧ ∀ d, n.candidate d = true → c.number ≤ d.number) ∧
    (n.choose true = some c → n.candidate c = true ∧ ∀ d, n.candidate d = true →
      (c.number + 6 - n.lastSent.number) % 7 ≤ (d.number + 6 - n.lastSent.number) % 7) ∧
    (∀ rotating, n.choose rotating = none → ∀ d, n.candidate d = false)

/-! ## Requests (R172): each as the arrival of its frame (the model's choice, notes/assumptions/5.md) at an empty inbox and an
empty reply slot -/

/-- IDENT, STATUS, GET_PARAM, GET_BAND and GET_TRIPS (R174, R173, R186, R116, R156): the reply carries the figures as they stand, and
nothing else changes. -/
def Obligations.ReadingRequestsReply : Prop :=
  ∀ (s : State) (tag : Byte), s.startup.phase = .started → s.link.reply = none → s.link.inbox = [] →
    (exec (.ident tag) s = .next (State.commit { s with link := { s.link with reply := some (frameBytes 0x81 tag
      ([0x00, 0x0A, 0x1C, 0x02, 0xE4, 0x01,
        byte ((if s.settings.present then 1 else 0) + (if s.startup.lrateHigh then 2 else 0) +
          (if s.startup.safeNHigh then 4 else 0)), s.settings.source.code] ++
        beWord s.settings.params.label0 ++ beWord s.settings.params.label1 ++ beWord s.settings.params.label2 ++
        beWord s.settings.params.label3)) } })) ∧
    (exec (.status tag) s = .next (State.commit { s with link := { s.link with reply := some (frameBytes 0x82 tag
      ([0x00, s.seq.engine.code] ++
        (match s.activeRecord with | none => [0, 0, 0] | some r => 1 :: be16 r.tag.toNat) ++
        be32 s.interp.x ++ be32 s.interp.y ++ be16 s.interp.heading.toNat ++ be32 s.interp.feed ++
        [byte s.override, byte s.queue.records.length, byte (128 - s.queue.records.length), s.stroke.state.code] ++
        be32 s.stroke.fm ++ be16 s.stroke.lf ++
        [match s.bandInEffect with | none => 8 | some b => byte b.val] ++ be16 s.classifier.df ++
        [s.trip.level.code] ++ be16 s.trip.latchedSet ++ [s.stroke.tareState.code, s.settings.store.code] ++
        be16 s.link.lengthCount ++ be16 s.link.gapCount ++ be16 s.link.crcCount ++ be16 s.link.inboxCount)) } })) ∧
    (∀ number : Byte, exec (.getParam tag number) s = .next (State.commit { s with link := { s.link with
      reply := some (frameBytes 0xA1 tag
        (match s.settings.params.get number.toNat with
          | none => 0x20 :: number :: be32 0
          | some v => 0x00 :: number :: be32 v)) } })) ∧
    (∀ (index : Byte) (h : index.toNat < 8), exec (.getBand tag index) s = .next (State.commit { s with link := { s.link with
      reply := some (frameBytes 0xA3 tag
        (0x00 :: index :: (s.classifier.bands[index.toNat]).bytes ++
          [byte s.classifier.material.val,
            match s.classifier.candidate with | none => 0xFF | some b => byte b.val] ++ be16 s.classifier.df)) } })) ∧
    (∀ index : Byte, 8 ≤ index.toNat → exec (.getBand tag index) s = .next (State.commit { s with link := { s.link with
      reply := some (frameBytes 0xA3 tag [0x20, 0, 0, 0, 0, 0, 0, 0, 0, 0, 0, 0, 0, 0]) } })) ∧
    (exec (.getTrips tag) s = .next (State.commit { s with link := { s.link with reply := some (frameBytes 0xA5 tag
      ([0x00, s.trip.level.code] ++
        (s.trip.sources.toList.map fun src => [src.action.code, src.state.code, byte src.count]).flatten ++
        (s.trip.inputs.toList.map fun i => [i.polarity.code, byte i.debounce, flagByte i.line]).flatten ++
        [byte s.trip.faultSet.toNat, byte s.trip.lostSet.toNat])) } }))

/-- SEGMENTS with one DWELL or one END record (R14, R16, R22, R177): a machine that accepts it appends the record, leaves the tail, and
replies with the credit. In STARVED the arrival is dispatched (R86). In a body of two records the second is examined against what the first
left, and a refused one leaves the first accepted (R22). -/
def Obligations.SegmentsAppendsDwellAndEnd : Prop :=
  ∀ (s : State) (tag : Byte) (segTag : Half) (material feed report : Bool) (duration : Half), s.takesRequests →
    s.seq.engine ≠ .aborted → s.bus.allAdopted = true → s.queue.records.length < 128 →
    let flags : Byte := byte (material.toNat + 2 * feed.toNat + 4 * report.toNat)
    let sent := 0x04 :: flags :: be16 segTag.toNat ++ be16 duration.toNat
    let d := max 1 (min duration.toNat 60000)
    let dwell : Record := ⟨segTag, material, report, .dwell d⟩
    let clamped := if duration.toNat = d then 0 else 1
    let reply (result accepted : Nat) (refused : List Byte) (credit : Nat) : Link :=
      { s.link with reply := some (frameBytes 0x83 tag ([byte result, byte accepted, byte clamped] ++ refused ++ [byte credit])) }
    (s.seq.engine ≠ .starved →
      (∃ u : State, exec (.segments tag sent) s = .next u.commit ∧
        u.queue = ⟨s.queue.records ++ [dwell], s.queue.tail⟩ ∧
        u.link = reply clamped 1 [0, 0] (127 - s.queue.records.length) ∧
        u.seq = s.seq ∧ u.stroke = s.stroke ∧ u.notice = s.notice) ∧
      (∃ u : State, exec (.segments tag (0x05 :: flags :: be16 segTag.toNat)) s = .next u.commit ∧
        u.queue = ⟨s.queue.records ++ [⟨segTag, false, report, .programEnd⟩], s.queue.tail⟩ ∧
        u.link = { s.link with reply := some (frameBytes 0x83 tag
          [0x00, 1, 0, 0, 0, byte (127 - s.queue.records.length)]) } ∧
        u.seq = s.seq ∧ u.stroke = s.stroke ∧ u.notice = s.notice) ∧
      (∀ endTag : Half, s.queue.records.length < 127 →
        ∃ u : State, exec (.segments tag (sent ++ 0x05 :: 0x00 :: be16 endTag.toNat)) s = .next u.commit ∧
          u.queue = ⟨s.queue.records ++ [dwell, ⟨endTag, false, false, .programEnd⟩], s.queue.tail⟩ ∧
          u.link = reply clamped 2 [0, 0] (126 - s.queue.records.length) ∧
          u.seq = s.seq ∧ u.stroke = s.stroke ∧ u.notice = s.notice) ∧
      (∀ (kind flags2 hi lo : Byte) (more : List Byte), (kind.toNat = 0 ∨ 5 < kind.toNat) →
        ∃ u : State, exec (.segments tag (sent ++ kind :: flags2 :: hi :: lo :: more)) s = .next u.commit ∧
          u.queue = ⟨s.queue.records ++ [dwell], s.queue.tail⟩ ∧
          u.link = reply 0x12 1 [hi, lo] (127 - s.queue.records.length) ∧
          u.seq = s.seq ∧ u.stroke = s.stroke ∧ u.notice = s.notice)) ∧
    (s.seq.engine = .starved → s.queue.records = [] →
      (∃ u : State, exec (.segments tag sent) s = .next u.commit ∧ u.queue = ⟨[dwell], s.queue.tail⟩ ∧
        u.link = reply clamped 1 [0, 0] 127 ∧ u.seq.engine = .dwelling ∧ u.seq.dwellCount = 0 ∧
        u.seq.starve = .stopped ∧ s.StrokeStartAsked u ∧
        u.notice.engineState = Pending.coalesce s.notice.engineState ⟨.dwelling, .starved, .starve, none⟩) ∧
      (∃ u : State, exec (.segments tag (0x05 :: flags :: be16 segTag.toNat)) s = .next u.commit ∧
        u.queue = ⟨[], s.queue.tail⟩ ∧
        u.link = { s.link with reply := some (frameBytes 0x83 tag [0x00, 1, 0, 0, 0, 127]) } ∧
        u.seq.engine = .idle ∧ u.seq.resume = none ∧ u.seq.starve = .stopped ∧
        u.stroke.state ∈ [StrokeState.stopping, .stopped] ∧
        u.notice.engineState = Pending.coalesce s.notice.engineState ⟨.idle, .starved, .starve, none⟩))

/-- SEGMENTS with one moving record (R8 to R16): a LINE inside the box and off the tail, and an arc that passes the six parts of its check
(R10), with or without MATERIAL, FEED and REPORT, in a corner that is not too sharp (R13). The record is stored with its length (R11),
headings (R12) and planning cap (R15), and for an arc with centre, radius, direction and sweep (R9). An arc whose end point is its centre has
no end direction (notes/assumptions/2.md) and is not in this statement. -/
def Obligations.SegmentsAppendsAirLine : Prop :=
  ∀ (s : State) (tag : Byte) (segTag : Half) (x y : Word) (material report : Bool) (feed : Option Half), s.takesRequests →
    s.seq.engine ≠ .aborted → s.bus.allAdopted = true → s.queue.records.length < 128 →
    (s.seq.engine = .starved → s.queue.records = []) →
    let p := s.settings.params
    let tail := s.queue.tail
    let flags : Byte := byte (material.toNat + 2 * feed.isSome.toNat + 4 * report.toNat)
    let feedBytes : List Byte := match feed with | none => [] | some f => be16 f.toNat
    let inside (a b : Int) := p.softXMin ≤ a ∧ a ≤ p.softXMax ∧ p.softYMin ≤ b ∧ b ≤ p.softYMax
    let sharp (entry : Half) := material = true ∧ p.blendAngle < (entry - tail.heading).toInt.natAbs ∧
      p.pivotLimit < (entry - tail.heading).toInt.natAbs
    let top := (if material then p.maxCutFeed else p.maxAirFeed) * 100
    inside x.toInt y.toInt →
    (let dx := x.toInt - tail.x
      let dy := y.toInt - tail.y
      (dx ≠ 0 ∨ dy ≠ 0) → ¬ sharp (direction dx dy) →
      ∃ u : State, exec (.segments tag (0x01 :: flags :: be16 segTag.toNat ++ beWord x ++ beWord y ++ feedBytes)) s =
          .next u.commit ∧
        s.AcceptsMoving u tag segTag material report feed .line x.toInt y.toInt
          (isqrt (dx * dx + dy * dy).toNat) (direction dx dy) (direction dx dy) top) ∧
    ∀ (ccw : Bool) (i j : Word),
      let ux := -i.toInt
      let uy := -j.toInt
      let ex := x.toInt - (tail.x + i.toInt)
      let ey := y.toInt - (tail.y + j.toInt)
      let r := isqrt (i.toInt * i.toInt + j.toInt * j.toInt).toNat
      let full := ex = ux ∧ ey = uy
      let sweep := if ccw then sweepFix ux uy ex ey else sweepFix ex ey ux uy
      let crosses (dx dy : Int) := full ∨ (if ccw then insideSweep ux uy ex ey dx dy else insideSweep ex ey ux uy dx dy) = true
      let tangent (a b : Int) : Half := if ccw then direction a b + 16384#16 else direction a b - 16384#16
      (ex ≠ 0 ∨ ey ≠ 0) → -16000000 ≤ i.toInt → i.toInt ≤ 16000000 → -16000000 ≤ j.toInt → j.toInt ≤ 16000000 →
      p.minRadius ≤ r → (((isqrt (4 * (ex * ex + ey * ey).toNat) + 1) / 2 : Nat) - (r : Int)).natAbs ≤ p.arcTol →
      (¬ full → sameDirection ux uy ex ey = false) →
      (∀ d ∈ [((1 : Int), (0 : Int)), (0, 1), (-1, 0), (0, -1)], crosses d.1 d.2 →
        inside (tail.x + i.toInt + d.1 * r) (tail.y + j.toInt + d.2 * r)) →
      1 ≤ floorFix (r * sweep) one → ¬ sharp (tangent ux uy) →
      ∃ u : State, exec (.segments tag ((if ccw then 0x03 else 0x02) :: flags :: be16 segTag.toNat ++ beWord x ++ beWord y ++
          beWord i ++ beWord j ++ feedBytes)) s = .next u.commit ∧
        s.AcceptsMoving u tag segTag material report feed
          (.arc ⟨tail.x + i.toInt, tail.y + j.toInt, r, ccw, sweep⟩) x.toInt y.toInt (floorFix (r * sweep) one)
          (tangent ux uy) (tangent ex ey) (min top (r * p.turnRate / 100))

/-- SEGMENTS refused (R7 to R10, R13, R22): by each of the ten checks, in the order in which they come. Nothing is stored; the reply carries
the reason, the record's tag and the credit. A body that ends inside the tag field answers the tag 0 by the model's choice
(notes/assumptions/27.md), and a refused arc whose end point is its centre has drawn its free value (notes/assumptions/2.md). -/
def Obligations.SegmentsRefusals : Prop :=
  ∀ (s : State) (tag : Byte), s.takesRequests →
    let p := s.settings.params
    let tail := s.queue.tail
    let refusal (draws : Nat) (reason : Byte) (segTag : List Byte) : Host.Outcome State Fault Refusal :=
      .next (State.commit { s with
        draws := draws
        link := { s.link with reply := some (frameBytes 0x83 tag
          ([reason, 0, 0] ++ segTag ++ [byte (128 - s.queue.records.length)])) } })
    let ready := s.seq.engine ≠ .aborted ∧ s.bus.allAdopted = true ∧ s.queue.records.length < 128
    let inside (a b : Int) := p.softXMin ≤ a ∧ a ≤ p.softXMax ∧ p.softYMin ≤ b ∧ b ≤ p.softYMax
    exec (.segments tag []) s = refusal s.draws 0x11 [0, 0] ∧
    (∀ (kind flags hi lo : Byte) (rest : List Byte), (kind.toNat = 0 ∨ 5 < kind.toNat) →
      exec (.segments tag (kind :: flags :: hi :: lo :: rest)) s = refusal s.draws 0x12 [hi, lo]) ∧
    (∀ (kind : Byte) (rest : List Byte), (kind.toNat = 0 ∨ 5 < kind.toNat) → rest.length < 3 →
      exec (.segments tag (kind :: rest)) s = refusal s.draws 0x12 [0, 0]) ∧
    (∀ (k : SegmentKind) (kind flags hi lo : Byte) (rest : List Byte), SegmentKind.ofByte kind = some k →
      rest.length + 4 < k.length (flags.getLsbD 1) →
      exec (.segments tag (kind :: flags :: hi :: lo :: rest)) s = refusal s.draws 0x11 [hi, lo]) ∧
    (∀ (k : SegmentKind) (kind : Byte) (rest : List Byte), SegmentKind.ofByte kind = some k → rest.length < 3 →
      exec (.segments tag (kind :: rest)) s = refusal s.draws 0x11 [0, 0]) ∧
    (∀ (k : SegmentKind) (kind flags hi lo : Byte) (rest : List Byte), SegmentKind.ofByte kind = some k →
      k.length (flags.getLsbD 1) ≤ rest.length + 4 →
      (s.seq.engine = .aborted →
        exec (.segments tag (kind :: flags :: hi :: lo :: rest)) s = refusal s.draws 0x1B [hi, lo]) ∧
      (s.seq.engine ≠ .aborted → s.bus.allAdopted = false →
        exec (.segments tag (kind :: flags :: hi :: lo :: rest)) s = refusal s.draws 0x1D [hi, lo]) ∧
      (s.seq.engine ≠ .aborted → s.bus.allAdopted = true → 128 ≤ s.queue.records.length →
        exec (.segments tag (kind :: flags :: hi :: lo :: rest)) s = refusal s.draws 0x15 [hi, lo])) ∧
    (ready → ∀ (flags hi lo : Byte) (x y : Word) (rest : List Byte),
      let dx := x.toInt - tail.x
      let dy := y.toInt - tail.y
      let turn := (direction dx dy - tail.heading).toInt.natAbs
      let sent := 0x01 :: flags :: hi :: lo :: (beWord x ++ beWord y ++ rest)
      (flags.getLsbD 1 = true → 2 ≤ rest.length) →
      (¬ inside x.toInt y.toInt → exec (.segments tag sent) s = refusal s.draws 0x16 [hi, lo]) ∧
      (inside x.toInt y.toInt → dx = 0 → dy = 0 → exec (.segments tag sent) s = refusal s.draws 0x19 [hi, lo]) ∧
      (inside x.toInt y.toInt → (dx ≠ 0 ∨ dy ≠ 0) → flags.getLsbD 0 = true → p.blendAngle < turn → p.pivotLimit < turn →
        exec (.segments tag sent) s = refusal s.draws 0x1A [hi, lo])) ∧
    (ready → ∀ (ccw : Bool) (flags hi lo : Byte) (x y i j : Word) (rest : List Byte),
      let ux := -i.toInt
      let uy := -j.toInt
      let ex := x.toInt - (tail.x + i.toInt)
      let ey := y.toInt - (tail.y + j.toInt)
      let r := isqrt (i.toInt * i.toInt + j.toInt * j.toInt).toNat
      let full := ex = ux ∧ ey = uy
      let gap := (((isqrt (4 * (ex * ex + ey * ey).toNat) + 1) / 2 : Nat) - (r : Int)).natAbs
      let near := -16000000 ≤ i.toInt ∧ i.toInt ≤ 16000000 ∧ -16000000 ≤ j.toInt ∧ j.toInt ≤ 16000000
      let crosses (dx dy : Int) := full ∨ (if ccw then insideSweep ux uy ex ey dx dy else insideSweep ex ey ux uy dx dy) = true
      let entry : Half := if ccw then direction ux uy + 16384#16 else direction ux uy - 16384#16
      let turn := (entry - tail.heading).toInt.natAbs
      let leaves := ∃ d ∈ [((1 : Int), (0 : Int)), (0, 1), (-1, 0), (0, -1)], crosses d.1 d.2 ∧
        ¬ inside (tail.x + i.toInt + d.1 * r) (tail.y + j.toInt + d.2 * r)
      let length := floorFix (r * (if ccw then sweepFix ux uy ex ey else sweepFix ex ey ux uy)) one
      let draws := if ex = 0 ∧ ey = 0 then s.draws + 1 else s.draws
      let answer (reason : Byte) := exec (.segments tag ((if ccw then 0x03 else 0x02) :: flags :: hi :: lo ::
        (beWord x ++ beWord y ++ beWord i ++ beWord j ++ rest))) s = refusal draws reason [hi, lo]
      (flags.getLsbD 1 = true → 2 ≤ rest.length) →
      (¬ inside x.toInt y.toInt → answer 0x16) ∧
      (inside x.toInt y.toInt → ¬ near → answer 0x16) ∧
      (inside x.toInt y.toInt → near → r < p.minRadius → answer 0x17) ∧
      (inside x.toInt y.toInt → near → p.minRadius ≤ r → p.arcTol < gap → answer 0x18) ∧
      (inside x.toInt y.toInt → near → p.minRadius ≤ r → gap ≤ p.arcTol → ¬ full → sameDirection ux uy ex ey = true →
        answer 0x18) ∧
      ((ex ≠ 0 ∨ ey ≠ 0) → inside x.toInt y.toInt → near → p.minRadius ≤ r → gap ≤ p.arcTol →
        (¬ full → sameDirection ux uy ex ey = false) →
        (leaves → answer 0x16) ∧
        (¬ leaves → length < 1 → answer 0x19) ∧
        (¬ leaves → 1 ≤ length → flags.getLsbD 0 = true → p.blendAngle < turn → p.pivotLimit < turn → answer 0x1A)))

/-! ## The program requests (R74 to R79) -/

/-- START (R74): the first check that fails gives the refusal, which changes nothing else; accepted, the sequencer dispatches on the head
(R70, R71) with cause REQUEST, and requests the stroke start (R72, R92) unless the head is an END. -/
def Obligations.StartDispatches : Prop :=
  ∀ (s : State) (tag : Byte), s.takesRequests →
    ((s.seq.engine ≠ .idle ∨ s.queue.records = []) →
      exec (.start tag) s = .next (State.commit (s.withReply 0x90 tag [0x14]))) ∧
    (s.seq.engine = .idle → s.queue.records ≠ [] → (s.bus.allActive && s.bus.allAdopted) = false →
      exec (.start tag) s = .next (State.commit (s.withReply 0x90 tag [0x1D]))) ∧
    (s.seq.engine = .idle → s.queue.records ≠ [] → s.bus.allActive = true → s.bus.allAdopted = true →
      s.trip.level ≠ .none → exec (.start tag) s = .next (State.commit (s.withReply 0x90 tag [0x1C]))) ∧
    (s.seq.engine = .idle → s.queue.records ≠ [] → s.bus.allActive = true → s.bus.allAdopted = true →
      s.trip.level = .none → s.stroke.tareInFlight = true →
      exec (.start tag) s = .next (State.commit (s.withReply 0x90 tag [0x1E]))) ∧
    (∀ r rest, s.queue.records = r :: rest → s.seq.engine = .idle → s.bus.allActive = true → s.bus.allAdopted = true →
      s.trip.level = .none → s.stroke.tareInFlight = false →
      ∃ u : State, exec (.start tag) s = .next (State.commit (u.withReply 0x90 tag [0x00])) ∧
        (∀ m, r.body = .moving m → s.interp.turnPending = false → u.seq.engine = .running ∧ u.interp = s.interp) ∧
        (∀ m, r.body = .moving m → s.interp.turnPending = true → u.seq.engine = .pivoting ∧
          u.interp = { s.interp with feed := 0, turn := some ⟨decide (0 < m.turn), m.turn.natAbs⟩ }) ∧
        (∀ d, r.body = .dwell d → u.seq.engine = .dwelling ∧ u.seq.dwellCount = 0 ∧ u.interp = s.interp) ∧
        (r.body ≠ .programEnd → u.queue = s.queue ∧
          u.notice.engineState = Pending.coalesce s.notice.engineState ⟨u.seq.engine, .idle, .request, none⟩ ∧
          (s.stroke.state ∈ [StrokeState.stopped, .stopping] → u.stroke.state = .starting ∧
            u.stroke.startTimer = some s.settings.params.strokeStartTimeout ∧ u.stroke.stopTimer = none) ∧
          (s.stroke.state ∈ [StrokeState.starting, .running, .stalled] → u.stroke = s.stroke)) ∧
        (r.body = .programEnd → u.queue = ⟨rest, s.queue.tail⟩ ∧ u.seq = s.seq ∧ u.stroke = s.stroke ∧
          u.notice.engineState = s.notice.engineState ∧ u.notice.segmentDone =
            (if r.report then Pending.coalesce s.notice.segmentDone r.tag else s.notice.segmentDone)) ∧
        u.seq.resume = s.seq.resume ∧ u.seq.starve = s.seq.starve ∧ u.classifier = s.classifier ∧
        u.settings = s.settings ∧ u.override = s.override ∧ u.link = s.link ∧
        (s.stroke.stall = false → u.trip = s.trip ∧ u.bus = s.bus))

/-- HOLD (R75, R73): RUNNING, PIVOTING and DWELLING go to HOLDING with the resume memory written, STARVED to HELD with its timer stopped,
each with cause REQUEST; HOLDING, HELD, HALTING, HALTED and CANCELLING stand; IDLE and ABORTED refuse with STATE. -/
def Obligations.HoldHoldsEngine : Prop :=
  ∀ (s : State) (tag : Byte), s.takesRequests →
    (s.seq.engine ∈ [Engine.running, .pivoting, .dwelling] →
      exec (.hold tag) s = .next (State.commit (State.withReply { s with
        seq := { s.seq with
          engine := .holding, resume := if s.seq.engine = .dwelling then some .dwelling else some .running }
        notice := { s.notice with
          engineState := Pending.coalesce s.notice.engineState ⟨.holding, s.seq.engine, .request, none⟩ } }
        0x91 tag [0x00]))) ∧
    (s.seq.engine = .starved →
      exec (.hold tag) s = .next (State.commit (State.withReply { s with
        seq := { s.seq with engine := .held, resume := some .starved, starve := .stopped }
        notice := { s.notice with
          engineState := Pending.coalesce s.notice.engineState ⟨.held, .starved, .request, none⟩ } }
        0x91 tag [0x00]))) ∧
    (s.seq.engine ∈ [Engine.holding, .held, .halting, .halted, .cancelling] →
      exec (.hold tag) s = .next (State.commit (s.withReply 0x91 tag [0x00]))) ∧
    (s.seq.engine ∈ [Engine.idle, .aborted] →
      exec (.hold tag) s = .next (State.commit (s.withReply 0x91 tag [0x14])))

/-- RESUME (R76, R73, R70, R72, R85): refused with STATE outside HOLDING, HELD and HALTED and with TRIPPED under a trip level; else a turn
record in HOLDING goes on in PIVOTING, and otherwise the memory is acted on: the dispatch on the head, with the dwell count kept where the
memory is DWELLING. The memory is cleared. The stroke start is requested where the engine enters RUNNING, PIVOTING or DWELLING, and at every
RESUME taken in HALTED, where an empty queue then leaves the stroke started unless the starve timeout is 0, and an END stops it again. -/
def Obligations.ResumeActsOnMemory : Prop :=
  ∀ (s : State) (tag : Byte), s.takesRequests →
    (s.seq.engine ∉ [Engine.holding, .held, .halted] →
      exec (.resume tag) s = .next (State.commit (s.withReply 0x92 tag [0x14]))) ∧
    (s.seq.engine ∈ [Engine.holding, .held, .halted] → s.trip.level ≠ .none →
      exec (.resume tag) s = .next (State.commit (s.withReply 0x92 tag [0x1C]))) ∧
    (s.seq.engine ∈ [Engine.holding, .held, .halted] → s.trip.level = .none →
      ∃ u : State, exec (.resume tag) s = .next (State.commit (u.withReply 0x92 tag [0x00])) ∧
        (s.seq.engine = .holding → s.interp.turn.isSome = true →
          u.seq.engine = .pivoting ∧ u.interp = s.interp ∧ u.queue = s.queue ∧ s.StrokeStartAsked u ∧
          u.notice.engineState = Pending.coalesce s.notice.engineState ⟨.pivoting, .holding, .request, none⟩) ∧
        ((s.seq.engine ≠ .holding ∨ s.interp.turn = none) →
          (∀ r m, s.queue.records.head? = some r → r.body = .moving m → s.interp.turnPending = false →
            u.seq.engine = .running ∧ u.interp = s.interp) ∧
          (∀ r m, s.queue.records.head? = some r → r.body = .moving m → s.interp.turnPending = true →
            u.seq.engine = .pivoting ∧
            u.interp = { s.interp with feed := 0, turn := some ⟨decide (0 < m.turn), m.turn.natAbs⟩ }) ∧
          (∀ r d, s.queue.records.head? = some r → r.body = .dwell d → u.seq.engine = .dwelling ∧ u.interp = s.interp ∧
            u.seq.dwellCount = if s.seq.resume = some .dwelling then s.seq.dwellCount else 0) ∧
          (∀ r, s.queue.records.head? = some r → r.body ≠ .programEnd → u.queue = s.queue ∧
            u.notice.engineState =
              Pending.coalesce s.notice.engineState ⟨u.seq.engine, s.seq.engine, .request, none⟩ ∧
            s.StrokeStartAsked u) ∧
          (∀ r rest, s.queue.records = r :: rest → r.body = .programEnd →
            u.seq.engine = .idle ∧ u.queue = ⟨rest, s.queue.tail⟩ ∧ u.notice.engineState =
              Pending.coalesce s.notice.engineState ⟨.idle, s.seq.engine, .request, none⟩ ∧
            (s.seq.engine = .halted ∨ s.stroke.state ∈ [StrokeState.starting, .running, .stalled] →
              u.stroke.state = .stopping ∧ u.stroke.stopTimer = some s.settings.params.strokeStopTimeout) ∧
            (s.seq.engine ≠ .halted → s.stroke.state ∈ [StrokeState.stopped, .stopping] → u.stroke = s.stroke)) ∧
          (s.queue.records = [] → u.seq.engine = .starved ∧ u.queue = s.queue ∧ u.interp = s.interp ∧
            u.notice.engineState = Pending.coalesce s.notice.engineState ⟨.starved, s.seq.engine, .starve, none⟩ ∧
            (0 < s.settings.params.starveTimeout →
              u.seq.starve = .running s.settings.params.starveTimeout ∧
              (s.seq.engine = .halted → s.StrokeStartAsked u) ∧
              (s.seq.engine ≠ .halted → u.stroke = s.stroke)) ∧
            (s.settings.params.starveTimeout = 0 → u.seq.starve = .expired ∧
              u.stroke.state ∈ [StrokeState.stopping, .stopped]))) ∧
        u.seq.resume = none ∧ u.seq.interrupted = s.seq.interrupted ∧ u.classifier = s.classifier ∧
        u.settings = s.settings ∧ u.override = s.override ∧ u.link = s.link ∧
        (s.stroke.stall = false → u.trip = s.trip ∧ u.bus = s.bus))

/-- CANCEL (R77, R83, R21) and RECOVER (R78, R139): CANCEL brings a moving engine to CANCELLING, flushes at rest with the interrupted
report, and in IDLE flushes alone; RECOVER brings ABORTED to IDLE at the actuals of the active slots, which it adopts. -/
def Obligations.CancelFlushesAndRecoverAdopts : Prop :=
  ∀ (s : State) (tag : Byte), s.takesRequests →
    (s.seq.engine ∈ [Engine.running, .pivoting, .dwelling, .holding, .halting] →
      exec (.cancel tag) s = .next (State.commit (State.withReply { s with
        seq := { s.seq with engine := .cancelling, resume := none, dwellCount := 0 }
        notice := { s.notice with
          engineState := Pending.coalesce s.notice.engineState ⟨.cancelling, s.seq.engine, .request, none⟩ } }
        0x93 tag [0x00]))) ∧
    (s.seq.engine = .cancelling → exec (.cancel tag) s = .next (State.commit (s.withReply 0x93 tag [0x00]))) ∧
    (s.seq.engine = .aborted → exec (.cancel tag) s = .next (State.commit (s.withReply 0x93 tag [0x14]))) ∧
    (s.seq.engine ∈ [Engine.held, .halted, .starved, .idle] →
      ∃ u : State, exec (.cancel tag) s = .next (State.commit (u.withReply 0x93 tag [0x00])) ∧
        u.queue = ⟨[], ⟨s.interp.x, s.interp.y, s.interp.heading, s.queue.tail.feed⟩⟩ ∧
        u.interp = { s.interp with progress := 0, turnPending := false } ∧ u.seq.engine = .idle ∧
        (s.seq.engine = .idle → u.seq = s.seq ∧ u.notice.engineState = s.notice.engineState) ∧
        (s.seq.engine ≠ .idle → u.seq.resume = none ∧ u.seq.starve = .stopped ∧
          u.seq.interrupted =
            some ⟨s.activeRecord.map fun r => (r.tag, s.interp.progress / 1000), s.interp.x, s.interp.y⟩ ∧
          u.notice.engineState =
            Pending.coalesce s.notice.engineState ⟨.idle, s.seq.engine, .request, u.seq.interrupted⟩) ∧
        u.notice.segmentDone = s.notice.segmentDone ∧ u.notice.queueLow = s.notice.queueLow ∧
        (s.stroke.state ∈ [StrokeState.starting, .running, .stalled] →
          u.stroke.state = .stopping ∧ u.stroke.stopTimer = some s.settings.params.strokeStopTimeout) ∧
        (s.stroke.state ∈ [StrokeState.stopping, .stopped] → u.stroke = s.stroke) ∧
        u.trip = s.trip ∧ u.bus = s.bus ∧ u.classifier = s.classifier ∧ u.settings = s.settings ∧
        u.override = s.override ∧ u.link = s.link) ∧
    (s.seq.engine ≠ .aborted → exec (.recover tag) s = .next (State.commit (s.withReply 0x94 tag [0x14]))) ∧
    (s.seq.engine = .aborted → s.trip.level = .quickStop →
      exec (.recover tag) s = .next (State.commit (s.withReply 0x94 tag [0x1C]))) ∧
    (s.seq.engine = .aborted → s.trip.level ≠ .quickStop →
      (∃ k, (s.bus.get k).active = true ∧ ((s.bus.get k).actual = none ∨ 3 ≤ (s.bus.get k).misses)) →
      exec (.recover tag) s = .next (State.commit (s.withReply 0x94 tag [0x1D]))) ∧
    (s.seq.engine = .aborted → s.trip.level ≠ .quickStop →
      (∀ k, (s.bus.get k).active = true → (s.bus.get k).actual ≠ none ∧ (s.bus.get k).misses ≤ 2) →
      ∃ u : State, exec (.recover tag) s = .next (State.commit (u.withReply 0x94 tag [0x00])) ∧
        u.seq = { s.seq with engine := .idle, resume := none } ∧
        u.interp.feed = 0 ∧ u.interp.progress = 0 ∧ u.interp.turn = none ∧
        (∀ a, s.bus.x.active = true → s.bus.x.actual = some a → u.interp.x = a) ∧
        (∀ a, s.bus.y.active = true → s.bus.y.actual = some a → u.interp.y = a) ∧
        (∀ a, s.bus.h.active = true → s.bus.h.actual = some a → u.interp.heading = BitVec.ofInt 16 a) ∧
        (s.bus.x.active = false → u.interp.x = s.interp.x) ∧ (s.bus.y.active = false → u.interp.y = s.interp.y) ∧
        (s.bus.h.active = false → u.interp.heading = s.interp.heading) ∧
        u.queue = ⟨s.queue.records, ⟨u.interp.x, u.interp.y, u.interp.heading, s.queue.tail.feed⟩⟩ ∧
        (∀ k, k ≠ .s → (s.bus.get k).active = true → (u.bus.get k).adopted = true) ∧
        u.notice.engineState = Pending.coalesce s.notice.engineState ⟨.idle, .aborted, .request, none⟩ ∧
        u.stroke = s.stroke ∧ u.trip = s.trip ∧ u.classifier = s.classifier ∧ u.settings = s.settings ∧
        u.override = s.override ∧ u.link = s.link)

/-- OVERRIDE (R43), NOTICE_MASK (R182) and RESET (R175): the value stored, a value above 150 as 150; the class enables stored and the
pending classes answered; a RESET outside IDLE, HALTED and ABORTED or during a save refused, else marked to take effect once its reply has
been sent. -/
def Obligations.OverrideMaskAndResetRequests : Prop :=
  ∀ (s : State) (tag value : Byte), s.takesRequests →
    exec (.override tag value) s = .next (State.commit (State.withReply { s with override := min value.toNat 150 } 0x95 tag
      [if value.toNat ≤ 150 then 0x00 else 0x01, byte (min value.toNat 150)])) ∧
    exec (.noticeMask tag value) s = .next (State.commit (State.withReply
      { s with notice := { s.notice with enables := BitVec.ofNat 7 value.toNat } } 0xA8 tag
      [0x00, byte (value.toNat % 128),
        byte (s.notice.trip.isSome.toNat + 2 * s.notice.engineState.isSome.toNat + 4 * s.notice.segmentDone.isSome.toNat +
          8 * s.notice.queueLow.isSome.toNat + 16 * s.notice.band.isSome.toNat + 32 * s.notice.tareDone.isSome.toNat +
          64 * s.notice.storeDone.isSome.toNat)])) ∧
    (s.seq.engine ∉ [Engine.idle, .halted, .aborted] →
      exec (.reset tag) s = .next (State.commit (s.withReply 0xBF tag [0x14]))) ∧
    (s.seq.engine ∈ [Engine.idle, .halted, .aborted] → s.settings.store = .saving →
      exec (.reset tag) s = .next (State.commit (s.withReply 0xBF tag [0x13]))) ∧
    (s.seq.engine ∈ [Engine.idle, .halted, .aborted] → s.settings.store ≠ .saving →
      exec (.reset tag) s = .next (State.commit
        (State.withReply { s with link := { s.link with resetPending := true } } 0xBF tag [0x00])))

/-! ## Settings, trips, tare and saves -/

/-- SET_PARAM (R186, R185): refused with BAD_ID or STATE, else the value brought into its range is stored, every other parameter stands,
and the reply says CLAMPED when the value was changed. `parameterTable` is R185's table of ranges; those that depend on another parameter, the
slot set and the arbitration have clauses of their own. -/
def Obligations.SetParamStoresClampedValue : Prop :=
  ∀ (s : State) (tag number : Byte) (v : Word), s.takesRequests →
    ((number.toNat = 0 ∨ 32 < number.toNat) →
      exec (.setParam tag number v) s = .next (State.commit (s.withReply 0xA0 tag [0x20, number, 0, 0, 0, 0]))) ∧
    (∀ old, number.toNat ∈ [1, 2, 3, 4, 5, 6, 8, 9, 26] → (s.seq.engine ≠ .idle ∨ s.queue.records ≠ []) →
      s.settings.params.get number.toNat = some old →
      exec (.setParam tag number v) s = .next (State.commit (s.withReply 0xA0 tag (0x14 :: number :: be32 old)))) ∧
    (1 ≤ number.toNat → number.toNat ≤ 32 →
      (number.toNat ∈ [1, 2, 3, 4, 5, 6, 8, 9, 26] → s.seq.engine = .idle ∧ s.queue.records = []) →
      ∃ (p : Params) (stored : Int),
        exec (.setParam tag number v) s = .next (State.commit (State.withReply
          { s with settings := { s.settings with params := p } } 0xA0 tag
          ((if stored = v.toInt then 0x00 else 0x01) :: number :: be32 stored))) ∧
        p.get number.toNat = some stored ∧
        (∀ k, k ≠ number.toNat → p.get k = s.settings.params.get k) ∧
        (∀ n lo hi dflt, (n, lo, hi, dflt) ∈ parameterTable → number.toNat = n → n ∉ [1, 2, 3, 4, 10, 11, 26, 27] →
          stored = max lo (min v.toInt hi)) ∧
        (number.toNat = 1 → stored =
          if max (-8000000) (min v.toInt 8000000) < s.settings.params.softXMax
          then max (-8000000) (min v.toInt 8000000) else s.settings.params.softXMax - 1) ∧
        (number.toNat = 2 → stored =
          if s.settings.params.softXMin < max (-8000000) (min v.toInt 8000000)
          then max (-8000000) (min v.toInt 8000000) else s.settings.params.softXMin + 1) ∧
        (number.toNat = 3 → stored =
          if max (-8000000) (min v.toInt 8000000) < s.settings.params.softYMax
          then max (-8000000) (min v.toInt 8000000) else s.settings.params.softYMax - 1) ∧
        (number.toNat = 4 → stored =
          if s.settings.params.softYMin < max (-8000000) (min v.toInt 8000000)
          then max (-8000000) (min v.toInt 8000000) else s.settings.params.softYMin + 1) ∧
        (number.toNat = 10 → stored = min (max 0 (min v.toInt 2048)) s.settings.params.pivotLimit) ∧
        (number.toNat = 11 → stored = max (max 0 (min v.toInt 32768)) s.settings.params.blendAngle) ∧
        (number.toNat = 26 → stored = (v.toNat % 16 : Nat)) ∧
        (number.toNat = 27 → stored = if v = 0 then 0 else 1) ∧
        (29 ≤ number.toNat → stored = v.toInt))

/-- SET_BAND (R115): an index above 7 is refused with BAD_ID and band 0's entry; the fields are brought into their ranges (R114), a ceiling
that would not stand strictly between its neighbours is refused with ORDER, and else the entry is stored. -/
def Obligations.SetBandKeepsOrder : Prop :=
  ∀ (s : State) (tag index : Byte) (ceiling bite frequency feedCap : Half), s.takesRequests →
    let e : BandEntry := ⟨max 1 ceiling.toNat, max 50 (min bite.toNat 4000), max 200 (min frequency.toNat 1200),
      max 10 (min feedCap.toNat 5000)⟩
    (8 ≤ index.toNat → exec (.setBand tag index ceiling bite frequency feedCap) s = .next (State.commit
      (s.withReply 0xA2 tag (0x20 :: 0 :: (s.classifier.bands[0]).bytes)))) ∧
    (∀ i : Fin 8, i.val = index.toNat →
      let below := ∀ j : Fin 8, j.val + 1 = i.val → (s.classifier.bands[j]).ceiling < e.ceiling
      let above := ∀ j : Fin 8, i.val + 1 = j.val → e.ceiling < (s.classifier.bands[j]).ceiling
      (below ∧ above → exec (.setBand tag index ceiling bite frequency feedCap) s = .next (State.commit (State.withReply
        { s with classifier := { s.classifier with bands := s.classifier.bands.set i.val e } } 0xA2 tag
        ((if e = ⟨ceiling.toNat, bite.toNat, frequency.toNat, feedCap.toNat⟩ then 0x00 else 0x01) :: index ::
          e.bytes)))) ∧
      (¬ (below ∧ above) → exec (.setBand tag index ceiling bite frequency feedCap) s = .next (State.commit
        (s.withReply 0xA2 tag (0x21 :: index :: (s.classifier.bands[i]).bytes)))))

/-- SET_TRIP (R155): a source above 14 is refused with BAD_ID; else the action is stored, codes above 4 as QUICK_STOP and below HALT as HALT
on sources 10 to 14, an input takes polarity and debounce time, at most 50 ms, and its line state anew, and the level agrees (R153). A line state
that changes starts or stops the debounce timer or, with a debounce time of 0, changes the condition at once (R147, R148); a changed debounce
time that the elapsed time has reached does so too, in cycles of the reference, 10,000 to a millisecond. A changed condition moves the source
(R150, R151). The level
after the action and the level in the end are each handed on where they change (R154); the TRIP record is set where the action changes the
level, and again where the source changes its state under an action that is not IGNORE (R159). That the action takes effect before polarity and
debounce time is the model's choice (notes/assumptions/12.md). -/
def Obligations.SetTripConfiguresSource : Prop :=
  ∀ (s : State) (tag action polarity debounce : Byte), s.takesRequests →
    (∀ index : Byte, 15 ≤ index.toNat → exec (.setTrip tag index action polarity debounce) s = .next (State.commit
      (s.withReply 0xA4 tag [0x20, 0, (s.trip.sources[0]).action.code, (s.trip.inputs[0]).polarity.code,
        byte (s.trip.inputs[0]).debounce, (s.trip.sources[0]).state.code, s.trip.level.code]))) ∧
    (∀ i : Fin 15, ∃ (u : State) (result : Byte),
      exec (.setTrip tag (byte i.val) action polarity debounce) s = .next (State.commit (u.withReply 0xA4 tag
        ([result, byte i.val, (u.trip.sources[i]).action.code] ++
          (if h : i.val < 8 then [(u.trip.inputs[i.val]).polarity.code, byte (u.trip.inputs[i.val]).debounce] else [0, 0]) ++
          [(u.trip.sources[i]).state.code, u.trip.level.code]))) ∧
      (u.trip.sources[i]).action.code.toNat = max (if 10 ≤ i.val then 3 else 0) (min action.toNat 4) ∧
      (8 ≤ i.val → u.trip.sources[i] = { s.trip.sources[i] with action := (u.trip.sources[i]).action } ∧
        u.trip.inputs = s.trip.inputs ∧
        (result = 0x00 ↔ (u.trip.sources[i]).action.code = action) ∧ (result = 0x00 ∨ result = 0x01)) ∧
      (∀ h : i.val < 8,
        (u.trip.inputs[i.val]).polarity = (if polarity = 0 then .activeHigh else .activeLow) ∧
        (u.trip.inputs[i.val]).debounce = min debounce.toNat 50 ∧
        (u.trip.inputs[i.val]).line = (if polarity = 0 then s.pins[i.val] else !s.pins[i.val]) ∧
        (result = 0x00 ↔ action.toNat ≤ 4 ∧ debounce.toNat ≤ 50) ∧ (result = 0x00 ∨ result = 0x01) ∧
        (let old := s.trip.inputs[i.val]
         let new := u.trip.inputs[i.val]
         let held := (s.trip.sources[i]).condition
         let now := (u.trip.sources[i]).condition
         (new.line ≠ old.line → new.line = held → new.timer = none ∧ now = held) ∧
         (new.line ≠ old.line → new.line ≠ held → new.debounce ≠ 0 → new.timer = some 0 ∧ now = held) ∧
         (new.line ≠ old.line → new.line ≠ held → new.debounce = 0 → new.timer = none ∧ now = new.line) ∧
         (new.line = old.line → (new.debounce = old.debounce ∨ ∀ e, old.timer = some e → e < new.debounce * 10000) →
           new.timer = old.timer ∧ now = held) ∧
         (∀ e, new.line = old.line → new.debounce ≠ old.debounce → old.timer = some e → new.debounce * 10000 ≤ e →
           new.timer = none ∧ now = new.line))) ∧
      (let before := s.trip.sources[i]
       let src := u.trip.sources[i]
       let moved := src.condition ≠ before.condition ∧ (src.condition = true ∨ before.state = .active)
       src.state = (if moved then if src.condition then .active
         else if src.action ∈ [Action.hold, .halt, .quickStop] then .latched else .clear else before.state) ∧
       src.count = (if src.condition ≠ before.condition ∧ src.condition = true then min (before.count + 1) 255
         else before.count)) ∧
      (∀ j : Fin 15, j ≠ i → u.trip.sources[j] = s.trip.sources[j]) ∧
      (∀ j : Fin 8, j.val ≠ i.val → u.trip.inputs[j] = s.trip.inputs[j]) ∧
      u.trip.level = levelOf u.trip.sources ∧
      (let acted : LevelChange :=
          ⟨s.trip.level, levelOf (s.trip.sources.set i.val { s.trip.sources[i] with action := (u.trip.sources[i]).action })⟩
        let handed := (if acted.after = acted.before then [] else [acted]) ++
          (if u.trip.level = acted.after then [] else [⟨acted.after, u.trip.level⟩])
        let first := if acted.after = acted.before then s.notice.trip
          else Pending.coalesce s.notice.trip ⟨i, (s.trip.sources[i]).state, acted.after, s.trip.slotSet i⟩
        u.seq = { s.seq with changes := s.seq.changes ++ handed } ∧
        u.bus = { s.bus with changes := s.bus.changes ++ handed } ∧
        u.notice = { s.notice with
          trip := if (u.trip.sources[i]).condition ≠ (s.trip.sources[i]).condition ∧
              ((u.trip.sources[i]).condition = true ∨ (s.trip.sources[i]).state = .active) ∧
              (u.trip.sources[i]).action ≠ .ignore
            then Pending.coalesce first ⟨i, (u.trip.sources[i]).state, u.trip.level, none⟩ else first }) ∧
      u.queue = s.queue ∧ u.interp = s.interp ∧
      u.stroke = s.stroke ∧ u.classifier = s.classifier ∧ u.settings = s.settings ∧ u.override = s.override ∧
      u.link = s.link)

/-- CLEAR_TRIPS (R157): every LATCHED source becomes CLEAR, its slot set with it, every other source stands, the level agrees (R153) and a
change of it is handed on once (R154), the TRIP record is set for each source cleared whose action is not IGNORE, in index order (R159), and
the reply counts the sources cleared and those still ACTIVE. -/
def Obligations.ClearTripsClearsLatched : Prop :=
  ∀ (s : State) (tag : Byte), s.takesRequests →
    ∃ u : State, exec (.clearTrips tag) s = .next (State.commit (u.withReply 0xA6 tag
        [0x00, byte (s.trip.sources.toList.countP fun src => src.state == .latched),
          byte (s.trip.sources.toList.countP fun src => src.state == .active), u.trip.level.code])) ∧
      (∀ i : Fin 15, u.trip.sources[i] = if (s.trip.sources[i]).state = .latched
        then { s.trip.sources[i] with state := .clear } else s.trip.sources[i]) ∧
      u.trip.faultSet = (if (s.trip.sources[13]).state = .latched then 0 else s.trip.faultSet) ∧
      u.trip.lostSet = (if (s.trip.sources[14]).state = .latched then 0 else s.trip.lostSet) ∧
      u.trip.level = levelOf u.trip.sources ∧ u.trip.inputs = s.trip.inputs ∧
      (let handed := if u.trip.level = s.trip.level then [] else [⟨s.trip.level, u.trip.level⟩];
        u.seq = { s.seq with changes := s.seq.changes ++ handed } ∧
        u.bus = { s.bus with changes := s.bus.changes ++ handed }) ∧
      u.notice = { s.notice with
        trip := (List.finRange 15).foldl (fun (p : Option (Pending TripContent)) i =>
          if (s.trip.sources[i]).state = .latched ∧ (s.trip.sources[i]).action ≠ .ignore
          then Pending.coalesce p ⟨i, .clear, u.trip.level, u.trip.slotSet i⟩ else p) s.notice.trip } ∧
      u.queue = s.queue ∧ u.interp = s.interp ∧ u.stroke = s.stroke ∧ u.classifier = s.classifier ∧
      u.settings = s.settings ∧ u.override = s.override ∧ u.link = s.link

/-- TARE (R107, R108): the first check that fails gives the refusal; accepted, a stroke stopped or stopping is started and owned by the tare,
one starting or stalled is waited for, and one running is measured at once. A stroke that becomes RUNNING begins the measurement; a window
counts when it opened at or after that (R108), the fourth gives AIR_FIGURE and TARE_DONE (R109), and a tare that owns the stroke stops it where
the engine is at rest (R111). A stall, the start timer, a stop and a frame on material fail it (R110). That SIDX_PULSE carries cycles of the
reference, which count into P, is the model's choice (notes/assumptions/9.md). -/
def Obligations.TareStartsMeasurement : Prop :=
  (∀ (s : State) (tag : Byte), s.takesRequests →
    (s.seq.engine ≠ .idle → s.activeRecord = none →
      exec (.tare tag) s = .next (State.commit (s.withReply 0xA7 tag [0x14]))) ∧
    (∀ r, s.activeRecord = some r → r.material = true →
      exec (.tare tag) s = .next (State.commit (s.withReply 0xA7 tag [0x1F]))) ∧
    ((s.seq.engine = .idle ∨ s.activeRecord ≠ none) → (∀ r, s.activeRecord = some r → r.material = false) →
      (s.stroke.tareInFlight = true → exec (.tare tag) s = .next (State.commit (s.withReply 0xA7 tag [0x13]))) ∧
      (s.stroke.tareInFlight = false → s.trip.level ∈ [TripLevel.halt, .quickStop] →
        exec (.tare tag) s = .next (State.commit (s.withReply 0xA7 tag [0x1C]))) ∧
      (s.stroke.tareInFlight = false → s.trip.level ∈ [TripLevel.none, .hold] →
        (s.stroke.state ∈ [StrokeState.stopped, .stopping] →
          ∃ u : State, exec (.tare tag) s = .next (State.commit (u.withReply 0xA7 tag [0x00])) ∧
            u.stroke.tareState = .waiting ∧ u.stroke.tare = some ⟨true, 0, 0, false⟩ ∧ u.stroke.state = .starting ∧
            u.stroke.startTimer = some s.settings.params.strokeStartTimeout ∧ u.stroke.stopTimer = none ∧
            u.queue = s.queue ∧ u.interp = s.interp ∧ u.seq.engine = s.seq.engine ∧ u.notice.tareDone = s.notice.tareDone ∧
            u.settings = s.settings ∧ u.link = s.link) ∧
        (s.stroke.state ∈ [StrokeState.starting, .stalled] →
          exec (.tare tag) s = .next (State.commit (State.withReply { s with
            stroke := { s.stroke with tareState := .waiting, tare := some ⟨false, 0, 0, false⟩ } } 0xA7 tag [0x00]))) ∧
        (s.stroke.state = .running →
          exec (.tare tag) s = .next (State.commit (State.withReply { s with
            stroke := { s.stroke with tareState := .measuring, tare := some ⟨false, 0, 0, false⟩ } } 0xA7 tag [0x00])))))) ∧
  (∀ (s : State) (w : Window) (cycles : Nat) (t : Tare), s.CompletesWindow w cycles → s.stroke.tare = some t →
    let fm := w.figure (w.p + cycles)
    let good := ((fm : Int) - s.stroke.fSet).natAbs * 10 ≤ s.stroke.fSet
    let lf := w.load (w.p + cycles)
    ∃ u : State, exec (.sidxPulse cycles) s = .next u.commit ∧
      (s.stroke.tareState = .waiting → t.windowCounts = false → good →
        s.stroke.state = .stalled ∨ (s.stroke.state = .starting ∧ s.stroke.good ≠ 0) →
        u.stroke.state = .running ∧ u.stroke.tareState = .measuring ∧
        u.stroke.tare = some { t with windowCounts := true }) ∧
      (s.stroke.tareState = .measuring → s.stroke.state = .running → s.stroke.fSet ≤ fm * 2 →
        (t.windowCounts = false → u.stroke.tareState = .measuring ∧ u.settings = s.settings ∧
          u.stroke.tare = some { t with windowCounts := true }) ∧
        (t.windowCounts = true → t.count < 3 → u.stroke.tareState = .measuring ∧ u.settings = s.settings ∧
          u.stroke.tare = some { t with count := t.count + 1, sum := t.sum + lf }) ∧
        (t.windowCounts = true → t.count = 3 →
          u.settings = { s.settings with params := { s.settings.params with airFigure := (t.sum + lf) / 4 } } ∧
          u.stroke.tareState = .doneOk ∧ u.stroke.tare = none ∧
          u.notice.tareDone = Pending.coalesce s.notice.tareDone ⟨.ok, (t.sum + lf) / 4⟩ ∧
          (t.owner = true ∧ s.seq.engine ∈ [Engine.idle, .halted, .aborted] → u.stroke.state = .stopping ∧
            u.stroke.stopTimer = some s.settings.params.strokeStopTimeout) ∧
          (¬ (t.owner = true ∧ s.seq.engine ∈ [Engine.idle, .halted, .aborted]) → u.stroke.state = .running))) ∧
      (s.stroke.tareState = .measuring → s.stroke.state = .running → fm * 2 < s.stroke.fSet → s.stroke.slow ≠ 0 →
        s.TareFails u)) ∧
  (∀ s : State, s.stroke.tareInFlight = true →
    (s.stroke.state = .starting → ∃ u : State, exec .startTimerExpiry s = .next u.commit ∧ s.TareFails u) ∧
    (s.stroke.state ∈ [StrokeState.starting, .running, .stalled] → s.takesRequests → s.seq.engine = .idle →
      ∀ tag : Byte, ∃ u : State,
        exec (.cancel tag) s = .next (State.commit (u.withReply 0x93 tag [0x00])) ∧ s.TareFails u) ∧
    (∀ r, s.bus.started = true → s.seq.engine ∈ [Engine.held, .halted] → s.queue.records.head? = some r →
      r.material = true → ∃ u : State, exec .frameBegin s = .next u.commit ∧ s.TareFails u))

/-- SAVE (R188) and the save's events (R189): an accepted SAVE takes the snapshot and the store is SAVING; each page written leads to the
next and page 14 to DONE_OK; a poll that times out and a byte refused fail the save; each end sets STORE_DONE. Without a save in flight the
events do nothing. While a save is in flight the page's write transfer and its poll are on the two-wire line (R189), the page address most
significant byte first and the poll with the device address for writing by the model's presumption (notes/assumptions/30.md); that one
poll stands for all, and that the line is empty once the save has ended, is its choice (notes/assumptions/34.md). -/
def Obligations.SaveWritesPages : Prop :=
  (∀ (s : State) (tag : Byte), s.takesRequests →
    (s.seq.engine ≠ .idle → exec (.save tag) s = .next (State.commit (s.withReply 0xAA tag [0x14]))) ∧
    (s.seq.engine = .idle → s.settings.present = false →
      exec (.save tag) s = .next (State.commit (s.withReply 0xAA tag [0x22]))) ∧
    (s.seq.engine = .idle → s.settings.present = true → s.settings.store = .saving →
      exec (.save tag) s = .next (State.commit (s.withReply 0xAA tag [0x13]))) ∧
    (s.seq.engine = .idle → s.settings.present = true → s.settings.store ≠ .saving →
      exec (.save tag) s = .next (State.commit (State.withReply
        { s with settings := { s.settings with store := .saving, save := some ⟨s.workingSet.image, 0⟩ } } 0xAA tag
        [0x00])))) ∧
  (∀ (s : State) (v : Save), s.settings.save = some v →
    (v.page < 14 → exec .savePageWritten s = .next (State.commit
      { s with settings := { s.settings with save := some ⟨v.image, v.page + 1⟩ } })) ∧
    (v.page = 14 → exec .savePageWritten s = .next (State.commit { s with
      settings := { s.settings with store := .doneOk, save := none }
      notice := { s.notice with storeDone := Pending.coalesce s.notice.storeDone .ok } })) ∧
    (∀ c, c = .savePollTimeout ∨ c = .saveByteRefused → exec c s = .next (State.commit { s with
      settings := { s.settings with store := .failed, save := none }
      notice := { s.notice with storeDone := Pending.coalesce s.notice.storeDone .failed } }))) ∧
  (∀ (s : State) (c : Instr), s.settings.save = none →
    (c = .savePageWritten ∨ c = .savePollTimeout ∨ c = .saveByteRefused) → exec c s = .next s.commit) ∧
  ∀ s : State, s.startup.phase = .started →
    (s.settings.save = none → s.commit.twoWire = []) ∧
    ∀ v, s.settings.save = some v → s.commit.twoWire =
      [.start, .addressWrite, .sent (byte (16 * v.page / 256)), .sent (byte (16 * v.page))] ++
        ((v.image.drop (16 * v.page)).take 16).map .sent ++ [.stop, .start, .addressWrite]
end

