-- ==== Sys2Proof/Laws/State.lean ====
section
/-! SUPPORT. One lemma per field per update of the state: a block replaced reads as the new one, and every other block as before. -/

namespace Sys2Proof.Machine

@[simp] theorem State.params_settings (s : State) : s.params = s.settings.params := rfl

@[simp] theorem State.setStartup_pending (s : State) (v : Startup) : (s.setStartup v).pending = s.pending := rfl
@[simp] theorem State.setStartup_startup (s : State) (v : Startup) : (s.setStartup v).startup = v := rfl
@[simp] theorem State.setStartup_pins (s : State) (v : Startup) : (s.setStartup v).pins = s.pins := rfl
@[simp] theorem State.setStartup_queue (s : State) (v : Startup) : (s.setStartup v).queue = s.queue := rfl
@[simp] theorem State.setStartup_override (s : State) (v : Startup) : (s.setStartup v).override = s.override := rfl
@[simp] theorem State.setStartup_interp (s : State) (v : Startup) : (s.setStartup v).interp = s.interp := rfl
@[simp] theorem State.setStartup_seq (s : State) (v : Startup) : (s.setStartup v).seq = s.seq := rfl
@[simp] theorem State.setStartup_stroke (s : State) (v : Startup) : (s.setStartup v).stroke = s.stroke := rfl
@[simp] theorem State.setStartup_classifier (s : State) (v : Startup) : (s.setStartup v).classifier = s.classifier := rfl
@[simp] theorem State.setStartup_bus (s : State) (v : Startup) : (s.setStartup v).bus = s.bus := rfl
@[simp] theorem State.setStartup_trip (s : State) (v : Startup) : (s.setStartup v).trip = s.trip := rfl
@[simp] theorem State.setStartup_link (s : State) (v : Startup) : (s.setStartup v).link = s.link := rfl
@[simp] theorem State.setStartup_notice (s : State) (v : Startup) : (s.setStartup v).notice = s.notice := rfl
@[simp] theorem State.setStartup_settings (s : State) (v : Startup) : (s.setStartup v).settings = s.settings := rfl
@[simp] theorem State.setStartup_outputs (s : State) (v : Startup) : (s.setStartup v).outputs = s.outputs := rfl
@[simp] theorem State.setStartup_attnFalls (s : State) (v : Startup) : (s.setStartup v).attnFalls = s.attnFalls := rfl
@[simp] theorem State.setStartup_twoWire (s : State) (v : Startup) : (s.setStartup v).twoWire = s.twoWire := rfl
@[simp] theorem State.setStartup_draws (s : State) (v : Startup) : (s.setStartup v).draws = s.draws := rfl

@[simp] theorem State.setPins_pending (s : State) (v : Vector Bool 8) : (s.setPins v).pending = s.pending := rfl
@[simp] theorem State.setPins_startup (s : State) (v : Vector Bool 8) : (s.setPins v).startup = s.startup := rfl
@[simp] theorem State.setPins_pins (s : State) (v : Vector Bool 8) : (s.setPins v).pins = v := rfl
@[simp] theorem State.setPins_queue (s : State) (v : Vector Bool 8) : (s.setPins v).queue = s.queue := rfl
@[simp] theorem State.setPins_override (s : State) (v : Vector Bool 8) : (s.setPins v).override = s.override := rfl
@[simp] theorem State.setPins_interp (s : State) (v : Vector Bool 8) : (s.setPins v).interp = s.interp := rfl
@[simp] theorem State.setPins_seq (s : State) (v : Vector Bool 8) : (s.setPins v).seq = s.seq := rfl
@[simp] theorem State.setPins_stroke (s : State) (v : Vector Bool 8) : (s.setPins v).stroke = s.stroke := rfl
@[simp] theorem State.setPins_classifier (s : State) (v : Vector Bool 8) : (s.setPins v).classifier = s.classifier := rfl
@[simp] theorem State.setPins_bus (s : State) (v : Vector Bool 8) : (s.setPins v).bus = s.bus := rfl
@[simp] theorem State.setPins_trip (s : State) (v : Vector Bool 8) : (s.setPins v).trip = s.trip := rfl
@[simp] theorem State.setPins_link (s : State) (v : Vector Bool 8) : (s.setPins v).link = s.link := rfl
@[simp] theorem State.setPins_notice (s : State) (v : Vector Bool 8) : (s.setPins v).notice = s.notice := rfl
@[simp] theorem State.setPins_settings (s : State) (v : Vector Bool 8) : (s.setPins v).settings = s.settings := rfl
@[simp] theorem State.setPins_outputs (s : State) (v : Vector Bool 8) : (s.setPins v).outputs = s.outputs := rfl
@[simp] theorem State.setPins_attnFalls (s : State) (v : Vector Bool 8) : (s.setPins v).attnFalls = s.attnFalls := rfl
@[simp] theorem State.setPins_twoWire (s : State) (v : Vector Bool 8) : (s.setPins v).twoWire = s.twoWire := rfl
@[simp] theorem State.setPins_draws (s : State) (v : Vector Bool 8) : (s.setPins v).draws = s.draws := rfl

@[simp] theorem State.setQueue_pending (s : State) (v : CutQueue) : (s.setQueue v).pending = s.pending := rfl
@[simp] theorem State.setQueue_startup (s : State) (v : CutQueue) : (s.setQueue v).startup = s.startup := rfl
@[simp] theorem State.setQueue_pins (s : State) (v : CutQueue) : (s.setQueue v).pins = s.pins := rfl
@[simp] theorem State.setQueue_queue (s : State) (v : CutQueue) : (s.setQueue v).queue = v := rfl
@[simp] theorem State.setQueue_override (s : State) (v : CutQueue) : (s.setQueue v).override = s.override := rfl
@[simp] theorem State.setQueue_interp (s : State) (v : CutQueue) : (s.setQueue v).interp = s.interp := rfl
@[simp] theorem State.setQueue_seq (s : State) (v : CutQueue) : (s.setQueue v).seq = s.seq := rfl
@[simp] theorem State.setQueue_stroke (s : State) (v : CutQueue) : (s.setQueue v).stroke = s.stroke := rfl
@[simp] theorem State.setQueue_classifier (s : State) (v : CutQueue) : (s.setQueue v).classifier = s.classifier := rfl
@[simp] theorem State.setQueue_bus (s : State) (v : CutQueue) : (s.setQueue v).bus = s.bus := rfl
@[simp] theorem State.setQueue_trip (s : State) (v : CutQueue) : (s.setQueue v).trip = s.trip := rfl
@[simp] theorem State.setQueue_link (s : State) (v : CutQueue) : (s.setQueue v).link = s.link := rfl
@[simp] theorem State.setQueue_notice (s : State) (v : CutQueue) : (s.setQueue v).notice = s.notice := rfl
@[simp] theorem State.setQueue_settings (s : State) (v : CutQueue) : (s.setQueue v).settings = s.settings := rfl
@[simp] theorem State.setQueue_outputs (s : State) (v : CutQueue) : (s.setQueue v).outputs = s.outputs := rfl
@[simp] theorem State.setQueue_attnFalls (s : State) (v : CutQueue) : (s.setQueue v).attnFalls = s.attnFalls := rfl
@[simp] theorem State.setQueue_twoWire (s : State) (v : CutQueue) : (s.setQueue v).twoWire = s.twoWire := rfl
@[simp] theorem State.setQueue_draws (s : State) (v : CutQueue) : (s.setQueue v).draws = s.draws := rfl

@[simp] theorem State.setOverride_pending (s : State) (v : Nat) : (s.setOverride v).pending = s.pending := rfl
@[simp] theorem State.setOverride_startup (s : State) (v : Nat) : (s.setOverride v).startup = s.startup := rfl
@[simp] theorem State.setOverride_pins (s : State) (v : Nat) : (s.setOverride v).pins = s.pins := rfl
@[simp] theorem State.setOverride_queue (s : State) (v : Nat) : (s.setOverride v).queue = s.queue := rfl
@[simp] theorem State.setOverride_override (s : State) (v : Nat) : (s.setOverride v).override = v := rfl
@[simp] theorem State.setOverride_interp (s : State) (v : Nat) : (s.setOverride v).interp = s.interp := rfl
@[simp] theorem State.setOverride_seq (s : State) (v : Nat) : (s.setOverride v).seq = s.seq := rfl
@[simp] theorem State.setOverride_stroke (s : State) (v : Nat) : (s.setOverride v).stroke = s.stroke := rfl
@[simp] theorem State.setOverride_classifier (s : State) (v : Nat) : (s.setOverride v).classifier = s.classifier := rfl
@[simp] theorem State.setOverride_bus (s : State) (v : Nat) : (s.setOverride v).bus = s.bus := rfl
@[simp] theorem State.setOverride_trip (s : State) (v : Nat) : (s.setOverride v).trip = s.trip := rfl
@[simp] theorem State.setOverride_link (s : State) (v : Nat) : (s.setOverride v).link = s.link := rfl
@[simp] theorem State.setOverride_notice (s : State) (v : Nat) : (s.setOverride v).notice = s.notice := rfl
@[simp] theorem State.setOverride_settings (s : State) (v : Nat) : (s.setOverride v).settings = s.settings := rfl
@[simp] theorem State.setOverride_outputs (s : State) (v : Nat) : (s.setOverride v).outputs = s.outputs := rfl
@[simp] theorem State.setOverride_attnFalls (s : State) (v : Nat) : (s.setOverride v).attnFalls = s.attnFalls := rfl
@[simp] theorem State.setOverride_twoWire (s : State) (v : Nat) : (s.setOverride v).twoWire = s.twoWire := rfl
@[simp] theorem State.setOverride_draws (s : State) (v : Nat) : (s.setOverride v).draws = s.draws := rfl

@[simp] theorem State.setInterp_pending (s : State) (v : Interpolator) : (s.setInterp v).pending = s.pending := rfl
@[simp] theorem State.setInterp_startup (s : State) (v : Interpolator) : (s.setInterp v).startup = s.startup := rfl
@[simp] theorem State.setInterp_pins (s : State) (v : Interpolator) : (s.setInterp v).pins = s.pins := rfl
@[simp] theorem State.setInterp_queue (s : State) (v : Interpolator) : (s.setInterp v).queue = s.queue := rfl
@[simp] theorem State.setInterp_override (s : State) (v : Interpolator) : (s.setInterp v).override = s.override := rfl
@[simp] theorem State.setInterp_interp (s : State) (v : Interpolator) : (s.setInterp v).interp = v := rfl
@[simp] theorem State.setInterp_seq (s : State) (v : Interpolator) : (s.setInterp v).seq = s.seq := rfl
@[simp] theorem State.setInterp_stroke (s : State) (v : Interpolator) : (s.setInterp v).stroke = s.stroke := rfl
@[simp] theorem State.setInterp_classifier (s : State) (v : Interpolator) : (s.setInterp v).classifier = s.classifier := rfl
@[simp] theorem State.setInterp_bus (s : State) (v : Interpolator) : (s.setInterp v).bus = s.bus := rfl
@[simp] theorem State.setInterp_trip (s : State) (v : Interpolator) : (s.setInterp v).trip = s.trip := rfl
@[simp] theorem State.setInterp_link (s : State) (v : Interpolator) : (s.setInterp v).link = s.link := rfl
@[simp] theorem State.setInterp_notice (s : State) (v : Interpolator) : (s.setInterp v).notice = s.notice := rfl
@[simp] theorem State.setInterp_settings (s : State) (v : Interpolator) : (s.setInterp v).settings = s.settings := rfl
@[simp] theorem State.setInterp_outputs (s : State) (v : Interpolator) : (s.setInterp v).outputs = s.outputs := rfl
@[simp] theorem State.setInterp_attnFalls (s : State) (v : Interpolator) : (s.setInterp v).attnFalls = s.attnFalls := rfl
@[simp] theorem State.setInterp_twoWire (s : State) (v : Interpolator) : (s.setInterp v).twoWire = s.twoWire := rfl
@[simp] theorem State.setInterp_draws (s : State) (v : Interpolator) : (s.setInterp v).draws = s.draws := rfl

@[simp] theorem State.setSeq_pending (s : State) (v : Sequencer) : (s.setSeq v).pending = s.pending := rfl
@[simp] theorem State.setSeq_startup (s : State) (v : Sequencer) : (s.setSeq v).startup = s.startup := rfl
@[simp] theorem State.setSeq_pins (s : State) (v : Sequencer) : (s.setSeq v).pins = s.pins := rfl
@[simp] theorem State.setSeq_queue (s : State) (v : Sequencer) : (s.setSeq v).queue = s.queue := rfl
@[simp] theorem State.setSeq_override (s : State) (v : Sequencer) : (s.setSeq v).override = s.override := rfl
@[simp] theorem State.setSeq_interp (s : State) (v : Sequencer) : (s.setSeq v).interp = s.interp := rfl
@[simp] theorem State.setSeq_seq (s : State) (v : Sequencer) : (s.setSeq v).seq = v := rfl
@[simp] theorem State.setSeq_stroke (s : State) (v : Sequencer) : (s.setSeq v).stroke = s.stroke := rfl
@[simp] theorem State.setSeq_classifier (s : State) (v : Sequencer) : (s.setSeq v).classifier = s.classifier := rfl
@[simp] theorem State.setSeq_bus (s : State) (v : Sequencer) : (s.setSeq v).bus = s.bus := rfl
@[simp] theorem State.setSeq_trip (s : State) (v : Sequencer) : (s.setSeq v).trip = s.trip := rfl
@[simp] theorem State.setSeq_link (s : State) (v : Sequencer) : (s.setSeq v).link = s.link := rfl
@[simp] theorem State.setSeq_notice (s : State) (v : Sequencer) : (s.setSeq v).notice = s.notice := rfl
@[simp] theorem State.setSeq_settings (s : State) (v : Sequencer) : (s.setSeq v).settings = s.settings := rfl
@[simp] theorem State.setSeq_outputs (s : State) (v : Sequencer) : (s.setSeq v).outputs = s.outputs := rfl
@[simp] theorem State.setSeq_attnFalls (s : State) (v : Sequencer) : (s.setSeq v).attnFalls = s.attnFalls := rfl
@[simp] theorem State.setSeq_twoWire (s : State) (v : Sequencer) : (s.setSeq v).twoWire = s.twoWire := rfl
@[simp] theorem State.setSeq_draws (s : State) (v : Sequencer) : (s.setSeq v).draws = s.draws := rfl

@[simp] theorem State.setStroke_pending (s : State) (v : StrokeUnit) : (s.setStroke v).pending = s.pending := rfl
@[simp] theorem State.setStroke_startup (s : State) (v : StrokeUnit) : (s.setStroke v).startup = s.startup := rfl
@[simp] theorem State.setStroke_pins (s : State) (v : StrokeUnit) : (s.setStroke v).pins = s.pins := rfl
@[simp] theorem State.setStroke_queue (s : State) (v : StrokeUnit) : (s.setStroke v).queue = s.queue := rfl
@[simp] theorem State.setStroke_override (s : State) (v : StrokeUnit) : (s.setStroke v).override = s.override := rfl
@[simp] theorem State.setStroke_interp (s : State) (v : StrokeUnit) : (s.setStroke v).interp = s.interp := rfl
@[simp] theorem State.setStroke_seq (s : State) (v : StrokeUnit) : (s.setStroke v).seq = s.seq := rfl
@[simp] theorem State.setStroke_stroke (s : State) (v : StrokeUnit) : (s.setStroke v).stroke = v := rfl
@[simp] theorem State.setStroke_classifier (s : State) (v : StrokeUnit) : (s.setStroke v).classifier = s.classifier := rfl
@[simp] theorem State.setStroke_bus (s : State) (v : StrokeUnit) : (s.setStroke v).bus = s.bus := rfl
@[simp] theorem State.setStroke_trip (s : State) (v : StrokeUnit) : (s.setStroke v).trip = s.trip := rfl
@[simp] theorem State.setStroke_link (s : State) (v : StrokeUnit) : (s.setStroke v).link = s.link := rfl
@[simp] theorem State.setStroke_notice (s : State) (v : StrokeUnit) : (s.setStroke v).notice = s.notice := rfl
@[simp] theorem State.setStroke_settings (s : State) (v : StrokeUnit) : (s.setStroke v).settings = s.settings := rfl
@[simp] theorem State.setStroke_outputs (s : State) (v : StrokeUnit) : (s.setStroke v).outputs = s.outputs := rfl
@[simp] theorem State.setStroke_attnFalls (s : State) (v : StrokeUnit) : (s.setStroke v).attnFalls = s.attnFalls := rfl
@[simp] theorem State.setStroke_twoWire (s : State) (v : StrokeUnit) : (s.setStroke v).twoWire = s.twoWire := rfl
@[simp] theorem State.setStroke_draws (s : State) (v : StrokeUnit) : (s.setStroke v).draws = s.draws := rfl

@[simp] theorem State.setClassifier_pending (s : State) (v : Classifier) : (s.setClassifier v).pending = s.pending := rfl
@[simp] theorem State.setClassifier_startup (s : State) (v : Classifier) : (s.setClassifier v).startup = s.startup := rfl
@[simp] theorem State.setClassifier_pins (s : State) (v : Classifier) : (s.setClassifier v).pins = s.pins := rfl
@[simp] theorem State.setClassifier_queue (s : State) (v : Classifier) : (s.setClassifier v).queue = s.queue := rfl
@[simp] theorem State.setClassifier_override (s : State) (v : Classifier) : (s.setClassifier v).override = s.override := rfl
@[simp] theorem State.setClassifier_interp (s : State) (v : Classifier) : (s.setClassifier v).interp = s.interp := rfl
@[simp] theorem State.setClassifier_seq (s : State) (v : Classifier) : (s.setClassifier v).seq = s.seq := rfl
@[simp] theorem State.setClassifier_stroke (s : State) (v : Classifier) : (s.setClassifier v).stroke = s.stroke := rfl
@[simp] theorem State.setClassifier_classifier (s : State) (v : Classifier) : (s.setClassifier v).classifier = v := rfl
@[simp] theorem State.setClassifier_bus (s : State) (v : Classifier) : (s.setClassifier v).bus = s.bus := rfl
@[simp] theorem State.setClassifier_trip (s : State) (v : Classifier) : (s.setClassifier v).trip = s.trip := rfl
@[simp] theorem State.setClassifier_link (s : State) (v : Classifier) : (s.setClassifier v).link = s.link := rfl
@[simp] theorem State.setClassifier_notice (s : State) (v : Classifier) : (s.setClassifier v).notice = s.notice := rfl
@[simp] theorem State.setClassifier_settings (s : State) (v : Classifier) : (s.setClassifier v).settings = s.settings := rfl
@[simp] theorem State.setClassifier_outputs (s : State) (v : Classifier) : (s.setClassifier v).outputs = s.outputs := rfl
@[simp] theorem State.setClassifier_attnFalls (s : State) (v : Classifier) : (s.setClassifier v).attnFalls = s.attnFalls := rfl
@[simp] theorem State.setClassifier_twoWire (s : State) (v : Classifier) : (s.setClassifier v).twoWire = s.twoWire := rfl
@[simp] theorem State.setClassifier_draws (s : State) (v : Classifier) : (s.setClassifier v).draws = s.draws := rfl

@[simp] theorem State.setBus_pending (s : State) (v : Bus) : (s.setBus v).pending = s.pending := rfl
@[simp] theorem State.setBus_startup (s : State) (v : Bus) : (s.setBus v).startup = s.startup := rfl
@[simp] theorem State.setBus_pins (s : State) (v : Bus) : (s.setBus v).pins = s.pins := rfl
@[simp] theorem State.setBus_queue (s : State) (v : Bus) : (s.setBus v).queue = s.queue := rfl
@[simp] theorem State.setBus_override (s : State) (v : Bus) : (s.setBus v).override = s.override := rfl
@[simp] theorem State.setBus_interp (s : State) (v : Bus) : (s.setBus v).interp = s.interp := rfl
@[simp] theorem State.setBus_seq (s : State) (v : Bus) : (s.setBus v).seq = s.seq := rfl
@[simp] theorem State.setBus_stroke (s : State) (v : Bus) : (s.setBus v).stroke = s.stroke := rfl
@[simp] theorem State.setBus_classifier (s : State) (v : Bus) : (s.setBus v).classifier = s.classifier := rfl
@[simp] theorem State.setBus_bus (s : State) (v : Bus) : (s.setBus v).bus = v := rfl
@[simp] theorem State.setBus_trip (s : State) (v : Bus) : (s.setBus v).trip = s.trip := rfl
@[simp] theorem State.setBus_link (s : State) (v : Bus) : (s.setBus v).link = s.link := rfl
@[simp] theorem State.setBus_notice (s : State) (v : Bus) : (s.setBus v).notice = s.notice := rfl
@[simp] theorem State.setBus_settings (s : State) (v : Bus) : (s.setBus v).settings = s.settings := rfl
@[simp] theorem State.setBus_outputs (s : State) (v : Bus) : (s.setBus v).outputs = s.outputs := rfl
@[simp] theorem State.setBus_attnFalls (s : State) (v : Bus) : (s.setBus v).attnFalls = s.attnFalls := rfl
@[simp] theorem State.setBus_twoWire (s : State) (v : Bus) : (s.setBus v).twoWire = s.twoWire := rfl
@[simp] theorem State.setBus_draws (s : State) (v : Bus) : (s.setBus v).draws = s.draws := rfl

@[simp] theorem State.setTrip_pending (s : State) (v : TripUnit) : (s.setTrip v).pending = s.pending := rfl
@[simp] theorem State.setTrip_startup (s : State) (v : TripUnit) : (s.setTrip v).startup = s.startup := rfl
@[simp] theorem State.setTrip_pins (s : State) (v : TripUnit) : (s.setTrip v).pins = s.pins := rfl
@[simp] theorem State.setTrip_queue (s : State) (v : TripUnit) : (s.setTrip v).queue = s.queue := rfl
@[simp] theorem State.setTrip_override (s : State) (v : TripUnit) : (s.setTrip v).override = s.override := rfl
@[simp] theorem State.setTrip_interp (s : State) (v : TripUnit) : (s.setTrip v).interp = s.interp := rfl
@[simp] theorem State.setTrip_seq (s : State) (v : TripUnit) : (s.setTrip v).seq = s.seq := rfl
@[simp] theorem State.setTrip_stroke (s : State) (v : TripUnit) : (s.setTrip v).stroke = s.stroke := rfl
@[simp] theorem State.setTrip_classifier (s : State) (v : TripUnit) : (s.setTrip v).classifier = s.classifier := rfl
@[simp] theorem State.setTrip_bus (s : State) (v : TripUnit) : (s.setTrip v).bus = s.bus := rfl
@[simp] theorem State.setTrip_trip (s : State) (v : TripUnit) : (s.setTrip v).trip = v := rfl
@[simp] theorem State.setTrip_link (s : State) (v : TripUnit) : (s.setTrip v).link = s.link := rfl
@[simp] theorem State.setTrip_notice (s : State) (v : TripUnit) : (s.setTrip v).notice = s.notice := rfl
@[simp] theorem State.setTrip_settings (s : State) (v : TripUnit) : (s.setTrip v).settings = s.settings := rfl
@[simp] theorem State.setTrip_outputs (s : State) (v : TripUnit) : (s.setTrip v).outputs = s.outputs := rfl
@[simp] theorem State.setTrip_attnFalls (s : State) (v : TripUnit) : (s.setTrip v).attnFalls = s.attnFalls := rfl
@[simp] theorem State.setTrip_twoWire (s : State) (v : TripUnit) : (s.setTrip v).twoWire = s.twoWire := rfl
@[simp] theorem State.setTrip_draws (s : State) (v : TripUnit) : (s.setTrip v).draws = s.draws := rfl

@[simp] theorem State.setLink_pending (s : State) (v : Link) : (s.setLink v).pending = s.pending := rfl
@[simp] theorem State.setLink_startup (s : State) (v : Link) : (s.setLink v).startup = s.startup := rfl
@[simp] theorem State.setLink_pins (s : State) (v : Link) : (s.setLink v).pins = s.pins := rfl
@[simp] theorem State.setLink_queue (s : State) (v : Link) : (s.setLink v).queue = s.queue := rfl
@[simp] theorem State.setLink_override (s : State) (v : Link) : (s.setLink v).override = s.override := rfl
@[simp] theorem State.setLink_interp (s : State) (v : Link) : (s.setLink v).interp = s.interp := rfl
@[simp] theorem State.setLink_seq (s : State) (v : Link) : (s.setLink v).seq = s.seq := rfl
@[simp] theorem State.setLink_stroke (s : State) (v : Link) : (s.setLink v).stroke = s.stroke := rfl
@[simp] theorem State.setLink_classifier (s : State) (v : Link) : (s.setLink v).classifier = s.classifier := rfl
@[simp] theorem State.setLink_bus (s : State) (v : Link) : (s.setLink v).bus = s.bus := rfl
@[simp] theorem State.setLink_trip (s : State) (v : Link) : (s.setLink v).trip = s.trip := rfl
@[simp] theorem State.setLink_link (s : State) (v : Link) : (s.setLink v).link = v := rfl
@[simp] theorem State.setLink_notice (s : State) (v : Link) : (s.setLink v).notice = s.notice := rfl
@[simp] theorem State.setLink_settings (s : State) (v : Link) : (s.setLink v).settings = s.settings := rfl
@[simp] theorem State.setLink_outputs (s : State) (v : Link) : (s.setLink v).outputs = s.outputs := rfl
@[simp] theorem State.setLink_attnFalls (s : State) (v : Link) : (s.setLink v).attnFalls = s.attnFalls := rfl
@[simp] theorem State.setLink_twoWire (s : State) (v : Link) : (s.setLink v).twoWire = s.twoWire := rfl
@[simp] theorem State.setLink_draws (s : State) (v : Link) : (s.setLink v).draws = s.draws := rfl

@[simp] theorem State.setNotice_pending (s : State) (v : NoticeUnit) : (s.setNotice v).pending = s.pending := rfl
@[simp] theorem State.setNotice_startup (s : State) (v : NoticeUnit) : (s.setNotice v).startup = s.startup := rfl
@[simp] theorem State.setNotice_pins (s : State) (v : NoticeUnit) : (s.setNotice v).pins = s.pins := rfl
@[simp] theorem State.setNotice_queue (s : State) (v : NoticeUnit) : (s.setNotice v).queue = s.queue := rfl
@[simp] theorem State.setNotice_override (s : State) (v : NoticeUnit) : (s.setNotice v).override = s.override := rfl
@[simp] theorem State.setNotice_interp (s : State) (v : NoticeUnit) : (s.setNotice v).interp = s.interp := rfl
@[simp] theorem State.setNotice_seq (s : State) (v : NoticeUnit) : (s.setNotice v).seq = s.seq := rfl
@[simp] theorem State.setNotice_stroke (s : State) (v : NoticeUnit) : (s.setNotice v).stroke = s.stroke := rfl
@[simp] theorem State.setNotice_classifier (s : State) (v : NoticeUnit) : (s.setNotice v).classifier = s.classifier := rfl
@[simp] theorem State.setNotice_bus (s : State) (v : NoticeUnit) : (s.setNotice v).bus = s.bus := rfl
@[simp] theorem State.setNotice_trip (s : State) (v : NoticeUnit) : (s.setNotice v).trip = s.trip := rfl
@[simp] theorem State.setNotice_link (s : State) (v : NoticeUnit) : (s.setNotice v).link = s.link := rfl
@[simp] theorem State.setNotice_notice (s : State) (v : NoticeUnit) : (s.setNotice v).notice = v := rfl
@[simp] theorem State.setNotice_settings (s : State) (v : NoticeUnit) : (s.setNotice v).settings = s.settings := rfl
@[simp] theorem State.setNotice_outputs (s : State) (v : NoticeUnit) : (s.setNotice v).outputs = s.outputs := rfl
@[simp] theorem State.setNotice_attnFalls (s : State) (v : NoticeUnit) : (s.setNotice v).attnFalls = s.attnFalls := rfl
@[simp] theorem State.setNotice_twoWire (s : State) (v : NoticeUnit) : (s.setNotice v).twoWire = s.twoWire := rfl
@[simp] theorem State.setNotice_draws (s : State) (v : NoticeUnit) : (s.setNotice v).draws = s.draws := rfl

@[simp] theorem State.setSettings_pending (s : State) (v : Settings) : (s.setSettings v).pending = s.pending := rfl
@[simp] theorem State.setSettings_startup (s : State) (v : Settings) : (s.setSettings v).startup = s.startup := rfl
@[simp] theorem State.setSettings_pins (s : State) (v : Settings) : (s.setSettings v).pins = s.pins := rfl
@[simp] theorem State.setSettings_queue (s : State) (v : Settings) : (s.setSettings v).queue = s.queue := rfl
@[simp] theorem State.setSettings_override (s : State) (v : Settings) : (s.setSettings v).override = s.override := rfl
@[simp] theorem State.setSettings_interp (s : State) (v : Settings) : (s.setSettings v).interp = s.interp := rfl
@[simp] theorem State.setSettings_seq (s : State) (v : Settings) : (s.setSettings v).seq = s.seq := rfl
@[simp] theorem State.setSettings_stroke (s : State) (v : Settings) : (s.setSettings v).stroke = s.stroke := rfl
@[simp] theorem State.setSettings_classifier (s : State) (v : Settings) : (s.setSettings v).classifier = s.classifier := rfl
@[simp] theorem State.setSettings_bus (s : State) (v : Settings) : (s.setSettings v).bus = s.bus := rfl
@[simp] theorem State.setSettings_trip (s : State) (v : Settings) : (s.setSettings v).trip = s.trip := rfl
@[simp] theorem State.setSettings_link (s : State) (v : Settings) : (s.setSettings v).link = s.link := rfl
@[simp] theorem State.setSettings_notice (s : State) (v : Settings) : (s.setSettings v).notice = s.notice := rfl
@[simp] theorem State.setSettings_settings (s : State) (v : Settings) : (s.setSettings v).settings = v := rfl
@[simp] theorem State.setSettings_outputs (s : State) (v : Settings) : (s.setSettings v).outputs = s.outputs := rfl
@[simp] theorem State.setSettings_attnFalls (s : State) (v : Settings) : (s.setSettings v).attnFalls = s.attnFalls := rfl
@[simp] theorem State.setSettings_twoWire (s : State) (v : Settings) : (s.setSettings v).twoWire = s.twoWire := rfl
@[simp] theorem State.setSettings_draws (s : State) (v : Settings) : (s.setSettings v).draws = s.draws := rfl

@[simp] theorem State.setOutputs_pending (s : State) (v : Outputs) : (s.setOutputs v).pending = s.pending := rfl
@[simp] theorem State.setOutputs_startup (s : State) (v : Outputs) : (s.setOutputs v).startup = s.startup := rfl
@[simp] theorem State.setOutputs_pins (s : State) (v : Outputs) : (s.setOutputs v).pins = s.pins := rfl
@[simp] theorem State.setOutputs_queue (s : State) (v : Outputs) : (s.setOutputs v).queue = s.queue := rfl
@[simp] theorem State.setOutputs_override (s : State) (v : Outputs) : (s.setOutputs v).override = s.override := rfl
@[simp] theorem State.setOutputs_interp (s : State) (v : Outputs) : (s.setOutputs v).interp = s.interp := rfl
@[simp] theorem State.setOutputs_seq (s : State) (v : Outputs) : (s.setOutputs v).seq = s.seq := rfl
@[simp] theorem State.setOutputs_stroke (s : State) (v : Outputs) : (s.setOutputs v).stroke = s.stroke := rfl
@[simp] theorem State.setOutputs_classifier (s : State) (v : Outputs) : (s.setOutputs v).classifier = s.classifier := rfl
@[simp] theorem State.setOutputs_bus (s : State) (v : Outputs) : (s.setOutputs v).bus = s.bus := rfl
@[simp] theorem State.setOutputs_trip (s : State) (v : Outputs) : (s.setOutputs v).trip = s.trip := rfl
@[simp] theorem State.setOutputs_link (s : State) (v : Outputs) : (s.setOutputs v).link = s.link := rfl
@[simp] theorem State.setOutputs_notice (s : State) (v : Outputs) : (s.setOutputs v).notice = s.notice := rfl
@[simp] theorem State.setOutputs_settings (s : State) (v : Outputs) : (s.setOutputs v).settings = s.settings := rfl
@[simp] theorem State.setOutputs_outputs (s : State) (v : Outputs) : (s.setOutputs v).outputs = v := rfl
@[simp] theorem State.setOutputs_attnFalls (s : State) (v : Outputs) : (s.setOutputs v).attnFalls = s.attnFalls := rfl
@[simp] theorem State.setOutputs_twoWire (s : State) (v : Outputs) : (s.setOutputs v).twoWire = s.twoWire := rfl
@[simp] theorem State.setOutputs_draws (s : State) (v : Outputs) : (s.setOutputs v).draws = s.draws := rfl

@[simp] theorem State.setAttnFalls_pending (s : State) (v : Nat) : (s.setAttnFalls v).pending = s.pending := rfl
@[simp] theorem State.setAttnFalls_startup (s : State) (v : Nat) : (s.setAttnFalls v).startup = s.startup := rfl
@[simp] theorem State.setAttnFalls_pins (s : State) (v : Nat) : (s.setAttnFalls v).pins = s.pins := rfl
@[simp] theorem State.setAttnFalls_queue (s : State) (v : Nat) : (s.setAttnFalls v).queue = s.queue := rfl
@[simp] theorem State.setAttnFalls_override (s : State) (v : Nat) : (s.setAttnFalls v).override = s.override := rfl
@[simp] theorem State.setAttnFalls_interp (s : State) (v : Nat) : (s.setAttnFalls v).interp = s.interp := rfl
@[simp] theorem State.setAttnFalls_seq (s : State) (v : Nat) : (s.setAttnFalls v).seq = s.seq := rfl
@[simp] theorem State.setAttnFalls_stroke (s : State) (v : Nat) : (s.setAttnFalls v).stroke = s.stroke := rfl
@[simp] theorem State.setAttnFalls_classifier (s : State) (v : Nat) : (s.setAttnFalls v).classifier = s.classifier := rfl
@[simp] theorem State.setAttnFalls_bus (s : State) (v : Nat) : (s.setAttnFalls v).bus = s.bus := rfl
@[simp] theorem State.setAttnFalls_trip (s : State) (v : Nat) : (s.setAttnFalls v).trip = s.trip := rfl
@[simp] theorem State.setAttnFalls_link (s : State) (v : Nat) : (s.setAttnFalls v).link = s.link := rfl
@[simp] theorem State.setAttnFalls_notice (s : State) (v : Nat) : (s.setAttnFalls v).notice = s.notice := rfl
@[simp] theorem State.setAttnFalls_settings (s : State) (v : Nat) : (s.setAttnFalls v).settings = s.settings := rfl
@[simp] theorem State.setAttnFalls_outputs (s : State) (v : Nat) : (s.setAttnFalls v).outputs = s.outputs := rfl
@[simp] theorem State.setAttnFalls_attnFalls (s : State) (v : Nat) : (s.setAttnFalls v).attnFalls = v := rfl
@[simp] theorem State.setAttnFalls_twoWire (s : State) (v : Nat) : (s.setAttnFalls v).twoWire = s.twoWire := rfl
@[simp] theorem State.setAttnFalls_draws (s : State) (v : Nat) : (s.setAttnFalls v).draws = s.draws := rfl

@[simp] theorem State.setTwoWire_pending (s : State) (v : List WireItem) : (s.setTwoWire v).pending = s.pending := rfl
@[simp] theorem State.setTwoWire_startup (s : State) (v : List WireItem) : (s.setTwoWire v).startup = s.startup := rfl
@[simp] theorem State.setTwoWire_pins (s : State) (v : List WireItem) : (s.setTwoWire v).pins = s.pins := rfl
@[simp] theorem State.setTwoWire_queue (s : State) (v : List WireItem) : (s.setTwoWire v).queue = s.queue := rfl
@[simp] theorem State.setTwoWire_override (s : State) (v : List WireItem) : (s.setTwoWire v).override = s.override := rfl
@[simp] theorem State.setTwoWire_interp (s : State) (v : List WireItem) : (s.setTwoWire v).interp = s.interp := rfl
@[simp] theorem State.setTwoWire_seq (s : State) (v : List WireItem) : (s.setTwoWire v).seq = s.seq := rfl
@[simp] theorem State.setTwoWire_stroke (s : State) (v : List WireItem) : (s.setTwoWire v).stroke = s.stroke := rfl
@[simp] theorem State.setTwoWire_classifier (s : State) (v : List WireItem) : (s.setTwoWire v).classifier = s.classifier := rfl
@[simp] theorem State.setTwoWire_bus (s : State) (v : List WireItem) : (s.setTwoWire v).bus = s.bus := rfl
@[simp] theorem State.setTwoWire_trip (s : State) (v : List WireItem) : (s.setTwoWire v).trip = s.trip := rfl
@[simp] theorem State.setTwoWire_link (s : State) (v : List WireItem) : (s.setTwoWire v).link = s.link := rfl
@[simp] theorem State.setTwoWire_notice (s : State) (v : List WireItem) : (s.setTwoWire v).notice = s.notice := rfl
@[simp] theorem State.setTwoWire_settings (s : State) (v : List WireItem) : (s.setTwoWire v).settings = s.settings := rfl
@[simp] theorem State.setTwoWire_outputs (s : State) (v : List WireItem) : (s.setTwoWire v).outputs = s.outputs := rfl
@[simp] theorem State.setTwoWire_attnFalls (s : State) (v : List WireItem) : (s.setTwoWire v).attnFalls = s.attnFalls := rfl
@[simp] theorem State.setTwoWire_twoWire (s : State) (v : List WireItem) : (s.setTwoWire v).twoWire = v := rfl
@[simp] theorem State.setTwoWire_draws (s : State) (v : List WireItem) : (s.setTwoWire v).draws = s.draws := rfl

@[simp] theorem State.setDraws_pending (s : State) (v : Nat) : (s.setDraws v).pending = s.pending := rfl
@[simp] theorem State.setDraws_startup (s : State) (v : Nat) : (s.setDraws v).startup = s.startup := rfl
@[simp] theorem State.setDraws_pins (s : State) (v : Nat) : (s.setDraws v).pins = s.pins := rfl
@[simp] theorem State.setDraws_queue (s : State) (v : Nat) : (s.setDraws v).queue = s.queue := rfl
@[simp] theorem State.setDraws_override (s : State) (v : Nat) : (s.setDraws v).override = s.override := rfl
@[simp] theorem State.setDraws_interp (s : State) (v : Nat) : (s.setDraws v).interp = s.interp := rfl
@[simp] theorem State.setDraws_seq (s : State) (v : Nat) : (s.setDraws v).seq = s.seq := rfl
@[simp] theorem State.setDraws_stroke (s : State) (v : Nat) : (s.setDraws v).stroke = s.stroke := rfl
@[simp] theorem State.setDraws_classifier (s : State) (v : Nat) : (s.setDraws v).classifier = s.classifier := rfl
@[simp] theorem State.setDraws_bus (s : State) (v : Nat) : (s.setDraws v).bus = s.bus := rfl
@[simp] theorem State.setDraws_trip (s : State) (v : Nat) : (s.setDraws v).trip = s.trip := rfl
@[simp] theorem State.setDraws_link (s : State) (v : Nat) : (s.setDraws v).link = s.link := rfl
@[simp] theorem State.setDraws_notice (s : State) (v : Nat) : (s.setDraws v).notice = s.notice := rfl
@[simp] theorem State.setDraws_settings (s : State) (v : Nat) : (s.setDraws v).settings = s.settings := rfl
@[simp] theorem State.setDraws_outputs (s : State) (v : Nat) : (s.setDraws v).outputs = s.outputs := rfl
@[simp] theorem State.setDraws_attnFalls (s : State) (v : Nat) : (s.setDraws v).attnFalls = s.attnFalls := rfl
@[simp] theorem State.setDraws_twoWire (s : State) (v : Nat) : (s.setDraws v).twoWire = s.twoWire := rfl
@[simp] theorem State.setDraws_draws (s : State) (v : Nat) : (s.setDraws v).draws = v := rfl

/-! A source or an input replaced in the trip unit, and a slot in the bus. -/

@[simp] theorem TripUnit.putSource_sources (t : TripUnit) (i : Fin 15) (v : Source) :
    (t.putSource i v).sources = t.sources.set i.val v := rfl
@[simp] theorem TripUnit.putSource_inputs (t : TripUnit) (i : Fin 15) (v : Source) : (t.putSource i v).inputs = t.inputs := rfl
@[simp] theorem TripUnit.putSource_faultSet (t : TripUnit) (i : Fin 15) (v : Source) : (t.putSource i v).faultSet = t.faultSet := rfl
@[simp] theorem TripUnit.putSource_lostSet (t : TripUnit) (i : Fin 15) (v : Source) : (t.putSource i v).lostSet = t.lostSet := rfl
@[simp] theorem TripUnit.putSource_level (t : TripUnit) (i : Fin 15) (v : Source) : (t.putSource i v).level = t.level := rfl
@[simp] theorem TripUnit.putSource_green (t : TripUnit) (i : Fin 15) (v : Source) : (t.putSource i v).green = t.green := rfl
@[simp] theorem TripUnit.putSource_amber (t : TripUnit) (i : Fin 15) (v : Source) : (t.putSource i v).amber = t.amber := rfl
@[simp] theorem TripUnit.putSource_red (t : TripUnit) (i : Fin 15) (v : Source) : (t.putSource i v).red = t.red := rfl
@[simp] theorem TripUnit.putSource_blink (t : TripUnit) (i : Fin 15) (v : Source) : (t.putSource i v).blink = t.blink := rfl
@[simp] theorem TripUnit.putInput_inputs (t : TripUnit) (i : Fin 8) (v : Input) :
    (t.putInput i v).inputs = t.inputs.set i.val v := rfl
@[simp] theorem TripUnit.putInput_sources (t : TripUnit) (i : Fin 8) (v : Input) : (t.putInput i v).sources = t.sources := rfl
@[simp] theorem TripUnit.putInput_faultSet (t : TripUnit) (i : Fin 8) (v : Input) : (t.putInput i v).faultSet = t.faultSet := rfl
@[simp] theorem TripUnit.putInput_lostSet (t : TripUnit) (i : Fin 8) (v : Input) : (t.putInput i v).lostSet = t.lostSet := rfl
@[simp] theorem TripUnit.putInput_level (t : TripUnit) (i : Fin 8) (v : Input) : (t.putInput i v).level = t.level := rfl
@[simp] theorem TripUnit.putInput_green (t : TripUnit) (i : Fin 8) (v : Input) : (t.putInput i v).green = t.green := rfl
@[simp] theorem TripUnit.putInput_amber (t : TripUnit) (i : Fin 8) (v : Input) : (t.putInput i v).amber = t.amber := rfl
@[simp] theorem TripUnit.putInput_red (t : TripUnit) (i : Fin 8) (v : Input) : (t.putInput i v).red = t.red := rfl
@[simp] theorem TripUnit.putInput_blink (t : TripUnit) (i : Fin 8) (v : Input) : (t.putInput i v).blink = t.blink := rfl
@[simp] theorem Bus.put_started (b : Bus) (k : Slot) (v : SlotState) : (b.put k v).started = b.started := by cases k <;> rfl
@[simp] theorem Bus.put_frameCount (b : Bus) (k : Slot) (v : SlotState) : (b.put k v).frameCount = b.frameCount := by cases k <;> rfl
@[simp] theorem Bus.put_level (b : Bus) (k : Slot) (v : SlotState) : (b.put k v).level = b.level := by cases k <;> rfl
@[simp] theorem Bus.put_window (b : Bus) (k : Slot) (v : SlotState) : (b.put k v).window = b.window := by cases k <;> rfl
@[simp] theorem Bus.put_opening (b : Bus) (k : Slot) (v : SlotState) : (b.put k v).opening = b.opening := by cases k <;> rfl
@[simp] theorem Bus.put_line (b : Bus) (k : Slot) (v : SlotState) : (b.put k v).line = b.line := by cases k <;> rfl
@[simp] theorem Bus.put_changes (b : Bus) (k : Slot) (v : SlotState) : (b.put k v).changes = b.changes := by cases k <;> rfl
@[simp] theorem Bus.get_put (b : Bus) (k : Slot) (v : SlotState) : (b.put k v).get k = v := by cases k <;> rfl
theorem Bus.get_put_other (b : Bus) (k j : Slot) (v : SlotState) (h : j ≠ k) : (b.put k v).get j = b.get j := by
  cases k <;> cases j <;> first | rfl | exact absurd rfl h

/-! The window that a host RESET holds back (R141). -/

@[simp] theorem Bus.holdWindow_frame (b : Bus) :
    b.holdWindow.started = b.started ∧ b.holdWindow.frameCount = b.frameCount ∧ b.holdWindow.level = b.level ∧
      b.holdWindow.line = b.line ∧ b.holdWindow.changes = b.changes ∧ b.holdWindow.x = b.x ∧
      b.holdWindow.y = b.y ∧ b.holdWindow.h = b.h ∧ b.holdWindow.s = b.s := by
  unfold Bus.holdWindow; split <;> simp
@[simp] theorem Bus.get_holdWindow (b : Bus) (k : Slot) : (b.holdWindow).get k = b.get k := by cases k <;> simp [Bus.get]
@[simp] theorem Bus.openHeld_frame (b : Bus) :
    b.openHeld.started = b.started ∧ b.openHeld.frameCount = b.frameCount ∧ b.openHeld.level = b.level ∧
      b.openHeld.line = b.line ∧ b.openHeld.changes = b.changes ∧ b.openHeld.x = b.x ∧
      b.openHeld.y = b.y ∧ b.openHeld.h = b.h ∧ b.openHeld.s = b.s := by
  unfold Bus.openHeld; split
  · simp
  · split <;> simp
@[simp] theorem Bus.get_openHeld (b : Bus) (k : Slot) : (b.openHeld).get k = b.get k := by cases k <;> simp [Bus.get]
@[simp] theorem Bus.tick_frame (b : Bus) :
    b.tick.started = b.started ∧ b.tick.frameCount = b.frameCount ∧ b.tick.level = b.level ∧
      b.tick.line = b.line ∧ b.tick.changes = b.changes ∧ b.tick.x = b.x ∧
      b.tick.y = b.y ∧ b.tick.h = b.h ∧ b.tick.s = b.s := by
  unfold Bus.tick; split
  · simp
  · split <;> simp
@[simp] theorem Bus.get_tick (b : Bus) (k : Slot) : (b.tick).get k = b.get k := by cases k <;> simp [Bus.get]
@[simp] theorem Bus.openHeld_of_none {b : Bus} (h : b.opening = none) : b.openHeld = b := by
  unfold Bus.openHeld; split <;> simp [h]
@[simp] theorem Bus.openHeld_of_open {b : Bus} {w : ReturnWindow} (h : b.window = some w) : b.openHeld = b := by
  simp [Bus.openHeld, h]

end Sys2Proof.Machine
end

