-- ==== Sys2Proof/Laws/Trip.lean ====
section
/-! SUPPORT. Notices and the trip unit: for each shared operation, one lemma that says which parts of the state it leaves as they were. -/

namespace Sys2Proof.Machine

@[simp] theorem State.noteTrip_frame (s : State) (c : TripContent) :
    (s.noteTrip c).pending = s.pending ∧ (s.noteTrip c).startup = s.startup ∧ (s.noteTrip c).pins = s.pins ∧
    (s.noteTrip c).queue = s.queue ∧ (s.noteTrip c).override = s.override ∧ (s.noteTrip c).interp = s.interp ∧
    (s.noteTrip c).seq = s.seq ∧ (s.noteTrip c).stroke = s.stroke ∧ (s.noteTrip c).classifier = s.classifier ∧
    (s.noteTrip c).bus = s.bus ∧ (s.noteTrip c).trip = s.trip ∧ (s.noteTrip c).link = s.link ∧ (s.noteTrip
    c).settings = s.settings ∧ (s.noteTrip c).outputs = s.outputs ∧ (s.noteTrip c).attnFalls = s.attnFalls ∧
    (s.noteTrip c).twoWire = s.twoWire ∧ (s.noteTrip c).draws = s.draws ∧ (s.noteTrip c).notice.engineState =
    s.notice.engineState ∧ (s.noteTrip c).notice.segmentDone = s.notice.segmentDone ∧ (s.noteTrip c).notice.queueLow
    = s.notice.queueLow ∧ (s.noteTrip c).notice.band = s.notice.band ∧ (s.noteTrip c).notice.tareDone =
    s.notice.tareDone ∧ (s.noteTrip c).notice.storeDone = s.notice.storeDone ∧ (s.noteTrip c).notice.enables =
    s.notice.enables ∧ (s.noteTrip c).notice.lastSent = s.notice.lastSent := by
  simp [State.noteTrip]

@[simp] theorem State.noteEngine_frame (s : State) (c : EngineContent) :
    (s.noteEngine c).pending = s.pending ∧ (s.noteEngine c).startup = s.startup ∧ (s.noteEngine c).pins = s.pins ∧
    (s.noteEngine c).queue = s.queue ∧ (s.noteEngine c).override = s.override ∧ (s.noteEngine c).interp = s.interp ∧
    (s.noteEngine c).seq = s.seq ∧ (s.noteEngine c).stroke = s.stroke ∧ (s.noteEngine c).classifier = s.classifier ∧
    (s.noteEngine c).bus = s.bus ∧ (s.noteEngine c).trip = s.trip ∧ (s.noteEngine c).link = s.link ∧ (s.noteEngine
    c).settings = s.settings ∧ (s.noteEngine c).outputs = s.outputs ∧ (s.noteEngine c).attnFalls = s.attnFalls ∧
    (s.noteEngine c).twoWire = s.twoWire ∧ (s.noteEngine c).draws = s.draws ∧ (s.noteEngine c).notice.trip =
    s.notice.trip ∧ (s.noteEngine c).notice.segmentDone = s.notice.segmentDone ∧ (s.noteEngine c).notice.queueLow =
    s.notice.queueLow ∧ (s.noteEngine c).notice.band = s.notice.band ∧ (s.noteEngine c).notice.tareDone =
    s.notice.tareDone ∧ (s.noteEngine c).notice.storeDone = s.notice.storeDone ∧ (s.noteEngine c).notice.enables =
    s.notice.enables ∧ (s.noteEngine c).notice.lastSent = s.notice.lastSent := by
  simp [State.noteEngine]

@[simp] theorem State.noteSegmentDone_frame (s : State) (c : Half) :
    (s.noteSegmentDone c).pending = s.pending ∧ (s.noteSegmentDone c).startup = s.startup ∧ (s.noteSegmentDone
    c).pins = s.pins ∧ (s.noteSegmentDone c).queue = s.queue ∧ (s.noteSegmentDone c).override = s.override ∧
    (s.noteSegmentDone c).interp = s.interp ∧ (s.noteSegmentDone c).seq = s.seq ∧ (s.noteSegmentDone c).stroke =
    s.stroke ∧ (s.noteSegmentDone c).classifier = s.classifier ∧ (s.noteSegmentDone c).bus = s.bus ∧
    (s.noteSegmentDone c).trip = s.trip ∧ (s.noteSegmentDone c).link = s.link ∧ (s.noteSegmentDone c).settings =
    s.settings ∧ (s.noteSegmentDone c).outputs = s.outputs ∧ (s.noteSegmentDone c).attnFalls = s.attnFalls ∧
    (s.noteSegmentDone c).twoWire = s.twoWire ∧ (s.noteSegmentDone c).draws = s.draws ∧ (s.noteSegmentDone
    c).notice.trip = s.notice.trip ∧ (s.noteSegmentDone c).notice.engineState = s.notice.engineState ∧
    (s.noteSegmentDone c).notice.queueLow = s.notice.queueLow ∧ (s.noteSegmentDone c).notice.band = s.notice.band ∧
    (s.noteSegmentDone c).notice.tareDone = s.notice.tareDone ∧ (s.noteSegmentDone c).notice.storeDone =
    s.notice.storeDone ∧ (s.noteSegmentDone c).notice.enables = s.notice.enables ∧ (s.noteSegmentDone
    c).notice.lastSent = s.notice.lastSent := by
  simp [State.noteSegmentDone]

@[simp] theorem State.noteQueueLow_frame (s : State) (c : QueueLowContent) :
    (s.noteQueueLow c).pending = s.pending ∧ (s.noteQueueLow c).startup = s.startup ∧ (s.noteQueueLow c).pins =
    s.pins ∧ (s.noteQueueLow c).queue = s.queue ∧ (s.noteQueueLow c).override = s.override ∧ (s.noteQueueLow
    c).interp = s.interp ∧ (s.noteQueueLow c).seq = s.seq ∧ (s.noteQueueLow c).stroke = s.stroke ∧ (s.noteQueueLow
    c).classifier = s.classifier ∧ (s.noteQueueLow c).bus = s.bus ∧ (s.noteQueueLow c).trip = s.trip ∧
    (s.noteQueueLow c).link = s.link ∧ (s.noteQueueLow c).settings = s.settings ∧ (s.noteQueueLow c).outputs =
    s.outputs ∧ (s.noteQueueLow c).attnFalls = s.attnFalls ∧ (s.noteQueueLow c).twoWire = s.twoWire ∧
    (s.noteQueueLow c).draws = s.draws ∧ (s.noteQueueLow c).notice.trip = s.notice.trip ∧ (s.noteQueueLow
    c).notice.engineState = s.notice.engineState ∧ (s.noteQueueLow c).notice.segmentDone = s.notice.segmentDone ∧
    (s.noteQueueLow c).notice.band = s.notice.band ∧ (s.noteQueueLow c).notice.tareDone = s.notice.tareDone ∧
    (s.noteQueueLow c).notice.storeDone = s.notice.storeDone ∧ (s.noteQueueLow c).notice.enables = s.notice.enables
    ∧ (s.noteQueueLow c).notice.lastSent = s.notice.lastSent := by
  simp [State.noteQueueLow]

@[simp] theorem State.noteBand_frame (s : State) (c : BandContent) :
    (s.noteBand c).pending = s.pending ∧ (s.noteBand c).startup = s.startup ∧ (s.noteBand c).pins = s.pins ∧
    (s.noteBand c).queue = s.queue ∧ (s.noteBand c).override = s.override ∧ (s.noteBand c).interp = s.interp ∧
    (s.noteBand c).seq = s.seq ∧ (s.noteBand c).stroke = s.stroke ∧ (s.noteBand c).classifier = s.classifier ∧
    (s.noteBand c).bus = s.bus ∧ (s.noteBand c).trip = s.trip ∧ (s.noteBand c).link = s.link ∧ (s.noteBand
    c).settings = s.settings ∧ (s.noteBand c).outputs = s.outputs ∧ (s.noteBand c).attnFalls = s.attnFalls ∧
    (s.noteBand c).twoWire = s.twoWire ∧ (s.noteBand c).draws = s.draws ∧ (s.noteBand c).notice.trip = s.notice.trip
    ∧ (s.noteBand c).notice.engineState = s.notice.engineState ∧ (s.noteBand c).notice.segmentDone =
    s.notice.segmentDone ∧ (s.noteBand c).notice.queueLow = s.notice.queueLow ∧ (s.noteBand c).notice.tareDone =
    s.notice.tareDone ∧ (s.noteBand c).notice.storeDone = s.notice.storeDone ∧ (s.noteBand c).notice.enables =
    s.notice.enables ∧ (s.noteBand c).notice.lastSent = s.notice.lastSent := by
  simp [State.noteBand]

@[simp] theorem State.noteTareDone_frame (s : State) (c : TareContent) :
    (s.noteTareDone c).pending = s.pending ∧ (s.noteTareDone c).startup = s.startup ∧ (s.noteTareDone c).pins =
    s.pins ∧ (s.noteTareDone c).queue = s.queue ∧ (s.noteTareDone c).override = s.override ∧ (s.noteTareDone
    c).interp = s.interp ∧ (s.noteTareDone c).seq = s.seq ∧ (s.noteTareDone c).stroke = s.stroke ∧ (s.noteTareDone
    c).classifier = s.classifier ∧ (s.noteTareDone c).bus = s.bus ∧ (s.noteTareDone c).trip = s.trip ∧
    (s.noteTareDone c).link = s.link ∧ (s.noteTareDone c).settings = s.settings ∧ (s.noteTareDone c).outputs =
    s.outputs ∧ (s.noteTareDone c).attnFalls = s.attnFalls ∧ (s.noteTareDone c).twoWire = s.twoWire ∧
    (s.noteTareDone c).draws = s.draws ∧ (s.noteTareDone c).notice.trip = s.notice.trip ∧ (s.noteTareDone
    c).notice.engineState = s.notice.engineState ∧ (s.noteTareDone c).notice.segmentDone = s.notice.segmentDone ∧
    (s.noteTareDone c).notice.queueLow = s.notice.queueLow ∧ (s.noteTareDone c).notice.band = s.notice.band ∧
    (s.noteTareDone c).notice.storeDone = s.notice.storeDone ∧ (s.noteTareDone c).notice.enables = s.notice.enables
    ∧ (s.noteTareDone c).notice.lastSent = s.notice.lastSent := by
  simp [State.noteTareDone]

@[simp] theorem State.noteStoreDone_frame (s : State) (c : NoticeResult) :
    (s.noteStoreDone c).pending = s.pending ∧ (s.noteStoreDone c).startup = s.startup ∧ (s.noteStoreDone c).pins =
    s.pins ∧ (s.noteStoreDone c).queue = s.queue ∧ (s.noteStoreDone c).override = s.override ∧ (s.noteStoreDone
    c).interp = s.interp ∧ (s.noteStoreDone c).seq = s.seq ∧ (s.noteStoreDone c).stroke = s.stroke ∧
    (s.noteStoreDone c).classifier = s.classifier ∧ (s.noteStoreDone c).bus = s.bus ∧ (s.noteStoreDone c).trip =
    s.trip ∧ (s.noteStoreDone c).link = s.link ∧ (s.noteStoreDone c).settings = s.settings ∧ (s.noteStoreDone
    c).outputs = s.outputs ∧ (s.noteStoreDone c).attnFalls = s.attnFalls ∧ (s.noteStoreDone c).twoWire = s.twoWire ∧
    (s.noteStoreDone c).draws = s.draws ∧ (s.noteStoreDone c).notice.trip = s.notice.trip ∧ (s.noteStoreDone
    c).notice.engineState = s.notice.engineState ∧ (s.noteStoreDone c).notice.segmentDone = s.notice.segmentDone ∧
    (s.noteStoreDone c).notice.queueLow = s.notice.queueLow ∧ (s.noteStoreDone c).notice.band = s.notice.band ∧
    (s.noteStoreDone c).notice.tareDone = s.notice.tareDone ∧ (s.noteStoreDone c).notice.enables = s.notice.enables
    ∧ (s.noteStoreDone c).notice.lastSent = s.notice.lastSent := by
  simp [State.noteStoreDone]

@[simp] theorem State.recompute_frame (s : State) :
    s.recompute.pending = s.pending ∧ s.recompute.startup = s.startup ∧ s.recompute.pins = s.pins ∧
    s.recompute.queue = s.queue ∧ s.recompute.override = s.override ∧ s.recompute.interp = s.interp ∧
    s.recompute.stroke = s.stroke ∧ s.recompute.classifier = s.classifier ∧ s.recompute.link = s.link ∧
    s.recompute.notice = s.notice ∧ s.recompute.settings = s.settings ∧ s.recompute.outputs = s.outputs ∧
    s.recompute.attnFalls = s.attnFalls ∧ s.recompute.twoWire = s.twoWire ∧ s.recompute.draws = s.draws ∧
    s.recompute.seq.engine = s.seq.engine ∧ s.recompute.seq.resume = s.seq.resume ∧ s.recompute.seq.dwellCount =
    s.seq.dwellCount ∧ s.recompute.seq.starve = s.seq.starve ∧ s.recompute.seq.interrupted = s.seq.interrupted ∧
    s.recompute.bus.started = s.bus.started ∧ s.recompute.bus.frameCount = s.bus.frameCount ∧ s.recompute.bus.level
    = s.bus.level ∧ s.recompute.bus.x = s.bus.x ∧ s.recompute.bus.y = s.bus.y ∧ s.recompute.bus.h = s.bus.h ∧
    s.recompute.bus.s = s.bus.s ∧ s.recompute.bus.window = s.bus.window ∧ s.recompute.bus.line = s.bus.line ∧
    s.recompute.trip.inputs = s.trip.inputs ∧ s.recompute.trip.green = s.trip.green ∧ s.recompute.trip.amber =
    s.trip.amber ∧ s.recompute.trip.red = s.trip.red ∧ s.recompute.trip.blink = s.trip.blink ∧
    s.recompute.trip.sources = s.trip.sources ∧ s.recompute.trip.faultSet = s.trip.faultSet ∧
    s.recompute.trip.lostSet = s.trip.lostSet ∧ s.recompute.bus.opening = s.bus.opening := by
  simp only [State.recompute]; split <;> simp

@[simp] theorem State.tripNotice_frame (s : State) (i : Fin 15) :
    (s.tripNotice i).pending = s.pending ∧ (s.tripNotice i).startup = s.startup ∧ (s.tripNotice i).pins = s.pins ∧
    (s.tripNotice i).queue = s.queue ∧ (s.tripNotice i).override = s.override ∧ (s.tripNotice i).interp = s.interp ∧
    (s.tripNotice i).seq = s.seq ∧ (s.tripNotice i).stroke = s.stroke ∧ (s.tripNotice i).classifier = s.classifier ∧
    (s.tripNotice i).bus = s.bus ∧ (s.tripNotice i).trip = s.trip ∧ (s.tripNotice i).link = s.link ∧ (s.tripNotice
    i).settings = s.settings ∧ (s.tripNotice i).outputs = s.outputs ∧ (s.tripNotice i).attnFalls = s.attnFalls ∧
    (s.tripNotice i).twoWire = s.twoWire ∧ (s.tripNotice i).draws = s.draws ∧ (s.tripNotice i).notice.engineState =
    s.notice.engineState ∧ (s.tripNotice i).notice.segmentDone = s.notice.segmentDone ∧ (s.tripNotice
    i).notice.queueLow = s.notice.queueLow ∧ (s.tripNotice i).notice.band = s.notice.band ∧ (s.tripNotice
    i).notice.tareDone = s.notice.tareDone ∧ (s.tripNotice i).notice.storeDone = s.notice.storeDone ∧ (s.tripNotice
    i).notice.enables = s.notice.enables ∧ (s.tripNotice i).notice.lastSent = s.notice.lastSent := by
  simp [State.tripNotice]

@[simp] theorem State.moveSource_frame (s : State) (i : Fin 15) (src : Source) :
    (s.moveSource i src).pending = s.pending ∧ (s.moveSource i src).startup = s.startup ∧ (s.moveSource i src).pins
    = s.pins ∧ (s.moveSource i src).queue = s.queue ∧ (s.moveSource i src).override = s.override ∧ (s.moveSource i
    src).interp = s.interp ∧ (s.moveSource i src).stroke = s.stroke ∧ (s.moveSource i src).classifier = s.classifier
    ∧ (s.moveSource i src).link = s.link ∧ (s.moveSource i src).settings = s.settings ∧ (s.moveSource i src).outputs
    = s.outputs ∧ (s.moveSource i src).attnFalls = s.attnFalls ∧ (s.moveSource i src).twoWire = s.twoWire ∧
    (s.moveSource i src).draws = s.draws ∧ (s.moveSource i src).seq.engine = s.seq.engine ∧ (s.moveSource i
    src).seq.resume = s.seq.resume ∧ (s.moveSource i src).seq.dwellCount = s.seq.dwellCount ∧ (s.moveSource i
    src).seq.starve = s.seq.starve ∧ (s.moveSource i src).seq.interrupted = s.seq.interrupted ∧ (s.moveSource i
    src).bus.started = s.bus.started ∧ (s.moveSource i src).bus.frameCount = s.bus.frameCount ∧ (s.moveSource i
    src).bus.level = s.bus.level ∧ (s.moveSource i src).bus.x = s.bus.x ∧ (s.moveSource i src).bus.y = s.bus.y ∧
    (s.moveSource i src).bus.h = s.bus.h ∧ (s.moveSource i src).bus.s = s.bus.s ∧ (s.moveSource i src).bus.window =
    s.bus.window ∧ (s.moveSource i src).bus.line = s.bus.line ∧ (s.moveSource i src).trip.inputs = s.trip.inputs ∧
    (s.moveSource i src).trip.green = s.trip.green ∧ (s.moveSource i src).trip.amber = s.trip.amber ∧ (s.moveSource
    i src).trip.red = s.trip.red ∧ (s.moveSource i src).trip.blink = s.trip.blink ∧ (s.moveSource i
    src).trip.faultSet = s.trip.faultSet ∧ (s.moveSource i src).trip.lostSet = s.trip.lostSet ∧ (s.moveSource i
    src).bus.opening = s.bus.opening ∧ (s.moveSource i src).notice.engineState = s.notice.engineState ∧
    (s.moveSource i src).notice.segmentDone = s.notice.segmentDone ∧ (s.moveSource i src).notice.queueLow =
    s.notice.queueLow ∧ (s.moveSource i src).notice.band = s.notice.band ∧ (s.moveSource i src).notice.tareDone =
    s.notice.tareDone ∧ (s.moveSource i src).notice.storeDone = s.notice.storeDone ∧ (s.moveSource i
    src).notice.enables = s.notice.enables ∧ (s.moveSource i src).notice.lastSent = s.notice.lastSent := by
  simp only [State.moveSource]; split <;> simp

@[simp] theorem State.activate_frame (s : State) (i : Fin 15) :
    (s.activate i).pending = s.pending ∧ (s.activate i).startup = s.startup ∧ (s.activate i).pins = s.pins ∧
    (s.activate i).queue = s.queue ∧ (s.activate i).override = s.override ∧ (s.activate i).interp = s.interp ∧
    (s.activate i).stroke = s.stroke ∧ (s.activate i).classifier = s.classifier ∧ (s.activate i).link = s.link ∧
    (s.activate i).settings = s.settings ∧ (s.activate i).outputs = s.outputs ∧ (s.activate i).attnFalls =
    s.attnFalls ∧ (s.activate i).twoWire = s.twoWire ∧ (s.activate i).draws = s.draws ∧ (s.activate i).seq.engine =
    s.seq.engine ∧ (s.activate i).seq.resume = s.seq.resume ∧ (s.activate i).seq.dwellCount = s.seq.dwellCount ∧
    (s.activate i).seq.starve = s.seq.starve ∧ (s.activate i).seq.interrupted = s.seq.interrupted ∧ (s.activate
    i).bus.started = s.bus.started ∧ (s.activate i).bus.frameCount = s.bus.frameCount ∧ (s.activate i).bus.level =
    s.bus.level ∧ (s.activate i).bus.x = s.bus.x ∧ (s.activate i).bus.y = s.bus.y ∧ (s.activate i).bus.h = s.bus.h ∧
    (s.activate i).bus.s = s.bus.s ∧ (s.activate i).bus.window = s.bus.window ∧ (s.activate i).bus.line = s.bus.line
    ∧ (s.activate i).trip.inputs = s.trip.inputs ∧ (s.activate i).trip.green = s.trip.green ∧ (s.activate
    i).trip.amber = s.trip.amber ∧ (s.activate i).trip.red = s.trip.red ∧ (s.activate i).trip.blink = s.trip.blink ∧
    (s.activate i).trip.faultSet = s.trip.faultSet ∧ (s.activate i).trip.lostSet = s.trip.lostSet ∧ (s.activate
    i).bus.opening = s.bus.opening ∧ (s.activate i).notice.engineState = s.notice.engineState ∧ (s.activate
    i).notice.segmentDone = s.notice.segmentDone ∧ (s.activate i).notice.queueLow = s.notice.queueLow ∧ (s.activate
    i).notice.band = s.notice.band ∧ (s.activate i).notice.tareDone = s.notice.tareDone ∧ (s.activate
    i).notice.storeDone = s.notice.storeDone ∧ (s.activate i).notice.enables = s.notice.enables ∧ (s.activate
    i).notice.lastSent = s.notice.lastSent := by
  simp [State.activate]

@[simp] theorem State.release_frame (s : State) (i : Fin 15) :
    (s.release i).pending = s.pending ∧ (s.release i).startup = s.startup ∧ (s.release i).pins = s.pins ∧ (s.release
    i).queue = s.queue ∧ (s.release i).override = s.override ∧ (s.release i).interp = s.interp ∧ (s.release
    i).stroke = s.stroke ∧ (s.release i).classifier = s.classifier ∧ (s.release i).link = s.link ∧ (s.release
    i).settings = s.settings ∧ (s.release i).outputs = s.outputs ∧ (s.release i).attnFalls = s.attnFalls ∧
    (s.release i).twoWire = s.twoWire ∧ (s.release i).draws = s.draws ∧ (s.release i).seq.engine = s.seq.engine ∧
    (s.release i).seq.resume = s.seq.resume ∧ (s.release i).seq.dwellCount = s.seq.dwellCount ∧ (s.release
    i).seq.starve = s.seq.starve ∧ (s.release i).seq.interrupted = s.seq.interrupted ∧ (s.release i).bus.started =
    s.bus.started ∧ (s.release i).bus.frameCount = s.bus.frameCount ∧ (s.release i).bus.level = s.bus.level ∧
    (s.release i).bus.x = s.bus.x ∧ (s.release i).bus.y = s.bus.y ∧ (s.release i).bus.h = s.bus.h ∧ (s.release
    i).bus.s = s.bus.s ∧ (s.release i).bus.window = s.bus.window ∧ (s.release i).bus.line = s.bus.line ∧ (s.release
    i).trip.inputs = s.trip.inputs ∧ (s.release i).trip.green = s.trip.green ∧ (s.release i).trip.amber =
    s.trip.amber ∧ (s.release i).trip.red = s.trip.red ∧ (s.release i).trip.blink = s.trip.blink ∧ (s.release
    i).trip.faultSet = s.trip.faultSet ∧ (s.release i).trip.lostSet = s.trip.lostSet ∧ (s.release i).bus.opening =
    s.bus.opening ∧ (s.release i).notice.engineState = s.notice.engineState ∧ (s.release i).notice.segmentDone =
    s.notice.segmentDone ∧ (s.release i).notice.queueLow = s.notice.queueLow ∧ (s.release i).notice.band =
    s.notice.band ∧ (s.release i).notice.tareDone = s.notice.tareDone ∧ (s.release i).notice.storeDone =
    s.notice.storeDone ∧ (s.release i).notice.enables = s.notice.enables ∧ (s.release i).notice.lastSent =
    s.notice.lastSent := by
  simp only [State.release]; split <;> simp

@[simp] theorem State.setCondition_frame (s : State) (i : Fin 15) (b : Bool) :
    (s.setCondition i b).pending = s.pending ∧ (s.setCondition i b).startup = s.startup ∧ (s.setCondition i b).pins
    = s.pins ∧ (s.setCondition i b).queue = s.queue ∧ (s.setCondition i b).override = s.override ∧ (s.setCondition i
    b).interp = s.interp ∧ (s.setCondition i b).stroke = s.stroke ∧ (s.setCondition i b).classifier = s.classifier ∧
    (s.setCondition i b).link = s.link ∧ (s.setCondition i b).settings = s.settings ∧ (s.setCondition i b).outputs =
    s.outputs ∧ (s.setCondition i b).attnFalls = s.attnFalls ∧ (s.setCondition i b).twoWire = s.twoWire ∧
    (s.setCondition i b).draws = s.draws ∧ (s.setCondition i b).seq.engine = s.seq.engine ∧ (s.setCondition i
    b).seq.resume = s.seq.resume ∧ (s.setCondition i b).seq.dwellCount = s.seq.dwellCount ∧ (s.setCondition i
    b).seq.starve = s.seq.starve ∧ (s.setCondition i b).seq.interrupted = s.seq.interrupted ∧ (s.setCondition i
    b).bus.started = s.bus.started ∧ (s.setCondition i b).bus.frameCount = s.bus.frameCount ∧ (s.setCondition i
    b).bus.level = s.bus.level ∧ (s.setCondition i b).bus.x = s.bus.x ∧ (s.setCondition i b).bus.y = s.bus.y ∧
    (s.setCondition i b).bus.h = s.bus.h ∧ (s.setCondition i b).bus.s = s.bus.s ∧ (s.setCondition i b).bus.window =
    s.bus.window ∧ (s.setCondition i b).bus.line = s.bus.line ∧ (s.setCondition i b).trip.inputs = s.trip.inputs ∧
    (s.setCondition i b).trip.green = s.trip.green ∧ (s.setCondition i b).trip.amber = s.trip.amber ∧
    (s.setCondition i b).trip.red = s.trip.red ∧ (s.setCondition i b).trip.blink = s.trip.blink ∧ (s.setCondition i
    b).trip.faultSet = s.trip.faultSet ∧ (s.setCondition i b).trip.lostSet = s.trip.lostSet ∧ (s.setCondition i
    b).bus.opening = s.bus.opening ∧ (s.setCondition i b).notice.engineState = s.notice.engineState ∧
    (s.setCondition i b).notice.segmentDone = s.notice.segmentDone ∧ (s.setCondition i b).notice.queueLow =
    s.notice.queueLow ∧ (s.setCondition i b).notice.band = s.notice.band ∧ (s.setCondition i b).notice.tareDone =
    s.notice.tareDone ∧ (s.setCondition i b).notice.storeDone = s.notice.storeDone ∧ (s.setCondition i
    b).notice.enables = s.notice.enables ∧ (s.setCondition i b).notice.lastSent = s.notice.lastSent := by
  simp only [State.setCondition]
  repeat' split
  all_goals simp

@[simp] theorem State.setFaultSet_frame (s : State) (m : BitVec 4) :
    (s.setFaultSet m).pending = s.pending ∧ (s.setFaultSet m).startup = s.startup ∧ (s.setFaultSet m).pins = s.pins
    ∧ (s.setFaultSet m).queue = s.queue ∧ (s.setFaultSet m).override = s.override ∧ (s.setFaultSet m).interp =
    s.interp ∧ (s.setFaultSet m).stroke = s.stroke ∧ (s.setFaultSet m).classifier = s.classifier ∧ (s.setFaultSet
    m).link = s.link ∧ (s.setFaultSet m).settings = s.settings ∧ (s.setFaultSet m).outputs = s.outputs ∧
    (s.setFaultSet m).attnFalls = s.attnFalls ∧ (s.setFaultSet m).twoWire = s.twoWire ∧ (s.setFaultSet m).draws =
    s.draws ∧ (s.setFaultSet m).seq.engine = s.seq.engine ∧ (s.setFaultSet m).seq.resume = s.seq.resume ∧
    (s.setFaultSet m).seq.dwellCount = s.seq.dwellCount ∧ (s.setFaultSet m).seq.starve = s.seq.starve ∧
    (s.setFaultSet m).seq.interrupted = s.seq.interrupted ∧ (s.setFaultSet m).bus.started = s.bus.started ∧
    (s.setFaultSet m).bus.frameCount = s.bus.frameCount ∧ (s.setFaultSet m).bus.level = s.bus.level ∧ (s.setFaultSet
    m).bus.x = s.bus.x ∧ (s.setFaultSet m).bus.y = s.bus.y ∧ (s.setFaultSet m).bus.h = s.bus.h ∧ (s.setFaultSet
    m).bus.s = s.bus.s ∧ (s.setFaultSet m).bus.window = s.bus.window ∧ (s.setFaultSet m).bus.line = s.bus.line ∧
    (s.setFaultSet m).trip.inputs = s.trip.inputs ∧ (s.setFaultSet m).trip.green = s.trip.green ∧ (s.setFaultSet
    m).trip.amber = s.trip.amber ∧ (s.setFaultSet m).trip.red = s.trip.red ∧ (s.setFaultSet m).trip.blink =
    s.trip.blink ∧ (s.setFaultSet m).trip.lostSet = s.trip.lostSet ∧ (s.setFaultSet m).bus.opening = s.bus.opening ∧
    (s.setFaultSet m).notice.engineState = s.notice.engineState ∧ (s.setFaultSet m).notice.segmentDone =
    s.notice.segmentDone ∧ (s.setFaultSet m).notice.queueLow = s.notice.queueLow ∧ (s.setFaultSet m).notice.band =
    s.notice.band ∧ (s.setFaultSet m).notice.tareDone = s.notice.tareDone ∧ (s.setFaultSet m).notice.storeDone =
    s.notice.storeDone ∧ (s.setFaultSet m).notice.enables = s.notice.enables ∧ (s.setFaultSet m).notice.lastSent =
    s.notice.lastSent := by
  simp only [State.setFaultSet]; split <;> simp

@[simp] theorem State.setLostSet_frame (s : State) (m : BitVec 4) :
    (s.setLostSet m).pending = s.pending ∧ (s.setLostSet m).startup = s.startup ∧ (s.setLostSet m).pins = s.pins ∧
    (s.setLostSet m).queue = s.queue ∧ (s.setLostSet m).override = s.override ∧ (s.setLostSet m).interp = s.interp ∧
    (s.setLostSet m).stroke = s.stroke ∧ (s.setLostSet m).classifier = s.classifier ∧ (s.setLostSet m).link = s.link
    ∧ (s.setLostSet m).settings = s.settings ∧ (s.setLostSet m).outputs = s.outputs ∧ (s.setLostSet m).attnFalls =
    s.attnFalls ∧ (s.setLostSet m).twoWire = s.twoWire ∧ (s.setLostSet m).draws = s.draws ∧ (s.setLostSet
    m).seq.engine = s.seq.engine ∧ (s.setLostSet m).seq.resume = s.seq.resume ∧ (s.setLostSet m).seq.dwellCount =
    s.seq.dwellCount ∧ (s.setLostSet m).seq.starve = s.seq.starve ∧ (s.setLostSet m).seq.interrupted =
    s.seq.interrupted ∧ (s.setLostSet m).bus.started = s.bus.started ∧ (s.setLostSet m).bus.frameCount =
    s.bus.frameCount ∧ (s.setLostSet m).bus.level = s.bus.level ∧ (s.setLostSet m).bus.x = s.bus.x ∧ (s.setLostSet
    m).bus.y = s.bus.y ∧ (s.setLostSet m).bus.h = s.bus.h ∧ (s.setLostSet m).bus.s = s.bus.s ∧ (s.setLostSet
    m).bus.window = s.bus.window ∧ (s.setLostSet m).bus.line = s.bus.line ∧ (s.setLostSet m).trip.inputs =
    s.trip.inputs ∧ (s.setLostSet m).trip.green = s.trip.green ∧ (s.setLostSet m).trip.amber = s.trip.amber ∧
    (s.setLostSet m).trip.red = s.trip.red ∧ (s.setLostSet m).trip.blink = s.trip.blink ∧ (s.setLostSet
    m).trip.faultSet = s.trip.faultSet ∧ (s.setLostSet m).bus.opening = s.bus.opening ∧ (s.setLostSet
    m).notice.engineState = s.notice.engineState ∧ (s.setLostSet m).notice.segmentDone = s.notice.segmentDone ∧
    (s.setLostSet m).notice.queueLow = s.notice.queueLow ∧ (s.setLostSet m).notice.band = s.notice.band ∧
    (s.setLostSet m).notice.tareDone = s.notice.tareDone ∧ (s.setLostSet m).notice.storeDone = s.notice.storeDone ∧
    (s.setLostSet m).notice.enables = s.notice.enables ∧ (s.setLostSet m).notice.lastSent = s.notice.lastSent := by
  simp only [State.setLostSet]; split <;> simp

@[simp] theorem State.takeLine_frame (s : State) (i : Fin 8) :
    (s.takeLine i).pending = s.pending ∧ (s.takeLine i).startup = s.startup ∧ (s.takeLine i).pins = s.pins ∧
    (s.takeLine i).queue = s.queue ∧ (s.takeLine i).override = s.override ∧ (s.takeLine i).interp = s.interp ∧
    (s.takeLine i).stroke = s.stroke ∧ (s.takeLine i).classifier = s.classifier ∧ (s.takeLine i).link = s.link ∧
    (s.takeLine i).settings = s.settings ∧ (s.takeLine i).outputs = s.outputs ∧ (s.takeLine i).attnFalls =
    s.attnFalls ∧ (s.takeLine i).twoWire = s.twoWire ∧ (s.takeLine i).draws = s.draws ∧ (s.takeLine i).seq.engine =
    s.seq.engine ∧ (s.takeLine i).seq.resume = s.seq.resume ∧ (s.takeLine i).seq.dwellCount = s.seq.dwellCount ∧
    (s.takeLine i).seq.starve = s.seq.starve ∧ (s.takeLine i).seq.interrupted = s.seq.interrupted ∧ (s.takeLine
    i).bus.started = s.bus.started ∧ (s.takeLine i).bus.frameCount = s.bus.frameCount ∧ (s.takeLine i).bus.level =
    s.bus.level ∧ (s.takeLine i).bus.x = s.bus.x ∧ (s.takeLine i).bus.y = s.bus.y ∧ (s.takeLine i).bus.h = s.bus.h ∧
    (s.takeLine i).bus.s = s.bus.s ∧ (s.takeLine i).bus.window = s.bus.window ∧ (s.takeLine i).bus.line = s.bus.line
    ∧ (s.takeLine i).trip.green = s.trip.green ∧ (s.takeLine i).trip.amber = s.trip.amber ∧ (s.takeLine i).trip.red
    = s.trip.red ∧ (s.takeLine i).trip.blink = s.trip.blink ∧ (s.takeLine i).bus.opening = s.bus.opening ∧
    (s.takeLine i).notice.engineState = s.notice.engineState ∧ (s.takeLine i).notice.segmentDone =
    s.notice.segmentDone ∧ (s.takeLine i).notice.queueLow = s.notice.queueLow ∧ (s.takeLine i).notice.band =
    s.notice.band ∧ (s.takeLine i).notice.tareDone = s.notice.tareDone ∧ (s.takeLine i).notice.storeDone =
    s.notice.storeDone ∧ (s.takeLine i).notice.enables = s.notice.enables ∧ (s.takeLine i).notice.lastSent =
    s.notice.lastSent := by
  simp [State.takeLine]

@[simp] theorem State.lineBecomes_frame (s : State) (i : Fin 8) (b : Bool) :
    (s.lineBecomes i b).pending = s.pending ∧ (s.lineBecomes i b).startup = s.startup ∧ (s.lineBecomes i b).pins =
    s.pins ∧ (s.lineBecomes i b).queue = s.queue ∧ (s.lineBecomes i b).override = s.override ∧ (s.lineBecomes i
    b).interp = s.interp ∧ (s.lineBecomes i b).stroke = s.stroke ∧ (s.lineBecomes i b).classifier = s.classifier ∧
    (s.lineBecomes i b).link = s.link ∧ (s.lineBecomes i b).settings = s.settings ∧ (s.lineBecomes i b).outputs =
    s.outputs ∧ (s.lineBecomes i b).attnFalls = s.attnFalls ∧ (s.lineBecomes i b).twoWire = s.twoWire ∧
    (s.lineBecomes i b).draws = s.draws ∧ (s.lineBecomes i b).seq.engine = s.seq.engine ∧ (s.lineBecomes i
    b).seq.resume = s.seq.resume ∧ (s.lineBecomes i b).seq.dwellCount = s.seq.dwellCount ∧ (s.lineBecomes i
    b).seq.starve = s.seq.starve ∧ (s.lineBecomes i b).seq.interrupted = s.seq.interrupted ∧ (s.lineBecomes i
    b).bus.started = s.bus.started ∧ (s.lineBecomes i b).bus.frameCount = s.bus.frameCount ∧ (s.lineBecomes i
    b).bus.level = s.bus.level ∧ (s.lineBecomes i b).bus.x = s.bus.x ∧ (s.lineBecomes i b).bus.y = s.bus.y ∧
    (s.lineBecomes i b).bus.h = s.bus.h ∧ (s.lineBecomes i b).bus.s = s.bus.s ∧ (s.lineBecomes i b).bus.window =
    s.bus.window ∧ (s.lineBecomes i b).bus.line = s.bus.line ∧ (s.lineBecomes i b).trip.green = s.trip.green ∧
    (s.lineBecomes i b).trip.amber = s.trip.amber ∧ (s.lineBecomes i b).trip.red = s.trip.red ∧ (s.lineBecomes i
    b).trip.blink = s.trip.blink ∧ (s.lineBecomes i b).bus.opening = s.bus.opening ∧ (s.lineBecomes i
    b).notice.engineState = s.notice.engineState ∧ (s.lineBecomes i b).notice.segmentDone = s.notice.segmentDone ∧
    (s.lineBecomes i b).notice.queueLow = s.notice.queueLow ∧ (s.lineBecomes i b).notice.band = s.notice.band ∧
    (s.lineBecomes i b).notice.tareDone = s.notice.tareDone ∧ (s.lineBecomes i b).notice.storeDone =
    s.notice.storeDone ∧ (s.lineBecomes i b).notice.enables = s.notice.enables ∧ (s.lineBecomes i b).notice.lastSent
    = s.notice.lastSent := by
  simp only [State.lineBecomes]
  repeat' split
  all_goals simp

@[simp] theorem State.deriveLine_frame (s : State) (i : Fin 8) :
    (s.deriveLine i).pending = s.pending ∧ (s.deriveLine i).startup = s.startup ∧ (s.deriveLine i).pins = s.pins ∧
    (s.deriveLine i).queue = s.queue ∧ (s.deriveLine i).override = s.override ∧ (s.deriveLine i).interp = s.interp ∧
    (s.deriveLine i).stroke = s.stroke ∧ (s.deriveLine i).classifier = s.classifier ∧ (s.deriveLine i).link = s.link
    ∧ (s.deriveLine i).settings = s.settings ∧ (s.deriveLine i).outputs = s.outputs ∧ (s.deriveLine i).attnFalls =
    s.attnFalls ∧ (s.deriveLine i).twoWire = s.twoWire ∧ (s.deriveLine i).draws = s.draws ∧ (s.deriveLine
    i).seq.engine = s.seq.engine ∧ (s.deriveLine i).seq.resume = s.seq.resume ∧ (s.deriveLine i).seq.dwellCount =
    s.seq.dwellCount ∧ (s.deriveLine i).seq.starve = s.seq.starve ∧ (s.deriveLine i).seq.interrupted =
    s.seq.interrupted ∧ (s.deriveLine i).bus.started = s.bus.started ∧ (s.deriveLine i).bus.frameCount =
    s.bus.frameCount ∧ (s.deriveLine i).bus.level = s.bus.level ∧ (s.deriveLine i).bus.x = s.bus.x ∧ (s.deriveLine
    i).bus.y = s.bus.y ∧ (s.deriveLine i).bus.h = s.bus.h ∧ (s.deriveLine i).bus.s = s.bus.s ∧ (s.deriveLine
    i).bus.window = s.bus.window ∧ (s.deriveLine i).bus.line = s.bus.line ∧ (s.deriveLine i).trip.green =
    s.trip.green ∧ (s.deriveLine i).trip.amber = s.trip.amber ∧ (s.deriveLine i).trip.red = s.trip.red ∧
    (s.deriveLine i).trip.blink = s.trip.blink ∧ (s.deriveLine i).bus.opening = s.bus.opening ∧ (s.deriveLine
    i).notice.engineState = s.notice.engineState ∧ (s.deriveLine i).notice.segmentDone = s.notice.segmentDone ∧
    (s.deriveLine i).notice.queueLow = s.notice.queueLow ∧ (s.deriveLine i).notice.band = s.notice.band ∧
    (s.deriveLine i).notice.tareDone = s.notice.tareDone ∧ (s.deriveLine i).notice.storeDone = s.notice.storeDone ∧
    (s.deriveLine i).notice.enables = s.notice.enables ∧ (s.deriveLine i).notice.lastSent = s.notice.lastSent := by
  simp only [State.deriveLine]; split <;> simp

@[simp] theorem State.readInputs_frame (s : State) :
    s.readInputs.pending = s.pending ∧ s.readInputs.startup = s.startup ∧ s.readInputs.pins = s.pins ∧
    s.readInputs.queue = s.queue ∧ s.readInputs.override = s.override ∧ s.readInputs.interp = s.interp ∧
    s.readInputs.stroke = s.stroke ∧ s.readInputs.classifier = s.classifier ∧ s.readInputs.link = s.link ∧
    s.readInputs.settings = s.settings ∧ s.readInputs.outputs = s.outputs ∧ s.readInputs.attnFalls = s.attnFalls ∧
    s.readInputs.twoWire = s.twoWire ∧ s.readInputs.draws = s.draws ∧ s.readInputs.seq.engine = s.seq.engine ∧
    s.readInputs.seq.resume = s.seq.resume ∧ s.readInputs.seq.dwellCount = s.seq.dwellCount ∧
    s.readInputs.seq.starve = s.seq.starve ∧ s.readInputs.seq.interrupted = s.seq.interrupted ∧
    s.readInputs.bus.started = s.bus.started ∧ s.readInputs.bus.frameCount = s.bus.frameCount ∧
    s.readInputs.bus.level = s.bus.level ∧ s.readInputs.bus.x = s.bus.x ∧ s.readInputs.bus.y = s.bus.y ∧
    s.readInputs.bus.h = s.bus.h ∧ s.readInputs.bus.s = s.bus.s ∧ s.readInputs.bus.window = s.bus.window ∧
    s.readInputs.bus.line = s.bus.line ∧ s.readInputs.trip.green = s.trip.green ∧ s.readInputs.trip.amber =
    s.trip.amber ∧ s.readInputs.trip.red = s.trip.red ∧ s.readInputs.trip.blink = s.trip.blink ∧
    s.readInputs.bus.opening = s.bus.opening ∧ s.readInputs.notice.engineState = s.notice.engineState ∧
    s.readInputs.notice.segmentDone = s.notice.segmentDone ∧ s.readInputs.notice.queueLow = s.notice.queueLow ∧
    s.readInputs.notice.band = s.notice.band ∧ s.readInputs.notice.tareDone = s.notice.tareDone ∧
    s.readInputs.notice.storeDone = s.notice.storeDone ∧ s.readInputs.notice.enables = s.notice.enables ∧
    s.readInputs.notice.lastSent = s.notice.lastSent := by
  simp [State.readInputs]

end Sys2Proof.Machine
end

