-- ==== Sys2Proof/Laws/Stroke.lean ====
section
/-! SUPPORT. The classifier and the stroke unit: for each shared operation, one lemma that says which parts of the state it leaves as they were. -/

namespace Sys2Proof.Machine

@[simp] theorem State.setOverload_frame (s : State) (b : Bool) :
    (s.setOverload b).pending = s.pending ∧ (s.setOverload b).startup = s.startup ∧ (s.setOverload b).pins = s.pins
    ∧ (s.setOverload b).queue = s.queue ∧ (s.setOverload b).override = s.override ∧ (s.setOverload b).interp =
    s.interp ∧ (s.setOverload b).stroke = s.stroke ∧ (s.setOverload b).link = s.link ∧ (s.setOverload b).settings =
    s.settings ∧ (s.setOverload b).outputs = s.outputs ∧ (s.setOverload b).attnFalls = s.attnFalls ∧ (s.setOverload
    b).twoWire = s.twoWire ∧ (s.setOverload b).draws = s.draws ∧ (s.setOverload b).seq.engine = s.seq.engine ∧
    (s.setOverload b).seq.resume = s.seq.resume ∧ (s.setOverload b).seq.dwellCount = s.seq.dwellCount ∧
    (s.setOverload b).seq.starve = s.seq.starve ∧ (s.setOverload b).seq.interrupted = s.seq.interrupted ∧
    (s.setOverload b).bus.started = s.bus.started ∧ (s.setOverload b).bus.frameCount = s.bus.frameCount ∧
    (s.setOverload b).bus.level = s.bus.level ∧ (s.setOverload b).bus.x = s.bus.x ∧ (s.setOverload b).bus.y =
    s.bus.y ∧ (s.setOverload b).bus.h = s.bus.h ∧ (s.setOverload b).bus.s = s.bus.s ∧ (s.setOverload b).bus.window =
    s.bus.window ∧ (s.setOverload b).bus.line = s.bus.line ∧ (s.setOverload b).trip.inputs = s.trip.inputs ∧
    (s.setOverload b).trip.green = s.trip.green ∧ (s.setOverload b).trip.amber = s.trip.amber ∧ (s.setOverload
    b).trip.red = s.trip.red ∧ (s.setOverload b).trip.blink = s.trip.blink ∧ (s.setOverload b).classifier.bands =
    s.classifier.bands ∧ (s.setOverload b).classifier.material = s.classifier.material ∧ (s.setOverload
    b).classifier.candidate = s.classifier.candidate ∧ (s.setOverload b).classifier.df = s.classifier.df ∧
    (s.setOverload b).bus.opening = s.bus.opening ∧ (s.setOverload b).notice.engineState = s.notice.engineState ∧
    (s.setOverload b).notice.segmentDone = s.notice.segmentDone ∧ (s.setOverload b).notice.queueLow =
    s.notice.queueLow ∧ (s.setOverload b).notice.band = s.notice.band ∧ (s.setOverload b).notice.tareDone =
    s.notice.tareDone ∧ (s.setOverload b).notice.storeDone = s.notice.storeDone ∧ (s.setOverload b).notice.enables =
    s.notice.enables ∧ (s.setOverload b).notice.lastSent = s.notice.lastSent := by
  simp only [State.setOverload]; split <;> simp

@[simp] theorem State.confirmBand_frame (s : State) (b : Fin 8) :
    (s.confirmBand b).pending = s.pending ∧ (s.confirmBand b).startup = s.startup ∧ (s.confirmBand b).pins = s.pins
    ∧ (s.confirmBand b).queue = s.queue ∧ (s.confirmBand b).override = s.override ∧ (s.confirmBand b).interp =
    s.interp ∧ (s.confirmBand b).seq = s.seq ∧ (s.confirmBand b).stroke = s.stroke ∧ (s.confirmBand b).bus = s.bus ∧
    (s.confirmBand b).trip = s.trip ∧ (s.confirmBand b).link = s.link ∧ (s.confirmBand b).settings = s.settings ∧
    (s.confirmBand b).outputs = s.outputs ∧ (s.confirmBand b).attnFalls = s.attnFalls ∧ (s.confirmBand b).twoWire =
    s.twoWire ∧ (s.confirmBand b).draws = s.draws ∧ (s.confirmBand b).classifier.bands = s.classifier.bands ∧
    (s.confirmBand b).classifier.df = s.classifier.df ∧ (s.confirmBand b).classifier.overload =
    s.classifier.overload ∧ (s.confirmBand b).notice.trip = s.notice.trip ∧ (s.confirmBand b).notice.engineState =
    s.notice.engineState ∧ (s.confirmBand b).notice.segmentDone = s.notice.segmentDone ∧ (s.confirmBand
    b).notice.queueLow = s.notice.queueLow ∧ (s.confirmBand b).notice.tareDone = s.notice.tareDone ∧ (s.confirmBand
    b).notice.storeDone = s.notice.storeDone ∧ (s.confirmBand b).notice.enables = s.notice.enables ∧ (s.confirmBand
    b).notice.lastSent = s.notice.lastSent := by
  simp only [State.confirmBand]
  repeat' split
  all_goals simp

@[simp] theorem State.classify_frame (s : State) (cl : Nat) (r : WindowRecord) :
    (s.classify cl r).pending = s.pending ∧ (s.classify cl r).startup = s.startup ∧ (s.classify cl r).pins = s.pins
    ∧ (s.classify cl r).queue = s.queue ∧ (s.classify cl r).override = s.override ∧ (s.classify cl r).interp =
    s.interp ∧ (s.classify cl r).seq = s.seq ∧ (s.classify cl r).stroke = s.stroke ∧ (s.classify cl r).bus = s.bus ∧
    (s.classify cl r).trip = s.trip ∧ (s.classify cl r).link = s.link ∧ (s.classify cl r).settings = s.settings ∧
    (s.classify cl r).outputs = s.outputs ∧ (s.classify cl r).attnFalls = s.attnFalls ∧ (s.classify cl r).twoWire =
    s.twoWire ∧ (s.classify cl r).draws = s.draws ∧ (s.classify cl r).classifier.bands = s.classifier.bands ∧
    (s.classify cl r).classifier.overload = s.classifier.overload ∧ (s.classify cl r).notice.trip = s.notice.trip ∧
    (s.classify cl r).notice.engineState = s.notice.engineState ∧ (s.classify cl r).notice.segmentDone =
    s.notice.segmentDone ∧ (s.classify cl r).notice.queueLow = s.notice.queueLow ∧ (s.classify cl r).notice.tareDone
    = s.notice.tareDone ∧ (s.classify cl r).notice.storeDone = s.notice.storeDone ∧ (s.classify cl r).notice.enables
    = s.notice.enables ∧ (s.classify cl r).notice.lastSent = s.notice.lastSent := by
  simp [State.classify]

@[simp] theorem State.takeWindowRecord_frame (s : State) (r : WindowRecord) :
    (s.takeWindowRecord r).pending = s.pending ∧ (s.takeWindowRecord r).startup = s.startup ∧ (s.takeWindowRecord
    r).pins = s.pins ∧ (s.takeWindowRecord r).queue = s.queue ∧ (s.takeWindowRecord r).override = s.override ∧
    (s.takeWindowRecord r).interp = s.interp ∧ (s.takeWindowRecord r).stroke = s.stroke ∧ (s.takeWindowRecord
    r).link = s.link ∧ (s.takeWindowRecord r).settings = s.settings ∧ (s.takeWindowRecord r).outputs = s.outputs ∧
    (s.takeWindowRecord r).attnFalls = s.attnFalls ∧ (s.takeWindowRecord r).twoWire = s.twoWire ∧
    (s.takeWindowRecord r).draws = s.draws ∧ (s.takeWindowRecord r).seq.engine = s.seq.engine ∧ (s.takeWindowRecord
    r).seq.resume = s.seq.resume ∧ (s.takeWindowRecord r).seq.dwellCount = s.seq.dwellCount ∧ (s.takeWindowRecord
    r).seq.starve = s.seq.starve ∧ (s.takeWindowRecord r).seq.interrupted = s.seq.interrupted ∧ (s.takeWindowRecord
    r).bus.started = s.bus.started ∧ (s.takeWindowRecord r).bus.frameCount = s.bus.frameCount ∧ (s.takeWindowRecord
    r).bus.level = s.bus.level ∧ (s.takeWindowRecord r).bus.x = s.bus.x ∧ (s.takeWindowRecord r).bus.y = s.bus.y ∧
    (s.takeWindowRecord r).bus.h = s.bus.h ∧ (s.takeWindowRecord r).bus.s = s.bus.s ∧ (s.takeWindowRecord
    r).bus.window = s.bus.window ∧ (s.takeWindowRecord r).bus.line = s.bus.line ∧ (s.takeWindowRecord r).trip.inputs
    = s.trip.inputs ∧ (s.takeWindowRecord r).trip.green = s.trip.green ∧ (s.takeWindowRecord r).trip.amber =
    s.trip.amber ∧ (s.takeWindowRecord r).trip.red = s.trip.red ∧ (s.takeWindowRecord r).trip.blink = s.trip.blink ∧
    (s.takeWindowRecord r).classifier.bands = s.classifier.bands ∧ (s.takeWindowRecord r).bus.opening =
    s.bus.opening ∧ (s.takeWindowRecord r).notice.engineState = s.notice.engineState ∧ (s.takeWindowRecord
    r).notice.segmentDone = s.notice.segmentDone ∧ (s.takeWindowRecord r).notice.queueLow = s.notice.queueLow ∧
    (s.takeWindowRecord r).notice.tareDone = s.notice.tareDone ∧ (s.takeWindowRecord r).notice.storeDone =
    s.notice.storeDone ∧ (s.takeWindowRecord r).notice.enables = s.notice.enables ∧ (s.takeWindowRecord
    r).notice.lastSent = s.notice.lastSent := by
  simp only [State.takeWindowRecord]
  repeat' split
  all_goals simp

@[simp] theorem State.setStall_frame (s : State) (b : Bool) :
    (s.setStall b).pending = s.pending ∧ (s.setStall b).startup = s.startup ∧ (s.setStall b).pins = s.pins ∧
    (s.setStall b).queue = s.queue ∧ (s.setStall b).override = s.override ∧ (s.setStall b).interp = s.interp ∧
    (s.setStall b).classifier = s.classifier ∧ (s.setStall b).link = s.link ∧ (s.setStall b).settings = s.settings ∧
    (s.setStall b).outputs = s.outputs ∧ (s.setStall b).attnFalls = s.attnFalls ∧ (s.setStall b).twoWire = s.twoWire
    ∧ (s.setStall b).draws = s.draws ∧ (s.setStall b).seq.engine = s.seq.engine ∧ (s.setStall b).seq.resume =
    s.seq.resume ∧ (s.setStall b).seq.dwellCount = s.seq.dwellCount ∧ (s.setStall b).seq.starve = s.seq.starve ∧
    (s.setStall b).seq.interrupted = s.seq.interrupted ∧ (s.setStall b).bus.started = s.bus.started ∧ (s.setStall
    b).bus.frameCount = s.bus.frameCount ∧ (s.setStall b).bus.level = s.bus.level ∧ (s.setStall b).bus.x = s.bus.x ∧
    (s.setStall b).bus.y = s.bus.y ∧ (s.setStall b).bus.h = s.bus.h ∧ (s.setStall b).bus.s = s.bus.s ∧ (s.setStall
    b).bus.window = s.bus.window ∧ (s.setStall b).bus.line = s.bus.line ∧ (s.setStall b).trip.inputs = s.trip.inputs
    ∧ (s.setStall b).trip.green = s.trip.green ∧ (s.setStall b).trip.amber = s.trip.amber ∧ (s.setStall b).trip.red
    = s.trip.red ∧ (s.setStall b).trip.blink = s.trip.blink ∧ (s.setStall b).stroke.state = s.stroke.state ∧
    (s.setStall b).stroke.fSet = s.stroke.fSet ∧ (s.setStall b).stroke.startTimer = s.stroke.startTimer ∧
    (s.setStall b).stroke.stopTimer = s.stroke.stopTimer ∧ (s.setStall b).stroke.good = s.stroke.good ∧ (s.setStall
    b).stroke.slow = s.stroke.slow ∧ (s.setStall b).stroke.window = s.stroke.window ∧ (s.setStall b).stroke.fm =
    s.stroke.fm ∧ (s.setStall b).stroke.lf = s.stroke.lf ∧ (s.setStall b).stroke.tareState = s.stroke.tareState ∧
    (s.setStall b).stroke.tare = s.stroke.tare ∧ (s.setStall b).bus.opening = s.bus.opening ∧ (s.setStall
    b).notice.engineState = s.notice.engineState ∧ (s.setStall b).notice.segmentDone = s.notice.segmentDone ∧
    (s.setStall b).notice.queueLow = s.notice.queueLow ∧ (s.setStall b).notice.band = s.notice.band ∧ (s.setStall
    b).notice.tareDone = s.notice.tareDone ∧ (s.setStall b).notice.storeDone = s.notice.storeDone ∧ (s.setStall
    b).notice.enables = s.notice.enables ∧ (s.setStall b).notice.lastSent = s.notice.lastSent := by
  simp only [State.setStall]; split <;> simp

@[simp] theorem State.enterStopping_frame (s : State) :
    s.enterStopping.pending = s.pending ∧ s.enterStopping.startup = s.startup ∧ s.enterStopping.pins = s.pins ∧
    s.enterStopping.queue = s.queue ∧ s.enterStopping.override = s.override ∧ s.enterStopping.interp = s.interp ∧
    s.enterStopping.seq = s.seq ∧ s.enterStopping.classifier = s.classifier ∧ s.enterStopping.bus = s.bus ∧
    s.enterStopping.trip = s.trip ∧ s.enterStopping.link = s.link ∧ s.enterStopping.notice = s.notice ∧
    s.enterStopping.settings = s.settings ∧ s.enterStopping.outputs = s.outputs ∧ s.enterStopping.attnFalls =
    s.attnFalls ∧ s.enterStopping.twoWire = s.twoWire ∧ s.enterStopping.draws = s.draws ∧
    s.enterStopping.stroke.fSet = s.stroke.fSet ∧ s.enterStopping.stroke.stall = s.stroke.stall ∧
    s.enterStopping.stroke.window = s.stroke.window ∧ s.enterStopping.stroke.fm = s.stroke.fm ∧
    s.enterStopping.stroke.lf = s.stroke.lf ∧ s.enterStopping.stroke.tareState = s.stroke.tareState ∧
    s.enterStopping.stroke.tare = s.stroke.tare := by
  simp [State.enterStopping]

@[simp] theorem State.stopStroke_frame (s : State) :
    s.stopStroke.pending = s.pending ∧ s.stopStroke.startup = s.startup ∧ s.stopStroke.pins = s.pins ∧
    s.stopStroke.queue = s.queue ∧ s.stopStroke.override = s.override ∧ s.stopStroke.interp = s.interp ∧
    s.stopStroke.seq = s.seq ∧ s.stopStroke.classifier = s.classifier ∧ s.stopStroke.bus = s.bus ∧ s.stopStroke.trip
    = s.trip ∧ s.stopStroke.link = s.link ∧ s.stopStroke.notice = s.notice ∧ s.stopStroke.settings = s.settings ∧
    s.stopStroke.outputs = s.outputs ∧ s.stopStroke.attnFalls = s.attnFalls ∧ s.stopStroke.twoWire = s.twoWire ∧
    s.stopStroke.draws = s.draws ∧ s.stopStroke.stroke.fSet = s.stroke.fSet ∧ s.stopStroke.stroke.stall =
    s.stroke.stall ∧ s.stopStroke.stroke.window = s.stroke.window ∧ s.stopStroke.stroke.fm = s.stroke.fm ∧
    s.stopStroke.stroke.lf = s.stroke.lf ∧ s.stopStroke.stroke.tareState = s.stroke.tareState ∧
    s.stopStroke.stroke.tare = s.stroke.tare := by
  simp only [State.stopStroke]; split <;> simp

@[simp] theorem State.endTare_frame (s : State) :
    s.endTare.pending = s.pending ∧ s.endTare.startup = s.startup ∧ s.endTare.pins = s.pins ∧ s.endTare.queue =
    s.queue ∧ s.endTare.override = s.override ∧ s.endTare.interp = s.interp ∧ s.endTare.seq = s.seq ∧
    s.endTare.classifier = s.classifier ∧ s.endTare.bus = s.bus ∧ s.endTare.trip = s.trip ∧ s.endTare.link = s.link
    ∧ s.endTare.notice = s.notice ∧ s.endTare.settings = s.settings ∧ s.endTare.outputs = s.outputs ∧
    s.endTare.attnFalls = s.attnFalls ∧ s.endTare.twoWire = s.twoWire ∧ s.endTare.draws = s.draws ∧
    s.endTare.stroke.fSet = s.stroke.fSet ∧ s.endTare.stroke.stall = s.stroke.stall ∧ s.endTare.stroke.window =
    s.stroke.window ∧ s.endTare.stroke.fm = s.stroke.fm ∧ s.endTare.stroke.lf = s.stroke.lf ∧
    s.endTare.stroke.tareState = s.stroke.tareState := by
  simp only [State.endTare]
  repeat' split
  all_goals simp

@[simp] theorem State.failTare_frame (s : State) :
    s.failTare.pending = s.pending ∧ s.failTare.startup = s.startup ∧ s.failTare.pins = s.pins ∧ s.failTare.queue =
    s.queue ∧ s.failTare.override = s.override ∧ s.failTare.interp = s.interp ∧ s.failTare.seq = s.seq ∧
    s.failTare.classifier = s.classifier ∧ s.failTare.bus = s.bus ∧ s.failTare.trip = s.trip ∧ s.failTare.link =
    s.link ∧ s.failTare.settings = s.settings ∧ s.failTare.outputs = s.outputs ∧ s.failTare.attnFalls = s.attnFalls
    ∧ s.failTare.twoWire = s.twoWire ∧ s.failTare.draws = s.draws ∧ s.failTare.stroke.fSet = s.stroke.fSet ∧
    s.failTare.stroke.stall = s.stroke.stall ∧ s.failTare.stroke.window = s.stroke.window ∧ s.failTare.stroke.fm =
    s.stroke.fm ∧ s.failTare.stroke.lf = s.stroke.lf ∧ s.failTare.notice.trip = s.notice.trip ∧
    s.failTare.notice.engineState = s.notice.engineState ∧ s.failTare.notice.segmentDone = s.notice.segmentDone ∧
    s.failTare.notice.queueLow = s.notice.queueLow ∧ s.failTare.notice.band = s.notice.band ∧
    s.failTare.notice.storeDone = s.notice.storeDone ∧ s.failTare.notice.enables = s.notice.enables ∧
    s.failTare.notice.lastSent = s.notice.lastSent := by
  simp only [State.failTare]; split <;> simp

@[simp] theorem State.tareSuccess_frame (s : State) (n : Nat) :
    (s.tareSuccess n).pending = s.pending ∧ (s.tareSuccess n).startup = s.startup ∧ (s.tareSuccess n).pins = s.pins
    ∧ (s.tareSuccess n).queue = s.queue ∧ (s.tareSuccess n).override = s.override ∧ (s.tareSuccess n).interp =
    s.interp ∧ (s.tareSuccess n).seq = s.seq ∧ (s.tareSuccess n).classifier = s.classifier ∧ (s.tareSuccess n).bus =
    s.bus ∧ (s.tareSuccess n).trip = s.trip ∧ (s.tareSuccess n).link = s.link ∧ (s.tareSuccess n).outputs =
    s.outputs ∧ (s.tareSuccess n).attnFalls = s.attnFalls ∧ (s.tareSuccess n).twoWire = s.twoWire ∧ (s.tareSuccess
    n).draws = s.draws ∧ (s.tareSuccess n).stroke.fSet = s.stroke.fSet ∧ (s.tareSuccess n).stroke.stall =
    s.stroke.stall ∧ (s.tareSuccess n).stroke.window = s.stroke.window ∧ (s.tareSuccess n).stroke.fm = s.stroke.fm ∧
    (s.tareSuccess n).stroke.lf = s.stroke.lf ∧ (s.tareSuccess n).settings.source = s.settings.source ∧
    (s.tareSuccess n).settings.present = s.settings.present ∧ (s.tareSuccess n).settings.store = s.settings.store ∧
    (s.tareSuccess n).settings.save = s.settings.save ∧ (s.tareSuccess n).notice.trip = s.notice.trip ∧
    (s.tareSuccess n).notice.engineState = s.notice.engineState ∧ (s.tareSuccess n).notice.segmentDone =
    s.notice.segmentDone ∧ (s.tareSuccess n).notice.queueLow = s.notice.queueLow ∧ (s.tareSuccess n).notice.band =
    s.notice.band ∧ (s.tareSuccess n).notice.storeDone = s.notice.storeDone ∧ (s.tareSuccess n).notice.enables =
    s.notice.enables ∧ (s.tareSuccess n).notice.lastSent = s.notice.lastSent := by
  simp [State.tareSuccess]

@[simp] theorem State.strokeStart_start_frame (s : State) :
    (State.strokeStart.start s).pending = s.pending ∧ (State.strokeStart.start s).startup = s.startup ∧
    (State.strokeStart.start s).pins = s.pins ∧ (State.strokeStart.start s).queue = s.queue ∧
    (State.strokeStart.start s).override = s.override ∧ (State.strokeStart.start s).interp = s.interp ∧
    (State.strokeStart.start s).seq = s.seq ∧ (State.strokeStart.start s).classifier = s.classifier ∧
    (State.strokeStart.start s).bus = s.bus ∧ (State.strokeStart.start s).trip = s.trip ∧ (State.strokeStart.start
    s).link = s.link ∧ (State.strokeStart.start s).notice = s.notice ∧ (State.strokeStart.start s).settings =
    s.settings ∧ (State.strokeStart.start s).outputs = s.outputs ∧ (State.strokeStart.start s).attnFalls =
    s.attnFalls ∧ (State.strokeStart.start s).twoWire = s.twoWire ∧ (State.strokeStart.start s).draws = s.draws ∧
    (State.strokeStart.start s).stroke.fSet = s.stroke.fSet ∧ (State.strokeStart.start s).stroke.slow =
    s.stroke.slow ∧ (State.strokeStart.start s).stroke.stall = s.stroke.stall ∧ (State.strokeStart.start
    s).stroke.window = s.stroke.window ∧ (State.strokeStart.start s).stroke.fm = s.stroke.fm ∧
    (State.strokeStart.start s).stroke.lf = s.stroke.lf ∧ (State.strokeStart.start s).stroke.tareState =
    s.stroke.tareState ∧ (State.strokeStart.start s).stroke.tare = s.stroke.tare := by
  simp [State.strokeStart.start]

@[simp] theorem State.strokeStart_frame (s : State) :
    s.strokeStart.pending = s.pending ∧ s.strokeStart.startup = s.startup ∧ s.strokeStart.pins = s.pins ∧
    s.strokeStart.queue = s.queue ∧ s.strokeStart.override = s.override ∧ s.strokeStart.interp = s.interp ∧
    s.strokeStart.classifier = s.classifier ∧ s.strokeStart.link = s.link ∧ s.strokeStart.settings = s.settings ∧
    s.strokeStart.outputs = s.outputs ∧ s.strokeStart.attnFalls = s.attnFalls ∧ s.strokeStart.twoWire = s.twoWire ∧
    s.strokeStart.draws = s.draws ∧ s.strokeStart.seq.engine = s.seq.engine ∧ s.strokeStart.seq.resume =
    s.seq.resume ∧ s.strokeStart.seq.dwellCount = s.seq.dwellCount ∧ s.strokeStart.seq.starve = s.seq.starve ∧
    s.strokeStart.seq.interrupted = s.seq.interrupted ∧ s.strokeStart.bus.started = s.bus.started ∧
    s.strokeStart.bus.frameCount = s.bus.frameCount ∧ s.strokeStart.bus.level = s.bus.level ∧ s.strokeStart.bus.x =
    s.bus.x ∧ s.strokeStart.bus.y = s.bus.y ∧ s.strokeStart.bus.h = s.bus.h ∧ s.strokeStart.bus.s = s.bus.s ∧
    s.strokeStart.bus.window = s.bus.window ∧ s.strokeStart.bus.line = s.bus.line ∧ s.strokeStart.trip.inputs =
    s.trip.inputs ∧ s.strokeStart.trip.green = s.trip.green ∧ s.strokeStart.trip.amber = s.trip.amber ∧
    s.strokeStart.trip.red = s.trip.red ∧ s.strokeStart.trip.blink = s.trip.blink ∧ s.strokeStart.stroke.fSet =
    s.stroke.fSet ∧ s.strokeStart.stroke.slow = s.stroke.slow ∧ s.strokeStart.stroke.window = s.stroke.window ∧
    s.strokeStart.stroke.fm = s.stroke.fm ∧ s.strokeStart.stroke.lf = s.stroke.lf ∧ s.strokeStart.stroke.tareState =
    s.stroke.tareState ∧ s.strokeStart.stroke.tare = s.stroke.tare ∧ s.strokeStart.bus.opening = s.bus.opening ∧
    s.strokeStart.notice.engineState = s.notice.engineState ∧ s.strokeStart.notice.segmentDone =
    s.notice.segmentDone ∧ s.strokeStart.notice.queueLow = s.notice.queueLow ∧ s.strokeStart.notice.band =
    s.notice.band ∧ s.strokeStart.notice.tareDone = s.notice.tareDone ∧ s.strokeStart.notice.storeDone =
    s.notice.storeDone ∧ s.strokeStart.notice.enables = s.notice.enables ∧ s.strokeStart.notice.lastSent =
    s.notice.lastSent := by
  simp only [State.strokeStart]; split <;> simp

@[simp] theorem State.strokeStop_frame (s : State) :
    s.strokeStop.pending = s.pending ∧ s.strokeStop.startup = s.startup ∧ s.strokeStop.pins = s.pins ∧
    s.strokeStop.queue = s.queue ∧ s.strokeStop.override = s.override ∧ s.strokeStop.interp = s.interp ∧
    s.strokeStop.seq = s.seq ∧ s.strokeStop.classifier = s.classifier ∧ s.strokeStop.bus = s.bus ∧ s.strokeStop.trip
    = s.trip ∧ s.strokeStop.link = s.link ∧ s.strokeStop.settings = s.settings ∧ s.strokeStop.outputs = s.outputs ∧
    s.strokeStop.attnFalls = s.attnFalls ∧ s.strokeStop.twoWire = s.twoWire ∧ s.strokeStop.draws = s.draws ∧
    s.strokeStop.stroke.fSet = s.stroke.fSet ∧ s.strokeStop.stroke.stall = s.stroke.stall ∧
    s.strokeStop.stroke.window = s.stroke.window ∧ s.strokeStop.stroke.fm = s.stroke.fm ∧ s.strokeStop.stroke.lf =
    s.stroke.lf ∧ s.strokeStop.notice.trip = s.notice.trip ∧ s.strokeStop.notice.engineState = s.notice.engineState
    ∧ s.strokeStop.notice.segmentDone = s.notice.segmentDone ∧ s.strokeStop.notice.queueLow = s.notice.queueLow ∧
    s.strokeStop.notice.band = s.notice.band ∧ s.strokeStop.notice.storeDone = s.notice.storeDone ∧
    s.strokeStop.notice.enables = s.notice.enables ∧ s.strokeStop.notice.lastSent = s.notice.lastSent := by
  simp only [State.strokeStop]; split <;> simp

@[simp] theorem State.strokeStopped_frame (s : State) :
    s.strokeStopped.pending = s.pending ∧ s.strokeStopped.startup = s.startup ∧ s.strokeStopped.pins = s.pins ∧
    s.strokeStopped.queue = s.queue ∧ s.strokeStopped.override = s.override ∧ s.strokeStopped.interp = s.interp ∧
    s.strokeStopped.link = s.link ∧ s.strokeStopped.settings = s.settings ∧ s.strokeStopped.outputs = s.outputs ∧
    s.strokeStopped.attnFalls = s.attnFalls ∧ s.strokeStopped.twoWire = s.twoWire ∧ s.strokeStopped.draws = s.draws
    ∧ s.strokeStopped.seq.engine = s.seq.engine ∧ s.strokeStopped.seq.resume = s.seq.resume ∧
    s.strokeStopped.seq.dwellCount = s.seq.dwellCount ∧ s.strokeStopped.seq.starve = s.seq.starve ∧
    s.strokeStopped.seq.interrupted = s.seq.interrupted ∧ s.strokeStopped.bus.started = s.bus.started ∧
    s.strokeStopped.bus.frameCount = s.bus.frameCount ∧ s.strokeStopped.bus.level = s.bus.level ∧
    s.strokeStopped.bus.x = s.bus.x ∧ s.strokeStopped.bus.y = s.bus.y ∧ s.strokeStopped.bus.h = s.bus.h ∧
    s.strokeStopped.bus.s = s.bus.s ∧ s.strokeStopped.bus.window = s.bus.window ∧ s.strokeStopped.bus.line =
    s.bus.line ∧ s.strokeStopped.trip.inputs = s.trip.inputs ∧ s.strokeStopped.trip.green = s.trip.green ∧
    s.strokeStopped.trip.amber = s.trip.amber ∧ s.strokeStopped.trip.red = s.trip.red ∧ s.strokeStopped.trip.blink =
    s.trip.blink ∧ s.strokeStopped.stroke.fSet = s.stroke.fSet ∧ s.strokeStopped.stroke.startTimer =
    s.stroke.startTimer ∧ s.strokeStopped.stroke.good = s.stroke.good ∧ s.strokeStopped.stroke.slow = s.stroke.slow
    ∧ s.strokeStopped.stroke.window = s.stroke.window ∧ s.strokeStopped.stroke.fm = s.stroke.fm ∧
    s.strokeStopped.stroke.lf = s.stroke.lf ∧ s.strokeStopped.stroke.tareState = s.stroke.tareState ∧
    s.strokeStopped.stroke.tare = s.stroke.tare ∧ s.strokeStopped.classifier.bands = s.classifier.bands ∧
    s.strokeStopped.classifier.material = s.classifier.material ∧ s.strokeStopped.classifier.candidate =
    s.classifier.candidate ∧ s.strokeStopped.classifier.df = s.classifier.df ∧ s.strokeStopped.bus.opening =
    s.bus.opening ∧ s.strokeStopped.notice.engineState = s.notice.engineState ∧ s.strokeStopped.notice.segmentDone =
    s.notice.segmentDone ∧ s.strokeStopped.notice.queueLow = s.notice.queueLow ∧ s.strokeStopped.notice.band =
    s.notice.band ∧ s.strokeStopped.notice.tareDone = s.notice.tareDone ∧ s.strokeStopped.notice.storeDone =
    s.notice.storeDone ∧ s.strokeStopped.notice.enables = s.notice.enables ∧ s.strokeStopped.notice.lastSent =
    s.notice.lastSent := by
  simp [State.strokeStopped]

@[simp] theorem State.strokeStalls_frame (s : State) :
    s.strokeStalls.pending = s.pending ∧ s.strokeStalls.startup = s.startup ∧ s.strokeStalls.pins = s.pins ∧
    s.strokeStalls.queue = s.queue ∧ s.strokeStalls.override = s.override ∧ s.strokeStalls.interp = s.interp ∧
    s.strokeStalls.classifier = s.classifier ∧ s.strokeStalls.link = s.link ∧ s.strokeStalls.settings = s.settings ∧
    s.strokeStalls.outputs = s.outputs ∧ s.strokeStalls.attnFalls = s.attnFalls ∧ s.strokeStalls.twoWire = s.twoWire
    ∧ s.strokeStalls.draws = s.draws ∧ s.strokeStalls.seq.engine = s.seq.engine ∧ s.strokeStalls.seq.resume =
    s.seq.resume ∧ s.strokeStalls.seq.dwellCount = s.seq.dwellCount ∧ s.strokeStalls.seq.starve = s.seq.starve ∧
    s.strokeStalls.seq.interrupted = s.seq.interrupted ∧ s.strokeStalls.bus.started = s.bus.started ∧
    s.strokeStalls.bus.frameCount = s.bus.frameCount ∧ s.strokeStalls.bus.level = s.bus.level ∧ s.strokeStalls.bus.x
    = s.bus.x ∧ s.strokeStalls.bus.y = s.bus.y ∧ s.strokeStalls.bus.h = s.bus.h ∧ s.strokeStalls.bus.s = s.bus.s ∧
    s.strokeStalls.bus.window = s.bus.window ∧ s.strokeStalls.bus.line = s.bus.line ∧ s.strokeStalls.trip.inputs =
    s.trip.inputs ∧ s.strokeStalls.trip.green = s.trip.green ∧ s.strokeStalls.trip.amber = s.trip.amber ∧
    s.strokeStalls.trip.red = s.trip.red ∧ s.strokeStalls.trip.blink = s.trip.blink ∧ s.strokeStalls.stroke.fSet =
    s.stroke.fSet ∧ s.strokeStalls.stroke.window = s.stroke.window ∧ s.strokeStalls.stroke.fm = s.stroke.fm ∧
    s.strokeStalls.stroke.lf = s.stroke.lf ∧ s.strokeStalls.bus.opening = s.bus.opening ∧
    s.strokeStalls.notice.engineState = s.notice.engineState ∧ s.strokeStalls.notice.segmentDone =
    s.notice.segmentDone ∧ s.strokeStalls.notice.queueLow = s.notice.queueLow ∧ s.strokeStalls.notice.band =
    s.notice.band ∧ s.strokeStalls.notice.storeDone = s.notice.storeDone ∧ s.strokeStalls.notice.enables =
    s.notice.enables ∧ s.strokeStalls.notice.lastSent = s.notice.lastSent := by
  simp [State.strokeStalls]

@[simp] theorem State.strokeRuns_frame (s : State) :
    s.strokeRuns.pending = s.pending ∧ s.strokeRuns.startup = s.startup ∧ s.strokeRuns.pins = s.pins ∧
    s.strokeRuns.queue = s.queue ∧ s.strokeRuns.override = s.override ∧ s.strokeRuns.interp = s.interp ∧
    s.strokeRuns.classifier = s.classifier ∧ s.strokeRuns.link = s.link ∧ s.strokeRuns.settings = s.settings ∧
    s.strokeRuns.outputs = s.outputs ∧ s.strokeRuns.attnFalls = s.attnFalls ∧ s.strokeRuns.twoWire = s.twoWire ∧
    s.strokeRuns.draws = s.draws ∧ s.strokeRuns.seq.engine = s.seq.engine ∧ s.strokeRuns.seq.resume = s.seq.resume ∧
    s.strokeRuns.seq.dwellCount = s.seq.dwellCount ∧ s.strokeRuns.seq.starve = s.seq.starve ∧
    s.strokeRuns.seq.interrupted = s.seq.interrupted ∧ s.strokeRuns.bus.started = s.bus.started ∧
    s.strokeRuns.bus.frameCount = s.bus.frameCount ∧ s.strokeRuns.bus.level = s.bus.level ∧ s.strokeRuns.bus.x =
    s.bus.x ∧ s.strokeRuns.bus.y = s.bus.y ∧ s.strokeRuns.bus.h = s.bus.h ∧ s.strokeRuns.bus.s = s.bus.s ∧
    s.strokeRuns.bus.window = s.bus.window ∧ s.strokeRuns.bus.line = s.bus.line ∧ s.strokeRuns.trip.inputs =
    s.trip.inputs ∧ s.strokeRuns.trip.green = s.trip.green ∧ s.strokeRuns.trip.amber = s.trip.amber ∧
    s.strokeRuns.trip.red = s.trip.red ∧ s.strokeRuns.trip.blink = s.trip.blink ∧ s.strokeRuns.stroke.fSet =
    s.stroke.fSet ∧ s.strokeRuns.stroke.window = s.stroke.window ∧ s.strokeRuns.stroke.fm = s.stroke.fm ∧
    s.strokeRuns.stroke.lf = s.stroke.lf ∧ s.strokeRuns.stroke.tare = s.stroke.tare ∧ s.strokeRuns.stroke.startTimer
    = s.stroke.startTimer ∧ s.strokeRuns.stroke.stopTimer = s.stroke.stopTimer ∧ s.strokeRuns.stroke.good =
    s.stroke.good ∧ s.strokeRuns.bus.opening = s.bus.opening ∧ s.strokeRuns.notice.engineState =
    s.notice.engineState ∧ s.strokeRuns.notice.segmentDone = s.notice.segmentDone ∧ s.strokeRuns.notice.queueLow =
    s.notice.queueLow ∧ s.strokeRuns.notice.band = s.notice.band ∧ s.strokeRuns.notice.tareDone = s.notice.tareDone
    ∧ s.strokeRuns.notice.storeDone = s.notice.storeDone ∧ s.strokeRuns.notice.enables = s.notice.enables ∧
    s.strokeRuns.notice.lastSent = s.notice.lastSent := by
  simp only [State.strokeRuns]; split <;> simp

@[simp] theorem State.judge_frame (s : State) (fm : Nat) :
    (s.judge fm).pending = s.pending ∧ (s.judge fm).startup = s.startup ∧ (s.judge fm).pins = s.pins ∧ (s.judge
    fm).queue = s.queue ∧ (s.judge fm).override = s.override ∧ (s.judge fm).interp = s.interp ∧ (s.judge
    fm).classifier = s.classifier ∧ (s.judge fm).link = s.link ∧ (s.judge fm).settings = s.settings ∧ (s.judge
    fm).outputs = s.outputs ∧ (s.judge fm).attnFalls = s.attnFalls ∧ (s.judge fm).twoWire = s.twoWire ∧ (s.judge
    fm).draws = s.draws ∧ (s.judge fm).seq.engine = s.seq.engine ∧ (s.judge fm).seq.resume = s.seq.resume ∧ (s.judge
    fm).seq.dwellCount = s.seq.dwellCount ∧ (s.judge fm).seq.starve = s.seq.starve ∧ (s.judge fm).seq.interrupted =
    s.seq.interrupted ∧ (s.judge fm).bus.started = s.bus.started ∧ (s.judge fm).bus.frameCount = s.bus.frameCount ∧
    (s.judge fm).bus.level = s.bus.level ∧ (s.judge fm).bus.x = s.bus.x ∧ (s.judge fm).bus.y = s.bus.y ∧ (s.judge
    fm).bus.h = s.bus.h ∧ (s.judge fm).bus.s = s.bus.s ∧ (s.judge fm).bus.window = s.bus.window ∧ (s.judge
    fm).bus.line = s.bus.line ∧ (s.judge fm).trip.inputs = s.trip.inputs ∧ (s.judge fm).trip.green = s.trip.green ∧
    (s.judge fm).trip.amber = s.trip.amber ∧ (s.judge fm).trip.red = s.trip.red ∧ (s.judge fm).trip.blink =
    s.trip.blink ∧ (s.judge fm).stroke.fSet = s.stroke.fSet ∧ (s.judge fm).stroke.window = s.stroke.window ∧
    (s.judge fm).stroke.fm = s.stroke.fm ∧ (s.judge fm).stroke.lf = s.stroke.lf ∧ (s.judge fm).bus.opening =
    s.bus.opening ∧ (s.judge fm).notice.engineState = s.notice.engineState ∧ (s.judge fm).notice.segmentDone =
    s.notice.segmentDone ∧ (s.judge fm).notice.queueLow = s.notice.queueLow ∧ (s.judge fm).notice.band =
    s.notice.band ∧ (s.judge fm).notice.storeDone = s.notice.storeDone ∧ (s.judge fm).notice.enables =
    s.notice.enables ∧ (s.judge fm).notice.lastSent = s.notice.lastSent := by
  simp only [State.judge]
  repeat' split
  all_goals simp

@[simp] theorem State.tareWindow_frame (s : State) (lf : Nat) :
    (s.tareWindow lf).pending = s.pending ∧ (s.tareWindow lf).startup = s.startup ∧ (s.tareWindow lf).pins = s.pins
    ∧ (s.tareWindow lf).queue = s.queue ∧ (s.tareWindow lf).override = s.override ∧ (s.tareWindow lf).interp =
    s.interp ∧ (s.tareWindow lf).seq = s.seq ∧ (s.tareWindow lf).classifier = s.classifier ∧ (s.tareWindow lf).bus =
    s.bus ∧ (s.tareWindow lf).trip = s.trip ∧ (s.tareWindow lf).link = s.link ∧ (s.tareWindow lf).outputs =
    s.outputs ∧ (s.tareWindow lf).attnFalls = s.attnFalls ∧ (s.tareWindow lf).twoWire = s.twoWire ∧ (s.tareWindow
    lf).draws = s.draws ∧ (s.tareWindow lf).stroke.fSet = s.stroke.fSet ∧ (s.tareWindow lf).stroke.window =
    s.stroke.window ∧ (s.tareWindow lf).stroke.fm = s.stroke.fm ∧ (s.tareWindow lf).stroke.lf = s.stroke.lf ∧
    (s.tareWindow lf).stroke.stall = s.stroke.stall ∧ (s.tareWindow lf).settings.source = s.settings.source ∧
    (s.tareWindow lf).settings.present = s.settings.present ∧ (s.tareWindow lf).settings.store = s.settings.store ∧
    (s.tareWindow lf).settings.save = s.settings.save ∧ (s.tareWindow lf).notice.trip = s.notice.trip ∧
    (s.tareWindow lf).notice.engineState = s.notice.engineState ∧ (s.tareWindow lf).notice.segmentDone =
    s.notice.segmentDone ∧ (s.tareWindow lf).notice.queueLow = s.notice.queueLow ∧ (s.tareWindow lf).notice.band =
    s.notice.band ∧ (s.tareWindow lf).notice.storeDone = s.notice.storeDone ∧ (s.tareWindow lf).notice.enables =
    s.notice.enables ∧ (s.tareWindow lf).notice.lastSent = s.notice.lastSent := by
  simp only [State.tareWindow]
  repeat' split
  all_goals simp

@[simp] theorem State.openWindow_frame (s : State) :
    s.openWindow.pending = s.pending ∧ s.openWindow.startup = s.startup ∧ s.openWindow.pins = s.pins ∧
    s.openWindow.queue = s.queue ∧ s.openWindow.override = s.override ∧ s.openWindow.interp = s.interp ∧
    s.openWindow.seq = s.seq ∧ s.openWindow.classifier = s.classifier ∧ s.openWindow.bus = s.bus ∧ s.openWindow.trip
    = s.trip ∧ s.openWindow.link = s.link ∧ s.openWindow.notice = s.notice ∧ s.openWindow.settings = s.settings ∧
    s.openWindow.outputs = s.outputs ∧ s.openWindow.attnFalls = s.attnFalls ∧ s.openWindow.twoWire = s.twoWire ∧
    s.openWindow.draws = s.draws ∧ s.openWindow.stroke.state = s.stroke.state ∧ s.openWindow.stroke.fSet =
    s.stroke.fSet ∧ s.openWindow.stroke.startTimer = s.stroke.startTimer ∧ s.openWindow.stroke.stopTimer =
    s.stroke.stopTimer ∧ s.openWindow.stroke.good = s.stroke.good ∧ s.openWindow.stroke.slow = s.stroke.slow ∧
    s.openWindow.stroke.stall = s.stroke.stall ∧ s.openWindow.stroke.fm = s.stroke.fm ∧ s.openWindow.stroke.lf =
    s.stroke.lf ∧ s.openWindow.stroke.tareState = s.stroke.tareState := by
  simp [State.openWindow]

@[simp] theorem State.completeWindow_frame (s : State) (win : Window) :
    (s.completeWindow win).pending = s.pending ∧ (s.completeWindow win).startup = s.startup ∧ (s.completeWindow
    win).pins = s.pins ∧ (s.completeWindow win).queue = s.queue ∧ (s.completeWindow win).override = s.override ∧
    (s.completeWindow win).interp = s.interp ∧ (s.completeWindow win).link = s.link ∧ (s.completeWindow win).outputs
    = s.outputs ∧ (s.completeWindow win).attnFalls = s.attnFalls ∧ (s.completeWindow win).twoWire = s.twoWire ∧
    (s.completeWindow win).draws = s.draws ∧ (s.completeWindow win).seq.engine = s.seq.engine ∧ (s.completeWindow
    win).seq.resume = s.seq.resume ∧ (s.completeWindow win).seq.dwellCount = s.seq.dwellCount ∧ (s.completeWindow
    win).seq.starve = s.seq.starve ∧ (s.completeWindow win).seq.interrupted = s.seq.interrupted ∧ (s.completeWindow
    win).bus.started = s.bus.started ∧ (s.completeWindow win).bus.frameCount = s.bus.frameCount ∧ (s.completeWindow
    win).bus.level = s.bus.level ∧ (s.completeWindow win).bus.x = s.bus.x ∧ (s.completeWindow win).bus.y = s.bus.y ∧
    (s.completeWindow win).bus.h = s.bus.h ∧ (s.completeWindow win).bus.s = s.bus.s ∧ (s.completeWindow
    win).bus.window = s.bus.window ∧ (s.completeWindow win).bus.line = s.bus.line ∧ (s.completeWindow
    win).trip.inputs = s.trip.inputs ∧ (s.completeWindow win).trip.green = s.trip.green ∧ (s.completeWindow
    win).trip.amber = s.trip.amber ∧ (s.completeWindow win).trip.red = s.trip.red ∧ (s.completeWindow
    win).trip.blink = s.trip.blink ∧ (s.completeWindow win).stroke.fSet = s.stroke.fSet ∧ (s.completeWindow
    win).settings.source = s.settings.source ∧ (s.completeWindow win).settings.present = s.settings.present ∧
    (s.completeWindow win).settings.store = s.settings.store ∧ (s.completeWindow win).settings.save =
    s.settings.save ∧ (s.completeWindow win).classifier.bands = s.classifier.bands ∧ (s.completeWindow
    win).bus.opening = s.bus.opening ∧ (s.completeWindow win).notice.engineState = s.notice.engineState ∧
    (s.completeWindow win).notice.segmentDone = s.notice.segmentDone ∧ (s.completeWindow win).notice.queueLow =
    s.notice.queueLow ∧ (s.completeWindow win).notice.storeDone = s.notice.storeDone ∧ (s.completeWindow
    win).notice.enables = s.notice.enables ∧ (s.completeWindow win).notice.lastSent = s.notice.lastSent := by
  simp only [State.completeWindow]; split <;> simp

@[simp] theorem State.overflowWindow_frame (s : State) :
    s.overflowWindow.pending = s.pending ∧ s.overflowWindow.startup = s.startup ∧ s.overflowWindow.pins = s.pins ∧
    s.overflowWindow.queue = s.queue ∧ s.overflowWindow.override = s.override ∧ s.overflowWindow.interp = s.interp ∧
    s.overflowWindow.classifier = s.classifier ∧ s.overflowWindow.link = s.link ∧ s.overflowWindow.settings =
    s.settings ∧ s.overflowWindow.outputs = s.outputs ∧ s.overflowWindow.attnFalls = s.attnFalls ∧
    s.overflowWindow.twoWire = s.twoWire ∧ s.overflowWindow.draws = s.draws ∧ s.overflowWindow.seq.engine =
    s.seq.engine ∧ s.overflowWindow.seq.resume = s.seq.resume ∧ s.overflowWindow.seq.dwellCount = s.seq.dwellCount ∧
    s.overflowWindow.seq.starve = s.seq.starve ∧ s.overflowWindow.seq.interrupted = s.seq.interrupted ∧
    s.overflowWindow.bus.started = s.bus.started ∧ s.overflowWindow.bus.frameCount = s.bus.frameCount ∧
    s.overflowWindow.bus.level = s.bus.level ∧ s.overflowWindow.bus.x = s.bus.x ∧ s.overflowWindow.bus.y = s.bus.y ∧
    s.overflowWindow.bus.h = s.bus.h ∧ s.overflowWindow.bus.s = s.bus.s ∧ s.overflowWindow.bus.window = s.bus.window
    ∧ s.overflowWindow.bus.line = s.bus.line ∧ s.overflowWindow.trip.inputs = s.trip.inputs ∧
    s.overflowWindow.trip.green = s.trip.green ∧ s.overflowWindow.trip.amber = s.trip.amber ∧
    s.overflowWindow.trip.red = s.trip.red ∧ s.overflowWindow.trip.blink = s.trip.blink ∧
    s.overflowWindow.stroke.fSet = s.stroke.fSet ∧ s.overflowWindow.stroke.lf = s.stroke.lf ∧
    s.overflowWindow.bus.opening = s.bus.opening ∧ s.overflowWindow.notice.engineState = s.notice.engineState ∧
    s.overflowWindow.notice.segmentDone = s.notice.segmentDone ∧ s.overflowWindow.notice.queueLow =
    s.notice.queueLow ∧ s.overflowWindow.notice.band = s.notice.band ∧ s.overflowWindow.notice.storeDone =
    s.notice.storeDone ∧ s.overflowWindow.notice.enables = s.notice.enables ∧ s.overflowWindow.notice.lastSent =
    s.notice.lastSent := by
  simp only [State.overflowWindow]; split <;> simp

@[simp] theorem State.frameReport_frame (s : State) (a : Nat) (m : Bool) :
    (s.frameReport a m).pending = s.pending ∧ (s.frameReport a m).startup = s.startup ∧ (s.frameReport a m).pins =
    s.pins ∧ (s.frameReport a m).queue = s.queue ∧ (s.frameReport a m).override = s.override ∧ (s.frameReport a
    m).interp = s.interp ∧ (s.frameReport a m).seq = s.seq ∧ (s.frameReport a m).classifier = s.classifier ∧
    (s.frameReport a m).bus = s.bus ∧ (s.frameReport a m).trip = s.trip ∧ (s.frameReport a m).link = s.link ∧
    (s.frameReport a m).settings = s.settings ∧ (s.frameReport a m).outputs = s.outputs ∧ (s.frameReport a
    m).attnFalls = s.attnFalls ∧ (s.frameReport a m).twoWire = s.twoWire ∧ (s.frameReport a m).draws = s.draws ∧
    (s.frameReport a m).stroke.fSet = s.stroke.fSet ∧ (s.frameReport a m).stroke.fm = s.stroke.fm ∧ (s.frameReport a
    m).stroke.lf = s.stroke.lf ∧ (s.frameReport a m).stroke.stall = s.stroke.stall ∧ (s.frameReport a m).notice.trip
    = s.notice.trip ∧ (s.frameReport a m).notice.engineState = s.notice.engineState ∧ (s.frameReport a
    m).notice.segmentDone = s.notice.segmentDone ∧ (s.frameReport a m).notice.queueLow = s.notice.queueLow ∧
    (s.frameReport a m).notice.band = s.notice.band ∧ (s.frameReport a m).notice.storeDone = s.notice.storeDone ∧
    (s.frameReport a m).notice.enables = s.notice.enables ∧ (s.frameReport a m).notice.lastSent = s.notice.lastSent := by
  simp only [State.frameReport]
  repeat' split
  all_goals simp

@[simp] theorem State.deriveFSet_frame (s : State) :
    s.deriveFSet.pending = s.pending ∧ s.deriveFSet.startup = s.startup ∧ s.deriveFSet.pins = s.pins ∧
    s.deriveFSet.queue = s.queue ∧ s.deriveFSet.override = s.override ∧ s.deriveFSet.interp = s.interp ∧
    s.deriveFSet.seq = s.seq ∧ s.deriveFSet.classifier = s.classifier ∧ s.deriveFSet.bus = s.bus ∧ s.deriveFSet.trip
    = s.trip ∧ s.deriveFSet.link = s.link ∧ s.deriveFSet.notice = s.notice ∧ s.deriveFSet.settings = s.settings ∧
    s.deriveFSet.outputs = s.outputs ∧ s.deriveFSet.attnFalls = s.attnFalls ∧ s.deriveFSet.twoWire = s.twoWire ∧
    s.deriveFSet.draws = s.draws ∧ s.deriveFSet.stroke.state = s.stroke.state ∧ s.deriveFSet.stroke.startTimer =
    s.stroke.startTimer ∧ s.deriveFSet.stroke.stopTimer = s.stroke.stopTimer ∧ s.deriveFSet.stroke.good =
    s.stroke.good ∧ s.deriveFSet.stroke.slow = s.stroke.slow ∧ s.deriveFSet.stroke.stall = s.stroke.stall ∧
    s.deriveFSet.stroke.window = s.stroke.window ∧ s.deriveFSet.stroke.fm = s.stroke.fm ∧ s.deriveFSet.stroke.lf =
    s.stroke.lf ∧ s.deriveFSet.stroke.tareState = s.stroke.tareState ∧ s.deriveFSet.stroke.tare = s.stroke.tare := by
  simp [State.deriveFSet]

@[simp] theorem State.serveTare_create_frame (s : State) (o : Bool) (t : TareState) :
    (State.serveTare.create s o t).pending = s.pending ∧ (State.serveTare.create s o t).startup = s.startup ∧
    (State.serveTare.create s o t).pins = s.pins ∧ (State.serveTare.create s o t).queue = s.queue ∧
    (State.serveTare.create s o t).override = s.override ∧ (State.serveTare.create s o t).interp = s.interp ∧
    (State.serveTare.create s o t).seq = s.seq ∧ (State.serveTare.create s o t).classifier = s.classifier ∧
    (State.serveTare.create s o t).bus = s.bus ∧ (State.serveTare.create s o t).trip = s.trip ∧
    (State.serveTare.create s o t).link = s.link ∧ (State.serveTare.create s o t).notice = s.notice ∧
    (State.serveTare.create s o t).settings = s.settings ∧ (State.serveTare.create s o t).outputs = s.outputs ∧
    (State.serveTare.create s o t).attnFalls = s.attnFalls ∧ (State.serveTare.create s o t).twoWire = s.twoWire ∧
    (State.serveTare.create s o t).draws = s.draws ∧ (State.serveTare.create s o t).stroke.state = s.stroke.state ∧
    (State.serveTare.create s o t).stroke.fSet = s.stroke.fSet ∧ (State.serveTare.create s o t).stroke.startTimer =
    s.stroke.startTimer ∧ (State.serveTare.create s o t).stroke.stopTimer = s.stroke.stopTimer ∧
    (State.serveTare.create s o t).stroke.good = s.stroke.good ∧ (State.serveTare.create s o t).stroke.slow =
    s.stroke.slow ∧ (State.serveTare.create s o t).stroke.stall = s.stroke.stall ∧ (State.serveTare.create s o
    t).stroke.window = s.stroke.window ∧ (State.serveTare.create s o t).stroke.fm = s.stroke.fm ∧
    (State.serveTare.create s o t).stroke.lf = s.stroke.lf := by
  simp [State.serveTare.create]

@[simp] theorem State.serveTare_frame (s : State) :
    s.serveTare.1.pending = s.pending ∧ s.serveTare.1.startup = s.startup ∧ s.serveTare.1.pins = s.pins ∧
    s.serveTare.1.queue = s.queue ∧ s.serveTare.1.override = s.override ∧ s.serveTare.1.interp = s.interp ∧
    s.serveTare.1.classifier = s.classifier ∧ s.serveTare.1.link = s.link ∧ s.serveTare.1.settings = s.settings ∧
    s.serveTare.1.outputs = s.outputs ∧ s.serveTare.1.attnFalls = s.attnFalls ∧ s.serveTare.1.twoWire = s.twoWire ∧
    s.serveTare.1.draws = s.draws ∧ s.serveTare.1.seq.engine = s.seq.engine ∧ s.serveTare.1.seq.resume =
    s.seq.resume ∧ s.serveTare.1.seq.dwellCount = s.seq.dwellCount ∧ s.serveTare.1.seq.starve = s.seq.starve ∧
    s.serveTare.1.seq.interrupted = s.seq.interrupted ∧ s.serveTare.1.bus.started = s.bus.started ∧
    s.serveTare.1.bus.frameCount = s.bus.frameCount ∧ s.serveTare.1.bus.level = s.bus.level ∧ s.serveTare.1.bus.x =
    s.bus.x ∧ s.serveTare.1.bus.y = s.bus.y ∧ s.serveTare.1.bus.h = s.bus.h ∧ s.serveTare.1.bus.s = s.bus.s ∧
    s.serveTare.1.bus.window = s.bus.window ∧ s.serveTare.1.bus.line = s.bus.line ∧ s.serveTare.1.trip.inputs =
    s.trip.inputs ∧ s.serveTare.1.trip.green = s.trip.green ∧ s.serveTare.1.trip.amber = s.trip.amber ∧
    s.serveTare.1.trip.red = s.trip.red ∧ s.serveTare.1.trip.blink = s.trip.blink ∧ s.serveTare.1.bus.opening =
    s.bus.opening ∧ s.serveTare.1.notice.engineState = s.notice.engineState ∧ s.serveTare.1.notice.segmentDone =
    s.notice.segmentDone ∧ s.serveTare.1.notice.queueLow = s.notice.queueLow ∧ s.serveTare.1.notice.band =
    s.notice.band ∧ s.serveTare.1.notice.tareDone = s.notice.tareDone ∧ s.serveTare.1.notice.storeDone =
    s.notice.storeDone ∧ s.serveTare.1.notice.enables = s.notice.enables ∧ s.serveTare.1.notice.lastSent =
    s.notice.lastSent := by
  simp only [State.serveTare]
  repeat' split
  all_goals simp

end Sys2Proof.Machine
end

