-- ==== Sys2Proof/Laws/Sequencer.lean ====
section
/-! SUPPORT. The cut queue, the interpolator and the sequencer: for each shared operation, one lemma that says which parts of the state it leaves as they were. -/

namespace Sys2Proof.Machine

@[simp] theorem State.completeHead_frame (s : State) :
    s.completeHead.pending = s.pending ∧ s.completeHead.startup = s.startup ∧ s.completeHead.pins = s.pins ∧
    s.completeHead.override = s.override ∧ s.completeHead.seq = s.seq ∧ s.completeHead.stroke = s.stroke ∧
    s.completeHead.classifier = s.classifier ∧ s.completeHead.bus = s.bus ∧ s.completeHead.trip = s.trip ∧
    s.completeHead.link = s.link ∧ s.completeHead.settings = s.settings ∧ s.completeHead.outputs = s.outputs ∧
    s.completeHead.attnFalls = s.attnFalls ∧ s.completeHead.twoWire = s.twoWire ∧ s.completeHead.draws = s.draws ∧
    s.completeHead.queue.tail = s.queue.tail ∧ s.completeHead.interp.x = s.interp.x ∧ s.completeHead.interp.y =
    s.interp.y ∧ s.completeHead.interp.heading = s.interp.heading ∧ s.completeHead.interp.feed = s.interp.feed ∧
    s.completeHead.interp.turn = s.interp.turn ∧ s.completeHead.notice.trip = s.notice.trip ∧
    s.completeHead.notice.engineState = s.notice.engineState ∧ s.completeHead.notice.band = s.notice.band ∧
    s.completeHead.notice.tareDone = s.notice.tareDone ∧ s.completeHead.notice.storeDone = s.notice.storeDone ∧
    s.completeHead.notice.enables = s.notice.enables ∧ s.completeHead.notice.lastSent = s.notice.lastSent := by
  simp only [State.completeHead]
  repeat' split
  all_goals simp

@[simp] theorem State.flush_frame (s : State) :
    s.flush.pending = s.pending ∧ s.flush.startup = s.startup ∧ s.flush.pins = s.pins ∧ s.flush.override =
    s.override ∧ s.flush.seq = s.seq ∧ s.flush.stroke = s.stroke ∧ s.flush.classifier = s.classifier ∧ s.flush.bus =
    s.bus ∧ s.flush.trip = s.trip ∧ s.flush.link = s.link ∧ s.flush.notice = s.notice ∧ s.flush.settings =
    s.settings ∧ s.flush.outputs = s.outputs ∧ s.flush.attnFalls = s.attnFalls ∧ s.flush.twoWire = s.twoWire ∧
    s.flush.draws = s.draws ∧ s.flush.queue.tail.feed = s.queue.tail.feed ∧ s.flush.interp.x = s.interp.x ∧
    s.flush.interp.y = s.interp.y ∧ s.flush.interp.heading = s.interp.heading ∧ s.flush.interp.feed = s.interp.feed
    ∧ s.flush.interp.turn = s.interp.turn := by
  simp [State.flush]

@[simp] theorem State.append_frame (s : State) (r : Record) :
    (s.append r).pending = s.pending ∧ (s.append r).startup = s.startup ∧ (s.append r).pins = s.pins ∧ (s.append
    r).override = s.override ∧ (s.append r).seq = s.seq ∧ (s.append r).stroke = s.stroke ∧ (s.append r).classifier =
    s.classifier ∧ (s.append r).bus = s.bus ∧ (s.append r).trip = s.trip ∧ (s.append r).link = s.link ∧ (s.append
    r).notice = s.notice ∧ (s.append r).settings = s.settings ∧ (s.append r).outputs = s.outputs ∧ (s.append
    r).attnFalls = s.attnFalls ∧ (s.append r).twoWire = s.twoWire ∧ (s.append r).draws = s.draws ∧ (s.append
    r).interp.x = s.interp.x ∧ (s.append r).interp.y = s.interp.y ∧ (s.append r).interp.heading = s.interp.heading ∧
    (s.append r).interp.feed = s.interp.feed ∧ (s.append r).interp.turn = s.interp.turn := by
  simp only [State.append]; split <;> simp

@[simp] theorem State.takeSegments_frame (s : State) (n : Nat) (body : List Byte) (b : Batch) :
    (State.takeSegments n body b s).1.pending = s.pending ∧ (State.takeSegments n body b s).1.startup = s.startup ∧
    (State.takeSegments n body b s).1.pins = s.pins ∧ (State.takeSegments n body b s).1.override = s.override ∧
    (State.takeSegments n body b s).1.seq = s.seq ∧ (State.takeSegments n body b s).1.stroke = s.stroke ∧
    (State.takeSegments n body b s).1.classifier = s.classifier ∧ (State.takeSegments n body b s).1.bus = s.bus ∧
    (State.takeSegments n body b s).1.trip = s.trip ∧ (State.takeSegments n body b s).1.link = s.link ∧
    (State.takeSegments n body b s).1.notice = s.notice ∧ (State.takeSegments n body b s).1.settings = s.settings ∧
    (State.takeSegments n body b s).1.outputs = s.outputs ∧ (State.takeSegments n body b s).1.attnFalls =
    s.attnFalls ∧ (State.takeSegments n body b s).1.twoWire = s.twoWire ∧ (State.takeSegments n body b s).1.interp.x
    = s.interp.x ∧ (State.takeSegments n body b s).1.interp.y = s.interp.y ∧ (State.takeSegments n body b
    s).1.interp.heading = s.interp.heading ∧ (State.takeSegments n body b s).1.interp.feed = s.interp.feed ∧
    (State.takeSegments n body b s).1.interp.turn = s.interp.turn := by
  induction n generalizing body b s with
  | zero => simp [State.takeSegments]
  | succ n ih =>
    simp only [State.takeSegments]
    split
    · simp
    · split
      · simp
      · simp [ih]

@[simp] theorem State.completeAll_frame (s : State) (rs : List Record) :
    (State.completeAll rs s).pending = s.pending ∧ (State.completeAll rs s).startup = s.startup ∧ (State.completeAll
    rs s).pins = s.pins ∧ (State.completeAll rs s).override = s.override ∧ (State.completeAll rs s).seq = s.seq ∧
    (State.completeAll rs s).stroke = s.stroke ∧ (State.completeAll rs s).classifier = s.classifier ∧
    (State.completeAll rs s).bus = s.bus ∧ (State.completeAll rs s).trip = s.trip ∧ (State.completeAll rs s).link =
    s.link ∧ (State.completeAll rs s).settings = s.settings ∧ (State.completeAll rs s).outputs = s.outputs ∧
    (State.completeAll rs s).attnFalls = s.attnFalls ∧ (State.completeAll rs s).twoWire = s.twoWire ∧
    (State.completeAll rs s).draws = s.draws ∧ (State.completeAll rs s).queue.tail = s.queue.tail ∧
    (State.completeAll rs s).interp.x = s.interp.x ∧ (State.completeAll rs s).interp.y = s.interp.y ∧
    (State.completeAll rs s).interp.heading = s.interp.heading ∧ (State.completeAll rs s).interp.feed =
    s.interp.feed ∧ (State.completeAll rs s).interp.turn = s.interp.turn ∧ (State.completeAll rs s).notice.trip =
    s.notice.trip ∧ (State.completeAll rs s).notice.engineState = s.notice.engineState ∧ (State.completeAll rs
    s).notice.band = s.notice.band ∧ (State.completeAll rs s).notice.tareDone = s.notice.tareDone ∧
    (State.completeAll rs s).notice.storeDone = s.notice.storeDone ∧ (State.completeAll rs s).notice.enables =
    s.notice.enables ∧ (State.completeAll rs s).notice.lastSent = s.notice.lastSent := by
  induction rs generalizing s with
  | nil => simp [State.completeAll]
  | cons r rs ih => simp [State.completeAll, ih]

@[simp] theorem State.stopWithin_frame (s : State) (t : Travel) (v : Nat) :
    (s.stopWithin t v).pending = s.pending ∧ (s.stopWithin t v).startup = s.startup ∧ (s.stopWithin t v).pins =
    s.pins ∧ (s.stopWithin t v).queue = s.queue ∧ (s.stopWithin t v).override = s.override ∧ (s.stopWithin t v).seq
    = s.seq ∧ (s.stopWithin t v).stroke = s.stroke ∧ (s.stopWithin t v).classifier = s.classifier ∧ (s.stopWithin t
    v).bus = s.bus ∧ (s.stopWithin t v).trip = s.trip ∧ (s.stopWithin t v).link = s.link ∧ (s.stopWithin t v).notice
    = s.notice ∧ (s.stopWithin t v).settings = s.settings ∧ (s.stopWithin t v).outputs = s.outputs ∧ (s.stopWithin t
    v).attnFalls = s.attnFalls ∧ (s.stopWithin t v).twoWire = s.twoWire ∧ (s.stopWithin t v).draws = s.draws ∧
    (s.stopWithin t v).interp.turn = s.interp.turn ∧ (s.stopWithin t v).interp.turnPending = s.interp.turnPending := by
  simp only [State.stopWithin]
  repeat' split
  all_goals simp

@[simp] theorem State.landOn_frame (s : State) (r : Record) :
    (s.landOn r).pending = s.pending ∧ (s.landOn r).startup = s.startup ∧ (s.landOn r).pins = s.pins ∧ (s.landOn
    r).queue = s.queue ∧ (s.landOn r).override = s.override ∧ (s.landOn r).seq = s.seq ∧ (s.landOn r).stroke =
    s.stroke ∧ (s.landOn r).classifier = s.classifier ∧ (s.landOn r).bus = s.bus ∧ (s.landOn r).trip = s.trip ∧
    (s.landOn r).link = s.link ∧ (s.landOn r).notice = s.notice ∧ (s.landOn r).settings = s.settings ∧ (s.landOn
    r).outputs = s.outputs ∧ (s.landOn r).attnFalls = s.attnFalls ∧ (s.landOn r).twoWire = s.twoWire ∧ (s.landOn
    r).draws = s.draws ∧ (s.landOn r).interp.progress = s.interp.progress ∧ (s.landOn r).interp.turn = s.interp.turn
    ∧ (s.landOn r).interp.turnPending = s.interp.turnPending := by
  simp only [State.landOn]; split <;> simp

@[simp] theorem State.pathStep_frame (s : State) (r : Record) (m : Moving) :
    (s.pathStep r m).1.pending = s.pending ∧ (s.pathStep r m).1.startup = s.startup ∧ (s.pathStep r m).1.pins =
    s.pins ∧ (s.pathStep r m).1.override = s.override ∧ (s.pathStep r m).1.seq = s.seq ∧ (s.pathStep r m).1.stroke =
    s.stroke ∧ (s.pathStep r m).1.classifier = s.classifier ∧ (s.pathStep r m).1.bus = s.bus ∧ (s.pathStep r
    m).1.trip = s.trip ∧ (s.pathStep r m).1.link = s.link ∧ (s.pathStep r m).1.settings = s.settings ∧ (s.pathStep r
    m).1.outputs = s.outputs ∧ (s.pathStep r m).1.attnFalls = s.attnFalls ∧ (s.pathStep r m).1.twoWire = s.twoWire ∧
    (s.pathStep r m).1.draws = s.draws ∧ (s.pathStep r m).1.queue.tail = s.queue.tail ∧ (s.pathStep r
    m).1.interp.turn = s.interp.turn ∧ (s.pathStep r m).1.notice.trip = s.notice.trip ∧ (s.pathStep r
    m).1.notice.engineState = s.notice.engineState ∧ (s.pathStep r m).1.notice.band = s.notice.band ∧ (s.pathStep r
    m).1.notice.tareDone = s.notice.tareDone ∧ (s.pathStep r m).1.notice.storeDone = s.notice.storeDone ∧
    (s.pathStep r m).1.notice.enables = s.notice.enables ∧ (s.pathStep r m).1.notice.lastSent = s.notice.lastSent := by
  simp only [State.pathStep]
  repeat' split
  all_goals simp

@[simp] theorem State.pivotStart_frame (s : State) (m : Moving) :
    (s.pivotStart m).pending = s.pending ∧ (s.pivotStart m).startup = s.startup ∧ (s.pivotStart m).pins = s.pins ∧
    (s.pivotStart m).queue = s.queue ∧ (s.pivotStart m).override = s.override ∧ (s.pivotStart m).seq = s.seq ∧
    (s.pivotStart m).stroke = s.stroke ∧ (s.pivotStart m).classifier = s.classifier ∧ (s.pivotStart m).bus = s.bus ∧
    (s.pivotStart m).trip = s.trip ∧ (s.pivotStart m).link = s.link ∧ (s.pivotStart m).notice = s.notice ∧
    (s.pivotStart m).settings = s.settings ∧ (s.pivotStart m).outputs = s.outputs ∧ (s.pivotStart m).attnFalls =
    s.attnFalls ∧ (s.pivotStart m).twoWire = s.twoWire ∧ (s.pivotStart m).draws = s.draws ∧ (s.pivotStart
    m).interp.x = s.interp.x ∧ (s.pivotStart m).interp.y = s.interp.y ∧ (s.pivotStart m).interp.heading =
    s.interp.heading ∧ (s.pivotStart m).interp.progress = s.interp.progress ∧ (s.pivotStart m).interp.turnPending =
    s.interp.turnPending := by
  simp [State.pivotStart]

@[simp] theorem State.pivotStep_frame (s : State) (t : Turn) (m : Bool) :
    (s.pivotStep t m).1.pending = s.pending ∧ (s.pivotStep t m).1.startup = s.startup ∧ (s.pivotStep t m).1.pins =
    s.pins ∧ (s.pivotStep t m).1.queue = s.queue ∧ (s.pivotStep t m).1.override = s.override ∧ (s.pivotStep t
    m).1.seq = s.seq ∧ (s.pivotStep t m).1.stroke = s.stroke ∧ (s.pivotStep t m).1.classifier = s.classifier ∧
    (s.pivotStep t m).1.bus = s.bus ∧ (s.pivotStep t m).1.trip = s.trip ∧ (s.pivotStep t m).1.link = s.link ∧
    (s.pivotStep t m).1.notice = s.notice ∧ (s.pivotStep t m).1.settings = s.settings ∧ (s.pivotStep t m).1.outputs
    = s.outputs ∧ (s.pivotStep t m).1.attnFalls = s.attnFalls ∧ (s.pivotStep t m).1.twoWire = s.twoWire ∧
    (s.pivotStep t m).1.draws = s.draws ∧ (s.pivotStep t m).1.interp.x = s.interp.x ∧ (s.pivotStep t m).1.interp.y =
    s.interp.y ∧ (s.pivotStep t m).1.interp.feed = s.interp.feed ∧ (s.pivotStep t m).1.interp.progress =
    s.interp.progress := by
  simp only [State.pivotStep]; split <;> simp

@[simp] theorem State.interpolate_frame (s : State) :
    s.interpolate.1.pending = s.pending ∧ s.interpolate.1.startup = s.startup ∧ s.interpolate.1.pins = s.pins ∧
    s.interpolate.1.override = s.override ∧ s.interpolate.1.seq = s.seq ∧ s.interpolate.1.stroke = s.stroke ∧
    s.interpolate.1.classifier = s.classifier ∧ s.interpolate.1.bus = s.bus ∧ s.interpolate.1.trip = s.trip ∧
    s.interpolate.1.link = s.link ∧ s.interpolate.1.settings = s.settings ∧ s.interpolate.1.outputs = s.outputs ∧
    s.interpolate.1.attnFalls = s.attnFalls ∧ s.interpolate.1.twoWire = s.twoWire ∧ s.interpolate.1.draws = s.draws
    ∧ s.interpolate.1.queue.tail = s.queue.tail ∧ s.interpolate.1.notice.trip = s.notice.trip ∧
    s.interpolate.1.notice.engineState = s.notice.engineState ∧ s.interpolate.1.notice.band = s.notice.band ∧
    s.interpolate.1.notice.tareDone = s.notice.tareDone ∧ s.interpolate.1.notice.storeDone = s.notice.storeDone ∧
    s.interpolate.1.notice.enables = s.notice.enables ∧ s.interpolate.1.notice.lastSent = s.notice.lastSent := by
  simp only [State.interpolate]
  repeat' split
  all_goals simp

@[simp] theorem State.enterEngine_frame (s : State) (e : Engine) (c : Cause) (p : Option Interrupted) :
    (s.enterEngine e c p).pending = s.pending ∧ (s.enterEngine e c p).startup = s.startup ∧ (s.enterEngine e c
    p).pins = s.pins ∧ (s.enterEngine e c p).queue = s.queue ∧ (s.enterEngine e c p).override = s.override ∧
    (s.enterEngine e c p).interp = s.interp ∧ (s.enterEngine e c p).stroke = s.stroke ∧ (s.enterEngine e c
    p).classifier = s.classifier ∧ (s.enterEngine e c p).bus = s.bus ∧ (s.enterEngine e c p).trip = s.trip ∧
    (s.enterEngine e c p).link = s.link ∧ (s.enterEngine e c p).settings = s.settings ∧ (s.enterEngine e c
    p).outputs = s.outputs ∧ (s.enterEngine e c p).attnFalls = s.attnFalls ∧ (s.enterEngine e c p).twoWire =
    s.twoWire ∧ (s.enterEngine e c p).draws = s.draws ∧ (s.enterEngine e c p).seq.resume = s.seq.resume ∧
    (s.enterEngine e c p).seq.dwellCount = s.seq.dwellCount ∧ (s.enterEngine e c p).seq.starve = s.seq.starve ∧
    (s.enterEngine e c p).seq.interrupted = s.seq.interrupted ∧ (s.enterEngine e c p).seq.changes = s.seq.changes ∧
    (s.enterEngine e c p).notice.trip = s.notice.trip ∧ (s.enterEngine e c p).notice.segmentDone =
    s.notice.segmentDone ∧ (s.enterEngine e c p).notice.queueLow = s.notice.queueLow ∧ (s.enterEngine e c
    p).notice.band = s.notice.band ∧ (s.enterEngine e c p).notice.tareDone = s.notice.tareDone ∧ (s.enterEngine e c
    p).notice.storeDone = s.notice.storeDone ∧ (s.enterEngine e c p).notice.enables = s.notice.enables ∧
    (s.enterEngine e c p).notice.lastSent = s.notice.lastSent := by
  simp only [State.enterEngine]; split <;> simp

@[simp] theorem State.enterProgram_frame (s : State) (e : Engine) (c : Cause) :
    (s.enterProgram e c).pending = s.pending ∧ (s.enterProgram e c).startup = s.startup ∧ (s.enterProgram e c).pins
    = s.pins ∧ (s.enterProgram e c).queue = s.queue ∧ (s.enterProgram e c).override = s.override ∧ (s.enterProgram e
    c).interp = s.interp ∧ (s.enterProgram e c).classifier = s.classifier ∧ (s.enterProgram e c).link = s.link ∧
    (s.enterProgram e c).settings = s.settings ∧ (s.enterProgram e c).outputs = s.outputs ∧ (s.enterProgram e
    c).attnFalls = s.attnFalls ∧ (s.enterProgram e c).twoWire = s.twoWire ∧ (s.enterProgram e c).draws = s.draws ∧
    (s.enterProgram e c).seq.resume = s.seq.resume ∧ (s.enterProgram e c).seq.dwellCount = s.seq.dwellCount ∧
    (s.enterProgram e c).seq.starve = s.seq.starve ∧ (s.enterProgram e c).seq.interrupted = s.seq.interrupted ∧
    (s.enterProgram e c).bus.started = s.bus.started ∧ (s.enterProgram e c).bus.frameCount = s.bus.frameCount ∧
    (s.enterProgram e c).bus.level = s.bus.level ∧ (s.enterProgram e c).bus.x = s.bus.x ∧ (s.enterProgram e c).bus.y
    = s.bus.y ∧ (s.enterProgram e c).bus.h = s.bus.h ∧ (s.enterProgram e c).bus.s = s.bus.s ∧ (s.enterProgram e
    c).bus.window = s.bus.window ∧ (s.enterProgram e c).bus.line = s.bus.line ∧ (s.enterProgram e c).trip.inputs =
    s.trip.inputs ∧ (s.enterProgram e c).trip.green = s.trip.green ∧ (s.enterProgram e c).trip.amber = s.trip.amber
    ∧ (s.enterProgram e c).trip.red = s.trip.red ∧ (s.enterProgram e c).trip.blink = s.trip.blink ∧ (s.enterProgram
    e c).bus.opening = s.bus.opening ∧ (s.enterProgram e c).notice.segmentDone = s.notice.segmentDone ∧
    (s.enterProgram e c).notice.queueLow = s.notice.queueLow ∧ (s.enterProgram e c).notice.band = s.notice.band ∧
    (s.enterProgram e c).notice.tareDone = s.notice.tareDone ∧ (s.enterProgram e c).notice.storeDone =
    s.notice.storeDone ∧ (s.enterProgram e c).notice.enables = s.notice.enables ∧ (s.enterProgram e
    c).notice.lastSent = s.notice.lastSent := by
  simp only [State.enterProgram]; split <;> simp

@[simp] theorem State.setResume_frame (s : State) (m : Option Resume) :
    (s.setResume m).pending = s.pending ∧ (s.setResume m).startup = s.startup ∧ (s.setResume m).pins = s.pins ∧
    (s.setResume m).queue = s.queue ∧ (s.setResume m).override = s.override ∧ (s.setResume m).interp = s.interp ∧
    (s.setResume m).stroke = s.stroke ∧ (s.setResume m).classifier = s.classifier ∧ (s.setResume m).bus = s.bus ∧
    (s.setResume m).trip = s.trip ∧ (s.setResume m).link = s.link ∧ (s.setResume m).notice = s.notice ∧ (s.setResume
    m).settings = s.settings ∧ (s.setResume m).outputs = s.outputs ∧ (s.setResume m).attnFalls = s.attnFalls ∧
    (s.setResume m).twoWire = s.twoWire ∧ (s.setResume m).draws = s.draws ∧ (s.setResume m).seq.engine =
    s.seq.engine ∧ (s.setResume m).seq.dwellCount = s.seq.dwellCount ∧ (s.setResume m).seq.starve = s.seq.starve ∧
    (s.setResume m).seq.interrupted = s.seq.interrupted ∧ (s.setResume m).seq.changes = s.seq.changes := by
  simp [State.setResume]

@[simp] theorem State.setStarve_frame (s : State) (t : StarveTimer) :
    (s.setStarve t).pending = s.pending ∧ (s.setStarve t).startup = s.startup ∧ (s.setStarve t).pins = s.pins ∧
    (s.setStarve t).queue = s.queue ∧ (s.setStarve t).override = s.override ∧ (s.setStarve t).interp = s.interp ∧
    (s.setStarve t).stroke = s.stroke ∧ (s.setStarve t).classifier = s.classifier ∧ (s.setStarve t).bus = s.bus ∧
    (s.setStarve t).trip = s.trip ∧ (s.setStarve t).link = s.link ∧ (s.setStarve t).notice = s.notice ∧ (s.setStarve
    t).settings = s.settings ∧ (s.setStarve t).outputs = s.outputs ∧ (s.setStarve t).attnFalls = s.attnFalls ∧
    (s.setStarve t).twoWire = s.twoWire ∧ (s.setStarve t).draws = s.draws ∧ (s.setStarve t).seq.engine =
    s.seq.engine ∧ (s.setStarve t).seq.resume = s.seq.resume ∧ (s.setStarve t).seq.dwellCount = s.seq.dwellCount ∧
    (s.setStarve t).seq.interrupted = s.seq.interrupted ∧ (s.setStarve t).seq.changes = s.seq.changes := by
  simp [State.setStarve]

@[simp] theorem State.setDwell_frame (s : State) (n : Nat) :
    (s.setDwell n).pending = s.pending ∧ (s.setDwell n).startup = s.startup ∧ (s.setDwell n).pins = s.pins ∧
    (s.setDwell n).queue = s.queue ∧ (s.setDwell n).override = s.override ∧ (s.setDwell n).interp = s.interp ∧
    (s.setDwell n).stroke = s.stroke ∧ (s.setDwell n).classifier = s.classifier ∧ (s.setDwell n).bus = s.bus ∧
    (s.setDwell n).trip = s.trip ∧ (s.setDwell n).link = s.link ∧ (s.setDwell n).notice = s.notice ∧ (s.setDwell
    n).settings = s.settings ∧ (s.setDwell n).outputs = s.outputs ∧ (s.setDwell n).attnFalls = s.attnFalls ∧
    (s.setDwell n).twoWire = s.twoWire ∧ (s.setDwell n).draws = s.draws ∧ (s.setDwell n).seq.engine = s.seq.engine ∧
    (s.setDwell n).seq.resume = s.seq.resume ∧ (s.setDwell n).seq.starve = s.seq.starve ∧ (s.setDwell
    n).seq.interrupted = s.seq.interrupted ∧ (s.setDwell n).seq.changes = s.seq.changes := by
  simp [State.setDwell]

@[simp] theorem State.enterStarved_frame (s : State) :
    s.enterStarved.pending = s.pending ∧ s.enterStarved.startup = s.startup ∧ s.enterStarved.pins = s.pins ∧
    s.enterStarved.queue = s.queue ∧ s.enterStarved.override = s.override ∧ s.enterStarved.interp = s.interp ∧
    s.enterStarved.classifier = s.classifier ∧ s.enterStarved.bus = s.bus ∧ s.enterStarved.trip = s.trip ∧
    s.enterStarved.link = s.link ∧ s.enterStarved.settings = s.settings ∧ s.enterStarved.outputs = s.outputs ∧
    s.enterStarved.attnFalls = s.attnFalls ∧ s.enterStarved.twoWire = s.twoWire ∧ s.enterStarved.draws = s.draws ∧
    s.enterStarved.seq.resume = s.seq.resume ∧ s.enterStarved.seq.dwellCount = s.seq.dwellCount ∧
    s.enterStarved.seq.interrupted = s.seq.interrupted ∧ s.enterStarved.seq.changes = s.seq.changes ∧
    s.enterStarved.notice.trip = s.notice.trip ∧ s.enterStarved.notice.segmentDone = s.notice.segmentDone ∧
    s.enterStarved.notice.queueLow = s.notice.queueLow ∧ s.enterStarved.notice.band = s.notice.band ∧
    s.enterStarved.notice.storeDone = s.notice.storeDone ∧ s.enterStarved.notice.enables = s.notice.enables ∧
    s.enterStarved.notice.lastSent = s.notice.lastSent := by
  simp only [State.enterStarved]; split <;> simp

@[simp] theorem State.endReached_frame (s : State) (c : Cause) :
    (s.endReached c).pending = s.pending ∧ (s.endReached c).startup = s.startup ∧ (s.endReached c).pins = s.pins ∧
    (s.endReached c).override = s.override ∧ (s.endReached c).classifier = s.classifier ∧ (s.endReached c).bus =
    s.bus ∧ (s.endReached c).trip = s.trip ∧ (s.endReached c).link = s.link ∧ (s.endReached c).settings = s.settings
    ∧ (s.endReached c).outputs = s.outputs ∧ (s.endReached c).attnFalls = s.attnFalls ∧ (s.endReached c).twoWire =
    s.twoWire ∧ (s.endReached c).draws = s.draws ∧ (s.endReached c).queue.tail = s.queue.tail ∧ (s.endReached
    c).seq.dwellCount = s.seq.dwellCount ∧ (s.endReached c).seq.starve = s.seq.starve ∧ (s.endReached
    c).seq.interrupted = s.seq.interrupted ∧ (s.endReached c).seq.changes = s.seq.changes ∧ (s.endReached
    c).interp.x = s.interp.x ∧ (s.endReached c).interp.y = s.interp.y ∧ (s.endReached c).interp.heading =
    s.interp.heading ∧ (s.endReached c).interp.feed = s.interp.feed ∧ (s.endReached c).interp.turn = s.interp.turn ∧
    (s.endReached c).notice.trip = s.notice.trip ∧ (s.endReached c).notice.band = s.notice.band ∧ (s.endReached
    c).notice.storeDone = s.notice.storeDone ∧ (s.endReached c).notice.enables = s.notice.enables ∧ (s.endReached
    c).notice.lastSent = s.notice.lastSent := by
  simp only [State.endReached]; split <;> simp

@[simp] theorem State.dispatch_frame (s : State) (c : Cause) (k : Bool) :
    (s.dispatch c k).pending = s.pending ∧ (s.dispatch c k).startup = s.startup ∧ (s.dispatch c k).pins = s.pins ∧
    (s.dispatch c k).override = s.override ∧ (s.dispatch c k).classifier = s.classifier ∧ (s.dispatch c k).link =
    s.link ∧ (s.dispatch c k).settings = s.settings ∧ (s.dispatch c k).outputs = s.outputs ∧ (s.dispatch c
    k).attnFalls = s.attnFalls ∧ (s.dispatch c k).twoWire = s.twoWire ∧ (s.dispatch c k).draws = s.draws ∧
    (s.dispatch c k).bus.started = s.bus.started ∧ (s.dispatch c k).bus.frameCount = s.bus.frameCount ∧ (s.dispatch
    c k).bus.level = s.bus.level ∧ (s.dispatch c k).bus.x = s.bus.x ∧ (s.dispatch c k).bus.y = s.bus.y ∧ (s.dispatch
    c k).bus.h = s.bus.h ∧ (s.dispatch c k).bus.s = s.bus.s ∧ (s.dispatch c k).bus.window = s.bus.window ∧
    (s.dispatch c k).bus.line = s.bus.line ∧ (s.dispatch c k).trip.inputs = s.trip.inputs ∧ (s.dispatch c
    k).trip.green = s.trip.green ∧ (s.dispatch c k).trip.amber = s.trip.amber ∧ (s.dispatch c k).trip.red =
    s.trip.red ∧ (s.dispatch c k).trip.blink = s.trip.blink ∧ (s.dispatch c k).queue.tail = s.queue.tail ∧
    (s.dispatch c k).seq.interrupted = s.seq.interrupted ∧ (s.dispatch c k).interp.x = s.interp.x ∧ (s.dispatch c
    k).interp.y = s.interp.y ∧ (s.dispatch c k).interp.heading = s.interp.heading ∧ (s.dispatch c k).bus.opening =
    s.bus.opening ∧ (s.dispatch c k).notice.band = s.notice.band ∧ (s.dispatch c k).notice.storeDone =
    s.notice.storeDone ∧ (s.dispatch c k).notice.enables = s.notice.enables ∧ (s.dispatch c k).notice.lastSent =
    s.notice.lastSent := by
  simp only [State.dispatch]
  repeat' split
  all_goals simp

@[simp] theorem State.cancelFlush_frame (s : State) (c : Cause) :
    (s.cancelFlush c).pending = s.pending ∧ (s.cancelFlush c).startup = s.startup ∧ (s.cancelFlush c).pins = s.pins
    ∧ (s.cancelFlush c).override = s.override ∧ (s.cancelFlush c).classifier = s.classifier ∧ (s.cancelFlush c).bus
    = s.bus ∧ (s.cancelFlush c).trip = s.trip ∧ (s.cancelFlush c).link = s.link ∧ (s.cancelFlush c).settings =
    s.settings ∧ (s.cancelFlush c).outputs = s.outputs ∧ (s.cancelFlush c).attnFalls = s.attnFalls ∧ (s.cancelFlush
    c).twoWire = s.twoWire ∧ (s.cancelFlush c).draws = s.draws ∧ (s.cancelFlush c).seq.changes = s.seq.changes ∧
    (s.cancelFlush c).queue.tail.feed = s.queue.tail.feed ∧ (s.cancelFlush c).interp.x = s.interp.x ∧ (s.cancelFlush
    c).interp.y = s.interp.y ∧ (s.cancelFlush c).interp.heading = s.interp.heading ∧ (s.cancelFlush c).interp.feed =
    s.interp.feed ∧ (s.cancelFlush c).interp.turn = s.interp.turn ∧ (s.cancelFlush c).notice.trip = s.notice.trip ∧
    (s.cancelFlush c).notice.segmentDone = s.notice.segmentDone ∧ (s.cancelFlush c).notice.queueLow =
    s.notice.queueLow ∧ (s.cancelFlush c).notice.band = s.notice.band ∧ (s.cancelFlush c).notice.storeDone =
    s.notice.storeDone ∧ (s.cancelFlush c).notice.enables = s.notice.enables ∧ (s.cancelFlush c).notice.lastSent =
    s.notice.lastSent := by
  simp [State.cancelFlush]

@[simp] theorem State.quickStop_frame (s : State) :
    s.quickStop.pending = s.pending ∧ s.quickStop.startup = s.startup ∧ s.quickStop.pins = s.pins ∧
    s.quickStop.override = s.override ∧ s.quickStop.classifier = s.classifier ∧ s.quickStop.bus = s.bus ∧
    s.quickStop.trip = s.trip ∧ s.quickStop.link = s.link ∧ s.quickStop.settings = s.settings ∧ s.quickStop.outputs
    = s.outputs ∧ s.quickStop.attnFalls = s.attnFalls ∧ s.quickStop.twoWire = s.twoWire ∧ s.quickStop.draws =
    s.draws ∧ s.quickStop.seq.changes = s.seq.changes ∧ s.quickStop.queue.tail.feed = s.queue.tail.feed ∧
    s.quickStop.interp.x = s.interp.x ∧ s.quickStop.interp.y = s.interp.y ∧ s.quickStop.interp.heading =
    s.interp.heading ∧ s.quickStop.notice.trip = s.notice.trip ∧ s.quickStop.notice.segmentDone =
    s.notice.segmentDone ∧ s.quickStop.notice.queueLow = s.notice.queueLow ∧ s.quickStop.notice.band = s.notice.band
    ∧ s.quickStop.notice.storeDone = s.notice.storeDone ∧ s.quickStop.notice.enables = s.notice.enables ∧
    s.quickStop.notice.lastSent = s.notice.lastSent := by
  simp [State.quickStop]

@[simp] theorem State.restTest_frame (s : State) :
    s.restTest.pending = s.pending ∧ s.restTest.startup = s.startup ∧ s.restTest.pins = s.pins ∧ s.restTest.override
    = s.override ∧ s.restTest.classifier = s.classifier ∧ s.restTest.bus = s.bus ∧ s.restTest.trip = s.trip ∧
    s.restTest.link = s.link ∧ s.restTest.settings = s.settings ∧ s.restTest.outputs = s.outputs ∧
    s.restTest.attnFalls = s.attnFalls ∧ s.restTest.twoWire = s.twoWire ∧ s.restTest.draws = s.draws ∧
    s.restTest.seq.changes = s.seq.changes ∧ s.restTest.queue.tail.feed = s.queue.tail.feed ∧ s.restTest.interp.x =
    s.interp.x ∧ s.restTest.interp.y = s.interp.y ∧ s.restTest.interp.heading = s.interp.heading ∧
    s.restTest.interp.feed = s.interp.feed ∧ s.restTest.interp.turn = s.interp.turn ∧ s.restTest.notice.trip =
    s.notice.trip ∧ s.restTest.notice.segmentDone = s.notice.segmentDone ∧ s.restTest.notice.queueLow =
    s.notice.queueLow ∧ s.restTest.notice.band = s.notice.band ∧ s.restTest.notice.storeDone = s.notice.storeDone ∧
    s.restTest.notice.enables = s.notice.enables ∧ s.restTest.notice.lastSent = s.notice.lastSent := by
  simp only [State.restTest]
  repeat' split
  all_goals simp

@[simp] theorem State.dwellExpire_frame (s : State) :
    s.dwellExpire.pending = s.pending ∧ s.dwellExpire.startup = s.startup ∧ s.dwellExpire.pins = s.pins ∧
    s.dwellExpire.override = s.override ∧ s.dwellExpire.classifier = s.classifier ∧ s.dwellExpire.link = s.link ∧
    s.dwellExpire.settings = s.settings ∧ s.dwellExpire.outputs = s.outputs ∧ s.dwellExpire.attnFalls = s.attnFalls
    ∧ s.dwellExpire.twoWire = s.twoWire ∧ s.dwellExpire.draws = s.draws ∧ s.dwellExpire.bus.started = s.bus.started
    ∧ s.dwellExpire.bus.frameCount = s.bus.frameCount ∧ s.dwellExpire.bus.level = s.bus.level ∧ s.dwellExpire.bus.x
    = s.bus.x ∧ s.dwellExpire.bus.y = s.bus.y ∧ s.dwellExpire.bus.h = s.bus.h ∧ s.dwellExpire.bus.s = s.bus.s ∧
    s.dwellExpire.bus.window = s.bus.window ∧ s.dwellExpire.bus.line = s.bus.line ∧ s.dwellExpire.trip.inputs =
    s.trip.inputs ∧ s.dwellExpire.trip.green = s.trip.green ∧ s.dwellExpire.trip.amber = s.trip.amber ∧
    s.dwellExpire.trip.red = s.trip.red ∧ s.dwellExpire.trip.blink = s.trip.blink ∧ s.dwellExpire.queue.tail =
    s.queue.tail ∧ s.dwellExpire.interp.x = s.interp.x ∧ s.dwellExpire.interp.y = s.interp.y ∧
    s.dwellExpire.interp.heading = s.interp.heading ∧ s.dwellExpire.bus.opening = s.bus.opening ∧
    s.dwellExpire.notice.band = s.notice.band ∧ s.dwellExpire.notice.storeDone = s.notice.storeDone ∧
    s.dwellExpire.notice.enables = s.notice.enables ∧ s.dwellExpire.notice.lastSent = s.notice.lastSent := by
  simp [State.dwellExpire]

@[simp] theorem State.countDwell_frame (s : State) :
    s.countDwell.pending = s.pending ∧ s.countDwell.startup = s.startup ∧ s.countDwell.pins = s.pins ∧
    s.countDwell.override = s.override ∧ s.countDwell.classifier = s.classifier ∧ s.countDwell.link = s.link ∧
    s.countDwell.settings = s.settings ∧ s.countDwell.outputs = s.outputs ∧ s.countDwell.attnFalls = s.attnFalls ∧
    s.countDwell.twoWire = s.twoWire ∧ s.countDwell.draws = s.draws ∧ s.countDwell.bus.started = s.bus.started ∧
    s.countDwell.bus.frameCount = s.bus.frameCount ∧ s.countDwell.bus.level = s.bus.level ∧ s.countDwell.bus.x =
    s.bus.x ∧ s.countDwell.bus.y = s.bus.y ∧ s.countDwell.bus.h = s.bus.h ∧ s.countDwell.bus.s = s.bus.s ∧
    s.countDwell.bus.window = s.bus.window ∧ s.countDwell.bus.line = s.bus.line ∧ s.countDwell.trip.inputs =
    s.trip.inputs ∧ s.countDwell.trip.green = s.trip.green ∧ s.countDwell.trip.amber = s.trip.amber ∧
    s.countDwell.trip.red = s.trip.red ∧ s.countDwell.trip.blink = s.trip.blink ∧ s.countDwell.queue.tail =
    s.queue.tail ∧ s.countDwell.interp.x = s.interp.x ∧ s.countDwell.interp.y = s.interp.y ∧
    s.countDwell.interp.heading = s.interp.heading ∧ s.countDwell.bus.opening = s.bus.opening ∧
    s.countDwell.notice.band = s.notice.band ∧ s.countDwell.notice.storeDone = s.notice.storeDone ∧
    s.countDwell.notice.enables = s.notice.enables ∧ s.countDwell.notice.lastSent = s.notice.lastSent := by
  simp only [State.countDwell]
  repeat' split
  all_goals simp

@[simp] theorem State.starveExpire_frame (s : State) :
    s.starveExpire.pending = s.pending ∧ s.starveExpire.startup = s.startup ∧ s.starveExpire.pins = s.pins ∧
    s.starveExpire.queue = s.queue ∧ s.starveExpire.override = s.override ∧ s.starveExpire.interp = s.interp ∧
    s.starveExpire.classifier = s.classifier ∧ s.starveExpire.bus = s.bus ∧ s.starveExpire.trip = s.trip ∧
    s.starveExpire.link = s.link ∧ s.starveExpire.settings = s.settings ∧ s.starveExpire.outputs = s.outputs ∧
    s.starveExpire.attnFalls = s.attnFalls ∧ s.starveExpire.twoWire = s.twoWire ∧ s.starveExpire.draws = s.draws ∧
    s.starveExpire.seq.engine = s.seq.engine ∧ s.starveExpire.seq.resume = s.seq.resume ∧
    s.starveExpire.seq.dwellCount = s.seq.dwellCount ∧ s.starveExpire.seq.interrupted = s.seq.interrupted ∧
    s.starveExpire.seq.changes = s.seq.changes ∧ s.starveExpire.notice.trip = s.notice.trip ∧
    s.starveExpire.notice.engineState = s.notice.engineState ∧ s.starveExpire.notice.segmentDone =
    s.notice.segmentDone ∧ s.starveExpire.notice.queueLow = s.notice.queueLow ∧ s.starveExpire.notice.band =
    s.notice.band ∧ s.starveExpire.notice.storeDone = s.notice.storeDone ∧ s.starveExpire.notice.enables =
    s.notice.enables ∧ s.starveExpire.notice.lastSent = s.notice.lastSent := by
  simp [State.starveExpire]

@[simp] theorem State.countStarve_frame (s : State) :
    s.countStarve.pending = s.pending ∧ s.countStarve.startup = s.startup ∧ s.countStarve.pins = s.pins ∧
    s.countStarve.queue = s.queue ∧ s.countStarve.override = s.override ∧ s.countStarve.interp = s.interp ∧
    s.countStarve.classifier = s.classifier ∧ s.countStarve.bus = s.bus ∧ s.countStarve.trip = s.trip ∧
    s.countStarve.link = s.link ∧ s.countStarve.settings = s.settings ∧ s.countStarve.outputs = s.outputs ∧
    s.countStarve.attnFalls = s.attnFalls ∧ s.countStarve.twoWire = s.twoWire ∧ s.countStarve.draws = s.draws ∧
    s.countStarve.seq.engine = s.seq.engine ∧ s.countStarve.seq.resume = s.seq.resume ∧ s.countStarve.seq.dwellCount
    = s.seq.dwellCount ∧ s.countStarve.seq.interrupted = s.seq.interrupted ∧ s.countStarve.seq.changes =
    s.seq.changes ∧ s.countStarve.notice.trip = s.notice.trip ∧ s.countStarve.notice.engineState =
    s.notice.engineState ∧ s.countStarve.notice.segmentDone = s.notice.segmentDone ∧ s.countStarve.notice.queueLow =
    s.notice.queueLow ∧ s.countStarve.notice.band = s.notice.band ∧ s.countStarve.notice.storeDone =
    s.notice.storeDone ∧ s.countStarve.notice.enables = s.notice.enables ∧ s.countStarve.notice.lastSent =
    s.notice.lastSent := by
  simp only [State.countStarve]
  repeat' split
  all_goals simp

@[simp] theorem State.serveStart_frame (s : State) :
    s.serveStart.1.pending = s.pending ∧ s.serveStart.1.startup = s.startup ∧ s.serveStart.1.pins = s.pins ∧
    s.serveStart.1.override = s.override ∧ s.serveStart.1.classifier = s.classifier ∧ s.serveStart.1.link = s.link ∧
    s.serveStart.1.settings = s.settings ∧ s.serveStart.1.outputs = s.outputs ∧ s.serveStart.1.attnFalls =
    s.attnFalls ∧ s.serveStart.1.twoWire = s.twoWire ∧ s.serveStart.1.draws = s.draws ∧ s.serveStart.1.bus.started =
    s.bus.started ∧ s.serveStart.1.bus.frameCount = s.bus.frameCount ∧ s.serveStart.1.bus.level = s.bus.level ∧
    s.serveStart.1.bus.x = s.bus.x ∧ s.serveStart.1.bus.y = s.bus.y ∧ s.serveStart.1.bus.h = s.bus.h ∧
    s.serveStart.1.bus.s = s.bus.s ∧ s.serveStart.1.bus.window = s.bus.window ∧ s.serveStart.1.bus.line = s.bus.line
    ∧ s.serveStart.1.trip.inputs = s.trip.inputs ∧ s.serveStart.1.trip.green = s.trip.green ∧
    s.serveStart.1.trip.amber = s.trip.amber ∧ s.serveStart.1.trip.red = s.trip.red ∧ s.serveStart.1.trip.blink =
    s.trip.blink ∧ s.serveStart.1.queue.tail = s.queue.tail ∧ s.serveStart.1.interp.x = s.interp.x ∧
    s.serveStart.1.interp.y = s.interp.y ∧ s.serveStart.1.interp.heading = s.interp.heading ∧
    s.serveStart.1.bus.opening = s.bus.opening ∧ s.serveStart.1.notice.band = s.notice.band ∧
    s.serveStart.1.notice.storeDone = s.notice.storeDone ∧ s.serveStart.1.notice.enables = s.notice.enables ∧
    s.serveStart.1.notice.lastSent = s.notice.lastSent := by
  simp only [State.serveStart]
  repeat' split
  all_goals simp

@[simp] theorem State.holdEffect_frame (s : State) (c : Cause) :
    (s.holdEffect c).pending = s.pending ∧ (s.holdEffect c).startup = s.startup ∧ (s.holdEffect c).pins = s.pins ∧
    (s.holdEffect c).queue = s.queue ∧ (s.holdEffect c).override = s.override ∧ (s.holdEffect c).interp = s.interp ∧
    (s.holdEffect c).stroke = s.stroke ∧ (s.holdEffect c).classifier = s.classifier ∧ (s.holdEffect c).bus = s.bus ∧
    (s.holdEffect c).trip = s.trip ∧ (s.holdEffect c).link = s.link ∧ (s.holdEffect c).settings = s.settings ∧
    (s.holdEffect c).outputs = s.outputs ∧ (s.holdEffect c).attnFalls = s.attnFalls ∧ (s.holdEffect c).twoWire =
    s.twoWire ∧ (s.holdEffect c).draws = s.draws ∧ (s.holdEffect c).seq.dwellCount = s.seq.dwellCount ∧
    (s.holdEffect c).seq.interrupted = s.seq.interrupted ∧ (s.holdEffect c).seq.changes = s.seq.changes ∧
    (s.holdEffect c).notice.trip = s.notice.trip ∧ (s.holdEffect c).notice.segmentDone = s.notice.segmentDone ∧
    (s.holdEffect c).notice.queueLow = s.notice.queueLow ∧ (s.holdEffect c).notice.band = s.notice.band ∧
    (s.holdEffect c).notice.tareDone = s.notice.tareDone ∧ (s.holdEffect c).notice.storeDone = s.notice.storeDone ∧
    (s.holdEffect c).notice.enables = s.notice.enables ∧ (s.holdEffect c).notice.lastSent = s.notice.lastSent := by
  simp only [State.holdEffect]; split <;> simp

@[simp] theorem State.serveHold_frame (s : State) :
    s.serveHold.1.pending = s.pending ∧ s.serveHold.1.startup = s.startup ∧ s.serveHold.1.pins = s.pins ∧
    s.serveHold.1.queue = s.queue ∧ s.serveHold.1.override = s.override ∧ s.serveHold.1.interp = s.interp ∧
    s.serveHold.1.stroke = s.stroke ∧ s.serveHold.1.classifier = s.classifier ∧ s.serveHold.1.bus = s.bus ∧
    s.serveHold.1.trip = s.trip ∧ s.serveHold.1.link = s.link ∧ s.serveHold.1.settings = s.settings ∧
    s.serveHold.1.outputs = s.outputs ∧ s.serveHold.1.attnFalls = s.attnFalls ∧ s.serveHold.1.twoWire = s.twoWire ∧
    s.serveHold.1.draws = s.draws ∧ s.serveHold.1.seq.dwellCount = s.seq.dwellCount ∧ s.serveHold.1.seq.interrupted
    = s.seq.interrupted ∧ s.serveHold.1.seq.changes = s.seq.changes ∧ s.serveHold.1.notice.trip = s.notice.trip ∧
    s.serveHold.1.notice.segmentDone = s.notice.segmentDone ∧ s.serveHold.1.notice.queueLow = s.notice.queueLow ∧
    s.serveHold.1.notice.band = s.notice.band ∧ s.serveHold.1.notice.tareDone = s.notice.tareDone ∧
    s.serveHold.1.notice.storeDone = s.notice.storeDone ∧ s.serveHold.1.notice.enables = s.notice.enables ∧
    s.serveHold.1.notice.lastSent = s.notice.lastSent := by
  simp only [State.serveHold]; split <;> simp

@[simp] theorem State.actOnMemory_frame (s : State) :
    s.actOnMemory.pending = s.pending ∧ s.actOnMemory.startup = s.startup ∧ s.actOnMemory.pins = s.pins ∧
    s.actOnMemory.override = s.override ∧ s.actOnMemory.classifier = s.classifier ∧ s.actOnMemory.link = s.link ∧
    s.actOnMemory.settings = s.settings ∧ s.actOnMemory.outputs = s.outputs ∧ s.actOnMemory.attnFalls = s.attnFalls
    ∧ s.actOnMemory.twoWire = s.twoWire ∧ s.actOnMemory.draws = s.draws ∧ s.actOnMemory.bus.started = s.bus.started
    ∧ s.actOnMemory.bus.frameCount = s.bus.frameCount ∧ s.actOnMemory.bus.level = s.bus.level ∧ s.actOnMemory.bus.x
    = s.bus.x ∧ s.actOnMemory.bus.y = s.bus.y ∧ s.actOnMemory.bus.h = s.bus.h ∧ s.actOnMemory.bus.s = s.bus.s ∧
    s.actOnMemory.bus.window = s.bus.window ∧ s.actOnMemory.bus.line = s.bus.line ∧ s.actOnMemory.trip.inputs =
    s.trip.inputs ∧ s.actOnMemory.trip.green = s.trip.green ∧ s.actOnMemory.trip.amber = s.trip.amber ∧
    s.actOnMemory.trip.red = s.trip.red ∧ s.actOnMemory.trip.blink = s.trip.blink ∧ s.actOnMemory.queue.tail =
    s.queue.tail ∧ s.actOnMemory.interp.x = s.interp.x ∧ s.actOnMemory.interp.y = s.interp.y ∧
    s.actOnMemory.interp.heading = s.interp.heading ∧ s.actOnMemory.bus.opening = s.bus.opening ∧
    s.actOnMemory.notice.band = s.notice.band ∧ s.actOnMemory.notice.storeDone = s.notice.storeDone ∧
    s.actOnMemory.notice.enables = s.notice.enables ∧ s.actOnMemory.notice.lastSent = s.notice.lastSent := by
  simp [State.actOnMemory]

@[simp] theorem State.serveResume_frame (s : State) :
    s.serveResume.1.pending = s.pending ∧ s.serveResume.1.startup = s.startup ∧ s.serveResume.1.pins = s.pins ∧
    s.serveResume.1.override = s.override ∧ s.serveResume.1.classifier = s.classifier ∧ s.serveResume.1.link =
    s.link ∧ s.serveResume.1.settings = s.settings ∧ s.serveResume.1.outputs = s.outputs ∧ s.serveResume.1.attnFalls
    = s.attnFalls ∧ s.serveResume.1.twoWire = s.twoWire ∧ s.serveResume.1.draws = s.draws ∧
    s.serveResume.1.bus.started = s.bus.started ∧ s.serveResume.1.bus.frameCount = s.bus.frameCount ∧
    s.serveResume.1.bus.level = s.bus.level ∧ s.serveResume.1.bus.x = s.bus.x ∧ s.serveResume.1.bus.y = s.bus.y ∧
    s.serveResume.1.bus.h = s.bus.h ∧ s.serveResume.1.bus.s = s.bus.s ∧ s.serveResume.1.bus.window = s.bus.window ∧
    s.serveResume.1.bus.line = s.bus.line ∧ s.serveResume.1.trip.inputs = s.trip.inputs ∧ s.serveResume.1.trip.green
    = s.trip.green ∧ s.serveResume.1.trip.amber = s.trip.amber ∧ s.serveResume.1.trip.red = s.trip.red ∧
    s.serveResume.1.trip.blink = s.trip.blink ∧ s.serveResume.1.queue.tail = s.queue.tail ∧ s.serveResume.1.interp.x
    = s.interp.x ∧ s.serveResume.1.interp.y = s.interp.y ∧ s.serveResume.1.interp.heading = s.interp.heading ∧
    s.serveResume.1.bus.opening = s.bus.opening ∧ s.serveResume.1.notice.band = s.notice.band ∧
    s.serveResume.1.notice.storeDone = s.notice.storeDone ∧ s.serveResume.1.notice.enables = s.notice.enables ∧
    s.serveResume.1.notice.lastSent = s.notice.lastSent := by
  simp only [State.serveResume]
  repeat' split
  all_goals simp

@[simp] theorem State.serveCancel_frame (s : State) :
    s.serveCancel.1.pending = s.pending ∧ s.serveCancel.1.startup = s.startup ∧ s.serveCancel.1.pins = s.pins ∧
    s.serveCancel.1.override = s.override ∧ s.serveCancel.1.classifier = s.classifier ∧ s.serveCancel.1.bus = s.bus
    ∧ s.serveCancel.1.trip = s.trip ∧ s.serveCancel.1.link = s.link ∧ s.serveCancel.1.settings = s.settings ∧
    s.serveCancel.1.outputs = s.outputs ∧ s.serveCancel.1.attnFalls = s.attnFalls ∧ s.serveCancel.1.twoWire =
    s.twoWire ∧ s.serveCancel.1.draws = s.draws ∧ s.serveCancel.1.seq.changes = s.seq.changes ∧
    s.serveCancel.1.queue.tail.feed = s.queue.tail.feed ∧ s.serveCancel.1.interp.x = s.interp.x ∧
    s.serveCancel.1.interp.y = s.interp.y ∧ s.serveCancel.1.interp.heading = s.interp.heading ∧
    s.serveCancel.1.interp.feed = s.interp.feed ∧ s.serveCancel.1.interp.turn = s.interp.turn ∧
    s.serveCancel.1.notice.trip = s.notice.trip ∧ s.serveCancel.1.notice.segmentDone = s.notice.segmentDone ∧
    s.serveCancel.1.notice.queueLow = s.notice.queueLow ∧ s.serveCancel.1.notice.band = s.notice.band ∧
    s.serveCancel.1.notice.storeDone = s.notice.storeDone ∧ s.serveCancel.1.notice.enables = s.notice.enables ∧
    s.serveCancel.1.notice.lastSent = s.notice.lastSent := by
  simp only [State.serveCancel]; split <;> simp

@[simp] theorem State.recoverEffect_frame (s : State) :
    s.recoverEffect.pending = s.pending ∧ s.recoverEffect.startup = s.startup ∧ s.recoverEffect.pins = s.pins ∧
    s.recoverEffect.override = s.override ∧ s.recoverEffect.stroke = s.stroke ∧ s.recoverEffect.classifier =
    s.classifier ∧ s.recoverEffect.trip = s.trip ∧ s.recoverEffect.link = s.link ∧ s.recoverEffect.settings =
    s.settings ∧ s.recoverEffect.outputs = s.outputs ∧ s.recoverEffect.attnFalls = s.attnFalls ∧
    s.recoverEffect.twoWire = s.twoWire ∧ s.recoverEffect.draws = s.draws ∧ s.recoverEffect.queue.records =
    s.queue.records ∧ s.recoverEffect.queue.tail.feed = s.queue.tail.feed ∧ s.recoverEffect.seq.dwellCount =
    s.seq.dwellCount ∧ s.recoverEffect.seq.starve = s.seq.starve ∧ s.recoverEffect.seq.interrupted =
    s.seq.interrupted ∧ s.recoverEffect.seq.changes = s.seq.changes ∧ s.recoverEffect.interp.turnPending =
    s.interp.turnPending ∧ s.recoverEffect.bus.started = s.bus.started ∧ s.recoverEffect.bus.frameCount =
    s.bus.frameCount ∧ s.recoverEffect.bus.level = s.bus.level ∧ s.recoverEffect.bus.s = s.bus.s ∧
    s.recoverEffect.bus.window = s.bus.window ∧ s.recoverEffect.bus.line = s.bus.line ∧ s.recoverEffect.bus.changes
    = s.bus.changes ∧ s.recoverEffect.bus.opening = s.bus.opening ∧ s.recoverEffect.notice.trip = s.notice.trip ∧
    s.recoverEffect.notice.segmentDone = s.notice.segmentDone ∧ s.recoverEffect.notice.queueLow = s.notice.queueLow
    ∧ s.recoverEffect.notice.band = s.notice.band ∧ s.recoverEffect.notice.tareDone = s.notice.tareDone ∧
    s.recoverEffect.notice.storeDone = s.notice.storeDone ∧ s.recoverEffect.notice.enables = s.notice.enables ∧
    s.recoverEffect.notice.lastSent = s.notice.lastSent := by
  simp [State.recoverEffect]

@[simp] theorem State.serveRecover_frame (s : State) :
    s.serveRecover.1.pending = s.pending ∧ s.serveRecover.1.startup = s.startup ∧ s.serveRecover.1.pins = s.pins ∧
    s.serveRecover.1.override = s.override ∧ s.serveRecover.1.stroke = s.stroke ∧ s.serveRecover.1.classifier =
    s.classifier ∧ s.serveRecover.1.trip = s.trip ∧ s.serveRecover.1.link = s.link ∧ s.serveRecover.1.settings =
    s.settings ∧ s.serveRecover.1.outputs = s.outputs ∧ s.serveRecover.1.attnFalls = s.attnFalls ∧
    s.serveRecover.1.twoWire = s.twoWire ∧ s.serveRecover.1.draws = s.draws ∧ s.serveRecover.1.queue.records =
    s.queue.records ∧ s.serveRecover.1.queue.tail.feed = s.queue.tail.feed ∧ s.serveRecover.1.seq.dwellCount =
    s.seq.dwellCount ∧ s.serveRecover.1.seq.starve = s.seq.starve ∧ s.serveRecover.1.seq.interrupted =
    s.seq.interrupted ∧ s.serveRecover.1.seq.changes = s.seq.changes ∧ s.serveRecover.1.interp.turnPending =
    s.interp.turnPending ∧ s.serveRecover.1.bus.started = s.bus.started ∧ s.serveRecover.1.bus.frameCount =
    s.bus.frameCount ∧ s.serveRecover.1.bus.level = s.bus.level ∧ s.serveRecover.1.bus.s = s.bus.s ∧
    s.serveRecover.1.bus.window = s.bus.window ∧ s.serveRecover.1.bus.line = s.bus.line ∧
    s.serveRecover.1.bus.changes = s.bus.changes ∧ s.serveRecover.1.bus.opening = s.bus.opening ∧
    s.serveRecover.1.notice.trip = s.notice.trip ∧ s.serveRecover.1.notice.segmentDone = s.notice.segmentDone ∧
    s.serveRecover.1.notice.queueLow = s.notice.queueLow ∧ s.serveRecover.1.notice.band = s.notice.band ∧
    s.serveRecover.1.notice.tareDone = s.notice.tareDone ∧ s.serveRecover.1.notice.storeDone = s.notice.storeDone ∧
    s.serveRecover.1.notice.enables = s.notice.enables ∧ s.serveRecover.1.notice.lastSent = s.notice.lastSent := by
  simp only [State.serveRecover]
  repeat' split
  all_goals simp

@[simp] theorem State.serveOverride_frame (s : State) (v : Nat) :
    (s.serveOverride v).1.pending = s.pending ∧ (s.serveOverride v).1.startup = s.startup ∧ (s.serveOverride
    v).1.pins = s.pins ∧ (s.serveOverride v).1.queue = s.queue ∧ (s.serveOverride v).1.interp = s.interp ∧
    (s.serveOverride v).1.seq = s.seq ∧ (s.serveOverride v).1.stroke = s.stroke ∧ (s.serveOverride v).1.classifier =
    s.classifier ∧ (s.serveOverride v).1.bus = s.bus ∧ (s.serveOverride v).1.trip = s.trip ∧ (s.serveOverride
    v).1.link = s.link ∧ (s.serveOverride v).1.notice = s.notice ∧ (s.serveOverride v).1.settings = s.settings ∧
    (s.serveOverride v).1.outputs = s.outputs ∧ (s.serveOverride v).1.attnFalls = s.attnFalls ∧ (s.serveOverride
    v).1.twoWire = s.twoWire ∧ (s.serveOverride v).1.draws = s.draws := by
  simp [State.serveOverride]

@[simp] theorem State.arrival_frame (s : State) :
    s.arrival.pending = s.pending ∧ s.arrival.startup = s.startup ∧ s.arrival.pins = s.pins ∧ s.arrival.override =
    s.override ∧ s.arrival.classifier = s.classifier ∧ s.arrival.link = s.link ∧ s.arrival.settings = s.settings ∧
    s.arrival.outputs = s.outputs ∧ s.arrival.attnFalls = s.attnFalls ∧ s.arrival.twoWire = s.twoWire ∧
    s.arrival.draws = s.draws ∧ s.arrival.bus.started = s.bus.started ∧ s.arrival.bus.frameCount = s.bus.frameCount
    ∧ s.arrival.bus.level = s.bus.level ∧ s.arrival.bus.x = s.bus.x ∧ s.arrival.bus.y = s.bus.y ∧ s.arrival.bus.h =
    s.bus.h ∧ s.arrival.bus.s = s.bus.s ∧ s.arrival.bus.window = s.bus.window ∧ s.arrival.bus.line = s.bus.line ∧
    s.arrival.trip.inputs = s.trip.inputs ∧ s.arrival.trip.green = s.trip.green ∧ s.arrival.trip.amber =
    s.trip.amber ∧ s.arrival.trip.red = s.trip.red ∧ s.arrival.trip.blink = s.trip.blink ∧ s.arrival.queue.tail =
    s.queue.tail ∧ s.arrival.interp.x = s.interp.x ∧ s.arrival.interp.y = s.interp.y ∧ s.arrival.interp.heading =
    s.interp.heading ∧ s.arrival.bus.opening = s.bus.opening ∧ s.arrival.notice.band = s.notice.band ∧
    s.arrival.notice.storeDone = s.notice.storeDone ∧ s.arrival.notice.enables = s.notice.enables ∧
    s.arrival.notice.lastSent = s.notice.lastSent := by
  simp only [State.arrival]; split <;> simp

@[simp] theorem State.haltEffect_frame (s : State) :
    s.haltEffect.pending = s.pending ∧ s.haltEffect.startup = s.startup ∧ s.haltEffect.pins = s.pins ∧
    s.haltEffect.queue = s.queue ∧ s.haltEffect.override = s.override ∧ s.haltEffect.interp = s.interp ∧
    s.haltEffect.classifier = s.classifier ∧ s.haltEffect.bus = s.bus ∧ s.haltEffect.trip = s.trip ∧
    s.haltEffect.link = s.link ∧ s.haltEffect.settings = s.settings ∧ s.haltEffect.outputs = s.outputs ∧
    s.haltEffect.attnFalls = s.attnFalls ∧ s.haltEffect.twoWire = s.twoWire ∧ s.haltEffect.draws = s.draws ∧
    s.haltEffect.seq.dwellCount = s.seq.dwellCount ∧ s.haltEffect.seq.interrupted = s.seq.interrupted ∧
    s.haltEffect.seq.changes = s.seq.changes ∧ s.haltEffect.notice.trip = s.notice.trip ∧
    s.haltEffect.notice.segmentDone = s.notice.segmentDone ∧ s.haltEffect.notice.queueLow = s.notice.queueLow ∧
    s.haltEffect.notice.band = s.notice.band ∧ s.haltEffect.notice.storeDone = s.notice.storeDone ∧
    s.haltEffect.notice.enables = s.notice.enables ∧ s.haltEffect.notice.lastSent = s.notice.lastSent := by
  simp only [State.haltEffect]; split <;> simp

@[simp] theorem State.quickStopEffect_frame (s : State) :
    s.quickStopEffect.pending = s.pending ∧ s.quickStopEffect.startup = s.startup ∧ s.quickStopEffect.pins = s.pins
    ∧ s.quickStopEffect.override = s.override ∧ s.quickStopEffect.classifier = s.classifier ∧ s.quickStopEffect.bus
    = s.bus ∧ s.quickStopEffect.trip = s.trip ∧ s.quickStopEffect.link = s.link ∧ s.quickStopEffect.settings =
    s.settings ∧ s.quickStopEffect.outputs = s.outputs ∧ s.quickStopEffect.attnFalls = s.attnFalls ∧
    s.quickStopEffect.twoWire = s.twoWire ∧ s.quickStopEffect.draws = s.draws ∧ s.quickStopEffect.seq.changes =
    s.seq.changes ∧ s.quickStopEffect.interp.x = s.interp.x ∧ s.quickStopEffect.interp.y = s.interp.y ∧
    s.quickStopEffect.interp.heading = s.interp.heading ∧ s.quickStopEffect.notice.trip = s.notice.trip ∧
    s.quickStopEffect.notice.segmentDone = s.notice.segmentDone ∧ s.quickStopEffect.notice.queueLow =
    s.notice.queueLow ∧ s.quickStopEffect.notice.band = s.notice.band ∧ s.quickStopEffect.notice.storeDone =
    s.notice.storeDone ∧ s.quickStopEffect.notice.enables = s.notice.enables ∧ s.quickStopEffect.notice.lastSent =
    s.notice.lastSent := by
  simp only [State.quickStopEffect]; split <;> simp

@[simp] theorem State.takeRiseHold_frame (s : State) :
    s.takeRiseHold.pending = s.pending ∧ s.takeRiseHold.startup = s.startup ∧ s.takeRiseHold.pins = s.pins ∧
    s.takeRiseHold.queue = s.queue ∧ s.takeRiseHold.override = s.override ∧ s.takeRiseHold.interp = s.interp ∧
    s.takeRiseHold.stroke = s.stroke ∧ s.takeRiseHold.classifier = s.classifier ∧ s.takeRiseHold.bus = s.bus ∧
    s.takeRiseHold.trip = s.trip ∧ s.takeRiseHold.link = s.link ∧ s.takeRiseHold.settings = s.settings ∧
    s.takeRiseHold.outputs = s.outputs ∧ s.takeRiseHold.attnFalls = s.attnFalls ∧ s.takeRiseHold.twoWire = s.twoWire
    ∧ s.takeRiseHold.draws = s.draws ∧ s.takeRiseHold.seq.dwellCount = s.seq.dwellCount ∧
    s.takeRiseHold.seq.interrupted = s.seq.interrupted ∧ s.takeRiseHold.notice.trip = s.notice.trip ∧
    s.takeRiseHold.notice.segmentDone = s.notice.segmentDone ∧ s.takeRiseHold.notice.queueLow = s.notice.queueLow ∧
    s.takeRiseHold.notice.band = s.notice.band ∧ s.takeRiseHold.notice.tareDone = s.notice.tareDone ∧
    s.takeRiseHold.notice.storeDone = s.notice.storeDone ∧ s.takeRiseHold.notice.enables = s.notice.enables ∧
    s.takeRiseHold.notice.lastSent = s.notice.lastSent := by
  simp only [State.takeRiseHold, State.takeChange]; repeat' split
  all_goals simp

@[simp] theorem State.takeRiseHalt_frame (s : State) :
    s.takeRiseHalt.pending = s.pending ∧ s.takeRiseHalt.startup = s.startup ∧ s.takeRiseHalt.pins = s.pins ∧
    s.takeRiseHalt.queue = s.queue ∧ s.takeRiseHalt.override = s.override ∧ s.takeRiseHalt.interp = s.interp ∧
    s.takeRiseHalt.classifier = s.classifier ∧ s.takeRiseHalt.bus = s.bus ∧ s.takeRiseHalt.trip = s.trip ∧
    s.takeRiseHalt.link = s.link ∧ s.takeRiseHalt.settings = s.settings ∧ s.takeRiseHalt.outputs = s.outputs ∧
    s.takeRiseHalt.attnFalls = s.attnFalls ∧ s.takeRiseHalt.twoWire = s.twoWire ∧ s.takeRiseHalt.draws = s.draws ∧
    s.takeRiseHalt.seq.dwellCount = s.seq.dwellCount ∧ s.takeRiseHalt.seq.interrupted = s.seq.interrupted ∧
    s.takeRiseHalt.notice.trip = s.notice.trip ∧ s.takeRiseHalt.notice.segmentDone = s.notice.segmentDone ∧
    s.takeRiseHalt.notice.queueLow = s.notice.queueLow ∧ s.takeRiseHalt.notice.band = s.notice.band ∧
    s.takeRiseHalt.notice.storeDone = s.notice.storeDone ∧ s.takeRiseHalt.notice.enables = s.notice.enables ∧
    s.takeRiseHalt.notice.lastSent = s.notice.lastSent := by
  simp only [State.takeRiseHalt, State.takeChange]; repeat' split
  all_goals simp

@[simp] theorem State.takeRiseQuickStop_frame (s : State) :
    s.takeRiseQuickStop.pending = s.pending ∧ s.takeRiseQuickStop.startup = s.startup ∧ s.takeRiseQuickStop.pins =
    s.pins ∧ s.takeRiseQuickStop.override = s.override ∧ s.takeRiseQuickStop.classifier = s.classifier ∧
    s.takeRiseQuickStop.bus = s.bus ∧ s.takeRiseQuickStop.trip = s.trip ∧ s.takeRiseQuickStop.link = s.link ∧
    s.takeRiseQuickStop.settings = s.settings ∧ s.takeRiseQuickStop.outputs = s.outputs ∧
    s.takeRiseQuickStop.attnFalls = s.attnFalls ∧ s.takeRiseQuickStop.twoWire = s.twoWire ∧
    s.takeRiseQuickStop.draws = s.draws ∧ s.takeRiseQuickStop.interp.x = s.interp.x ∧ s.takeRiseQuickStop.interp.y =
    s.interp.y ∧ s.takeRiseQuickStop.interp.heading = s.interp.heading ∧ s.takeRiseQuickStop.notice.trip =
    s.notice.trip ∧ s.takeRiseQuickStop.notice.segmentDone = s.notice.segmentDone ∧
    s.takeRiseQuickStop.notice.queueLow = s.notice.queueLow ∧ s.takeRiseQuickStop.notice.band = s.notice.band ∧
    s.takeRiseQuickStop.notice.storeDone = s.notice.storeDone ∧ s.takeRiseQuickStop.notice.enables =
    s.notice.enables ∧ s.takeRiseQuickStop.notice.lastSent = s.notice.lastSent := by
  simp only [State.takeRiseQuickStop, State.takeChange]; repeat' split
  all_goals simp

@[simp] theorem State.takeFall_frame (s : State) :
    s.takeFall.pending = s.pending ∧ s.takeFall.startup = s.startup ∧ s.takeFall.pins = s.pins ∧ s.takeFall.queue =
    s.queue ∧ s.takeFall.override = s.override ∧ s.takeFall.interp = s.interp ∧ s.takeFall.stroke = s.stroke ∧
    s.takeFall.classifier = s.classifier ∧ s.takeFall.bus = s.bus ∧ s.takeFall.trip = s.trip ∧ s.takeFall.link =
    s.link ∧ s.takeFall.notice = s.notice ∧ s.takeFall.settings = s.settings ∧ s.takeFall.outputs = s.outputs ∧
    s.takeFall.attnFalls = s.attnFalls ∧ s.takeFall.twoWire = s.twoWire ∧ s.takeFall.draws = s.draws ∧
    s.takeFall.seq.engine = s.seq.engine ∧ s.takeFall.seq.resume = s.seq.resume ∧ s.takeFall.seq.dwellCount =
    s.seq.dwellCount ∧ s.takeFall.seq.starve = s.seq.starve ∧ s.takeFall.seq.interrupted = s.seq.interrupted := by
  simp only [State.takeFall, State.takeChange]; repeat' split
  all_goals simp

end Sys2Proof.Machine
end

