-- ==== Sys2Proof/Laws/Bus.lean ====
section
/-! SUPPORT. The drive bus and the frame: for each shared operation, one lemma that says which parts of the state it leaves as they were. -/

namespace Sys2Proof.Machine

@[simp] theorem State.putSlot_frame (s : State) (k : Slot) (v : SlotState) :
    (s.putSlot k v).pending = s.pending ∧ (s.putSlot k v).startup = s.startup ∧ (s.putSlot k v).pins = s.pins ∧
    (s.putSlot k v).queue = s.queue ∧ (s.putSlot k v).override = s.override ∧ (s.putSlot k v).interp = s.interp ∧
    (s.putSlot k v).seq = s.seq ∧ (s.putSlot k v).stroke = s.stroke ∧ (s.putSlot k v).classifier = s.classifier ∧
    (s.putSlot k v).trip = s.trip ∧ (s.putSlot k v).link = s.link ∧ (s.putSlot k v).notice = s.notice ∧ (s.putSlot k
    v).settings = s.settings ∧ (s.putSlot k v).outputs = s.outputs ∧ (s.putSlot k v).attnFalls = s.attnFalls ∧
    (s.putSlot k v).twoWire = s.twoWire ∧ (s.putSlot k v).draws = s.draws ∧ (s.putSlot k v).bus.started =
    s.bus.started ∧ (s.putSlot k v).bus.frameCount = s.bus.frameCount ∧ (s.putSlot k v).bus.level = s.bus.level ∧
    (s.putSlot k v).bus.window = s.bus.window ∧ (s.putSlot k v).bus.line = s.bus.line ∧ (s.putSlot k v).bus.changes
    = s.bus.changes ∧ (s.putSlot k v).bus.opening = s.bus.opening := by
  cases k <;> simp [State.putSlot, Bus.put]

@[simp] theorem State.setLost_frame (s : State) (k : Slot) (b : Bool) :
    (s.setLost k b).pending = s.pending ∧ (s.setLost k b).startup = s.startup ∧ (s.setLost k b).pins = s.pins ∧
    (s.setLost k b).queue = s.queue ∧ (s.setLost k b).override = s.override ∧ (s.setLost k b).interp = s.interp ∧
    (s.setLost k b).stroke = s.stroke ∧ (s.setLost k b).classifier = s.classifier ∧ (s.setLost k b).link = s.link ∧
    (s.setLost k b).settings = s.settings ∧ (s.setLost k b).outputs = s.outputs ∧ (s.setLost k b).attnFalls =
    s.attnFalls ∧ (s.setLost k b).twoWire = s.twoWire ∧ (s.setLost k b).draws = s.draws ∧ (s.setLost k b).seq.engine
    = s.seq.engine ∧ (s.setLost k b).seq.resume = s.seq.resume ∧ (s.setLost k b).seq.dwellCount = s.seq.dwellCount ∧
    (s.setLost k b).seq.starve = s.seq.starve ∧ (s.setLost k b).seq.interrupted = s.seq.interrupted ∧ (s.setLost k
    b).trip.inputs = s.trip.inputs ∧ (s.setLost k b).trip.green = s.trip.green ∧ (s.setLost k b).trip.amber =
    s.trip.amber ∧ (s.setLost k b).trip.red = s.trip.red ∧ (s.setLost k b).trip.blink = s.trip.blink ∧ (s.setLost k
    b).trip.faultSet = s.trip.faultSet ∧ (s.setLost k b).bus.started = s.bus.started ∧ (s.setLost k
    b).bus.frameCount = s.bus.frameCount ∧ (s.setLost k b).bus.level = s.bus.level ∧ (s.setLost k b).bus.window =
    s.bus.window ∧ (s.setLost k b).bus.line = s.bus.line ∧ (s.setLost k b).bus.opening = s.bus.opening ∧ (s.setLost
    k b).notice.engineState = s.notice.engineState ∧ (s.setLost k b).notice.segmentDone = s.notice.segmentDone ∧
    (s.setLost k b).notice.queueLow = s.notice.queueLow ∧ (s.setLost k b).notice.band = s.notice.band ∧ (s.setLost k
    b).notice.tareDone = s.notice.tareDone ∧ (s.setLost k b).notice.storeDone = s.notice.storeDone ∧ (s.setLost k
    b).notice.enables = s.notice.enables ∧ (s.setLost k b).notice.lastSent = s.notice.lastSent := by
  simp only [State.setLost]; split <;> simp

@[simp] theorem State.setFault_frame (s : State) (k : Slot) (b : Bool) :
    (s.setFault k b).pending = s.pending ∧ (s.setFault k b).startup = s.startup ∧ (s.setFault k b).pins = s.pins ∧
    (s.setFault k b).queue = s.queue ∧ (s.setFault k b).override = s.override ∧ (s.setFault k b).interp = s.interp ∧
    (s.setFault k b).stroke = s.stroke ∧ (s.setFault k b).classifier = s.classifier ∧ (s.setFault k b).link = s.link
    ∧ (s.setFault k b).settings = s.settings ∧ (s.setFault k b).outputs = s.outputs ∧ (s.setFault k b).attnFalls =
    s.attnFalls ∧ (s.setFault k b).twoWire = s.twoWire ∧ (s.setFault k b).draws = s.draws ∧ (s.setFault k
    b).seq.engine = s.seq.engine ∧ (s.setFault k b).seq.resume = s.seq.resume ∧ (s.setFault k b).seq.dwellCount =
    s.seq.dwellCount ∧ (s.setFault k b).seq.starve = s.seq.starve ∧ (s.setFault k b).seq.interrupted =
    s.seq.interrupted ∧ (s.setFault k b).trip.inputs = s.trip.inputs ∧ (s.setFault k b).trip.green = s.trip.green ∧
    (s.setFault k b).trip.amber = s.trip.amber ∧ (s.setFault k b).trip.red = s.trip.red ∧ (s.setFault k
    b).trip.blink = s.trip.blink ∧ (s.setFault k b).trip.lostSet = s.trip.lostSet ∧ (s.setFault k b).bus.started =
    s.bus.started ∧ (s.setFault k b).bus.frameCount = s.bus.frameCount ∧ (s.setFault k b).bus.level = s.bus.level ∧
    (s.setFault k b).bus.window = s.bus.window ∧ (s.setFault k b).bus.line = s.bus.line ∧ (s.setFault k
    b).bus.opening = s.bus.opening ∧ (s.setFault k b).notice.engineState = s.notice.engineState ∧ (s.setFault k
    b).notice.segmentDone = s.notice.segmentDone ∧ (s.setFault k b).notice.queueLow = s.notice.queueLow ∧
    (s.setFault k b).notice.band = s.notice.band ∧ (s.setFault k b).notice.tareDone = s.notice.tareDone ∧
    (s.setFault k b).notice.storeDone = s.notice.storeDone ∧ (s.setFault k b).notice.enables = s.notice.enables ∧
    (s.setFault k b).notice.lastSent = s.notice.lastSent := by
  simp only [State.setFault]; split <;> simp

@[simp] theorem State.setFollowing_frame (s : State) (k : Slot) (b : Bool) :
    (s.setFollowing k b).pending = s.pending ∧ (s.setFollowing k b).startup = s.startup ∧ (s.setFollowing k b).pins
    = s.pins ∧ (s.setFollowing k b).queue = s.queue ∧ (s.setFollowing k b).override = s.override ∧ (s.setFollowing k
    b).interp = s.interp ∧ (s.setFollowing k b).stroke = s.stroke ∧ (s.setFollowing k b).classifier = s.classifier ∧
    (s.setFollowing k b).link = s.link ∧ (s.setFollowing k b).settings = s.settings ∧ (s.setFollowing k b).outputs =
    s.outputs ∧ (s.setFollowing k b).attnFalls = s.attnFalls ∧ (s.setFollowing k b).twoWire = s.twoWire ∧
    (s.setFollowing k b).draws = s.draws ∧ (s.setFollowing k b).seq.engine = s.seq.engine ∧ (s.setFollowing k
    b).seq.resume = s.seq.resume ∧ (s.setFollowing k b).seq.dwellCount = s.seq.dwellCount ∧ (s.setFollowing k
    b).seq.starve = s.seq.starve ∧ (s.setFollowing k b).seq.interrupted = s.seq.interrupted ∧ (s.setFollowing k
    b).trip.inputs = s.trip.inputs ∧ (s.setFollowing k b).trip.green = s.trip.green ∧ (s.setFollowing k
    b).trip.amber = s.trip.amber ∧ (s.setFollowing k b).trip.red = s.trip.red ∧ (s.setFollowing k b).trip.blink =
    s.trip.blink ∧ (s.setFollowing k b).trip.faultSet = s.trip.faultSet ∧ (s.setFollowing k b).trip.lostSet =
    s.trip.lostSet ∧ (s.setFollowing k b).bus.started = s.bus.started ∧ (s.setFollowing k b).bus.frameCount =
    s.bus.frameCount ∧ (s.setFollowing k b).bus.level = s.bus.level ∧ (s.setFollowing k b).bus.window = s.bus.window
    ∧ (s.setFollowing k b).bus.line = s.bus.line ∧ (s.setFollowing k b).bus.opening = s.bus.opening ∧
    (s.setFollowing k b).notice.engineState = s.notice.engineState ∧ (s.setFollowing k b).notice.segmentDone =
    s.notice.segmentDone ∧ (s.setFollowing k b).notice.queueLow = s.notice.queueLow ∧ (s.setFollowing k
    b).notice.band = s.notice.band ∧ (s.setFollowing k b).notice.tareDone = s.notice.tareDone ∧ (s.setFollowing k
    b).notice.storeDone = s.notice.storeDone ∧ (s.setFollowing k b).notice.enables = s.notice.enables ∧
    (s.setFollowing k b).notice.lastSent = s.notice.lastSent := by
  simp only [State.setFollowing]
  repeat' split
  all_goals simp

@[simp] theorem State.deactivateSlot_frame (s : State) (k : Slot) :
    (s.deactivateSlot k).pending = s.pending ∧ (s.deactivateSlot k).startup = s.startup ∧ (s.deactivateSlot k).pins
    = s.pins ∧ (s.deactivateSlot k).queue = s.queue ∧ (s.deactivateSlot k).override = s.override ∧ (s.deactivateSlot
    k).interp = s.interp ∧ (s.deactivateSlot k).stroke = s.stroke ∧ (s.deactivateSlot k).classifier = s.classifier ∧
    (s.deactivateSlot k).link = s.link ∧ (s.deactivateSlot k).settings = s.settings ∧ (s.deactivateSlot k).outputs =
    s.outputs ∧ (s.deactivateSlot k).attnFalls = s.attnFalls ∧ (s.deactivateSlot k).twoWire = s.twoWire ∧
    (s.deactivateSlot k).draws = s.draws ∧ (s.deactivateSlot k).seq.engine = s.seq.engine ∧ (s.deactivateSlot
    k).seq.resume = s.seq.resume ∧ (s.deactivateSlot k).seq.dwellCount = s.seq.dwellCount ∧ (s.deactivateSlot
    k).seq.starve = s.seq.starve ∧ (s.deactivateSlot k).seq.interrupted = s.seq.interrupted ∧ (s.deactivateSlot
    k).trip.inputs = s.trip.inputs ∧ (s.deactivateSlot k).trip.green = s.trip.green ∧ (s.deactivateSlot
    k).trip.amber = s.trip.amber ∧ (s.deactivateSlot k).trip.red = s.trip.red ∧ (s.deactivateSlot k).trip.blink =
    s.trip.blink ∧ (s.deactivateSlot k).bus.started = s.bus.started ∧ (s.deactivateSlot k).bus.frameCount =
    s.bus.frameCount ∧ (s.deactivateSlot k).bus.level = s.bus.level ∧ (s.deactivateSlot k).bus.window = s.bus.window
    ∧ (s.deactivateSlot k).bus.line = s.bus.line ∧ (s.deactivateSlot k).bus.opening = s.bus.opening ∧
    (s.deactivateSlot k).notice.engineState = s.notice.engineState ∧ (s.deactivateSlot k).notice.segmentDone =
    s.notice.segmentDone ∧ (s.deactivateSlot k).notice.queueLow = s.notice.queueLow ∧ (s.deactivateSlot
    k).notice.band = s.notice.band ∧ (s.deactivateSlot k).notice.tareDone = s.notice.tareDone ∧ (s.deactivateSlot
    k).notice.storeDone = s.notice.storeDone ∧ (s.deactivateSlot k).notice.enables = s.notice.enables ∧
    (s.deactivateSlot k).notice.lastSent = s.notice.lastSent := by
  simp [State.deactivateSlot]

@[simp] theorem State.openSlot_frame (s : State) (k : Slot) :
    (s.openSlot k).pending = s.pending ∧ (s.openSlot k).startup = s.startup ∧ (s.openSlot k).pins = s.pins ∧
    (s.openSlot k).queue = s.queue ∧ (s.openSlot k).override = s.override ∧ (s.openSlot k).interp = s.interp ∧
    (s.openSlot k).stroke = s.stroke ∧ (s.openSlot k).classifier = s.classifier ∧ (s.openSlot k).link = s.link ∧
    (s.openSlot k).settings = s.settings ∧ (s.openSlot k).outputs = s.outputs ∧ (s.openSlot k).attnFalls =
    s.attnFalls ∧ (s.openSlot k).twoWire = s.twoWire ∧ (s.openSlot k).draws = s.draws ∧ (s.openSlot k).seq.engine =
    s.seq.engine ∧ (s.openSlot k).seq.resume = s.seq.resume ∧ (s.openSlot k).seq.dwellCount = s.seq.dwellCount ∧
    (s.openSlot k).seq.starve = s.seq.starve ∧ (s.openSlot k).seq.interrupted = s.seq.interrupted ∧ (s.openSlot
    k).trip.inputs = s.trip.inputs ∧ (s.openSlot k).trip.green = s.trip.green ∧ (s.openSlot k).trip.amber =
    s.trip.amber ∧ (s.openSlot k).trip.red = s.trip.red ∧ (s.openSlot k).trip.blink = s.trip.blink ∧ (s.openSlot
    k).bus.started = s.bus.started ∧ (s.openSlot k).bus.frameCount = s.bus.frameCount ∧ (s.openSlot k).bus.level =
    s.bus.level ∧ (s.openSlot k).bus.window = s.bus.window ∧ (s.openSlot k).bus.line = s.bus.line ∧ (s.openSlot
    k).bus.opening = s.bus.opening ∧ (s.openSlot k).notice.engineState = s.notice.engineState ∧ (s.openSlot
    k).notice.segmentDone = s.notice.segmentDone ∧ (s.openSlot k).notice.queueLow = s.notice.queueLow ∧ (s.openSlot
    k).notice.band = s.notice.band ∧ (s.openSlot k).notice.tareDone = s.notice.tareDone ∧ (s.openSlot
    k).notice.storeDone = s.notice.storeDone ∧ (s.openSlot k).notice.enables = s.notice.enables ∧ (s.openSlot
    k).notice.lastSent = s.notice.lastSent := by
  simp only [State.openSlot]
  repeat' split
  all_goals simp

@[simp] theorem State.openFrame_frame (s : State) :
    s.openFrame.pending = s.pending ∧ s.openFrame.startup = s.startup ∧ s.openFrame.pins = s.pins ∧
    s.openFrame.queue = s.queue ∧ s.openFrame.override = s.override ∧ s.openFrame.interp = s.interp ∧
    s.openFrame.stroke = s.stroke ∧ s.openFrame.classifier = s.classifier ∧ s.openFrame.link = s.link ∧
    s.openFrame.settings = s.settings ∧ s.openFrame.outputs = s.outputs ∧ s.openFrame.attnFalls = s.attnFalls ∧
    s.openFrame.twoWire = s.twoWire ∧ s.openFrame.draws = s.draws ∧ s.openFrame.seq.engine = s.seq.engine ∧
    s.openFrame.seq.resume = s.seq.resume ∧ s.openFrame.seq.dwellCount = s.seq.dwellCount ∧ s.openFrame.seq.starve =
    s.seq.starve ∧ s.openFrame.seq.interrupted = s.seq.interrupted ∧ s.openFrame.trip.inputs = s.trip.inputs ∧
    s.openFrame.trip.green = s.trip.green ∧ s.openFrame.trip.amber = s.trip.amber ∧ s.openFrame.trip.red =
    s.trip.red ∧ s.openFrame.trip.blink = s.trip.blink ∧ s.openFrame.bus.started = s.bus.started ∧
    s.openFrame.bus.level = s.bus.level ∧ s.openFrame.notice.engineState = s.notice.engineState ∧
    s.openFrame.notice.segmentDone = s.notice.segmentDone ∧ s.openFrame.notice.queueLow = s.notice.queueLow ∧
    s.openFrame.notice.band = s.notice.band ∧ s.openFrame.notice.tareDone = s.notice.tareDone ∧
    s.openFrame.notice.storeDone = s.notice.storeDone ∧ s.openFrame.notice.enables = s.notice.enables ∧
    s.openFrame.notice.lastSent = s.notice.lastSent := by
  simp [State.openFrame]

@[simp] theorem State.takeSetpoints_frame (s : State) :
    s.takeSetpoints.pending = s.pending ∧ s.takeSetpoints.startup = s.startup ∧ s.takeSetpoints.pins = s.pins ∧
    s.takeSetpoints.queue = s.queue ∧ s.takeSetpoints.override = s.override ∧ s.takeSetpoints.interp = s.interp ∧
    s.takeSetpoints.seq = s.seq ∧ s.takeSetpoints.stroke = s.stroke ∧ s.takeSetpoints.classifier = s.classifier ∧
    s.takeSetpoints.trip = s.trip ∧ s.takeSetpoints.link = s.link ∧ s.takeSetpoints.notice = s.notice ∧
    s.takeSetpoints.settings = s.settings ∧ s.takeSetpoints.outputs = s.outputs ∧ s.takeSetpoints.attnFalls =
    s.attnFalls ∧ s.takeSetpoints.twoWire = s.twoWire ∧ s.takeSetpoints.draws = s.draws ∧
    s.takeSetpoints.bus.started = s.bus.started ∧ s.takeSetpoints.bus.frameCount = s.bus.frameCount ∧
    s.takeSetpoints.bus.level = s.bus.level ∧ s.takeSetpoints.bus.window = s.bus.window ∧ s.takeSetpoints.bus.line =
    s.bus.line ∧ s.takeSetpoints.bus.changes = s.bus.changes ∧ s.takeSetpoints.bus.opening = s.bus.opening := by
  simp [State.takeSetpoints]

@[simp] theorem State.sendSlot_frame (s : State) (k : Slot) :
    (s.sendSlot k).pending = s.pending ∧ (s.sendSlot k).startup = s.startup ∧ (s.sendSlot k).pins = s.pins ∧
    (s.sendSlot k).queue = s.queue ∧ (s.sendSlot k).override = s.override ∧ (s.sendSlot k).interp = s.interp ∧
    (s.sendSlot k).stroke = s.stroke ∧ (s.sendSlot k).classifier = s.classifier ∧ (s.sendSlot k).link = s.link ∧
    (s.sendSlot k).settings = s.settings ∧ (s.sendSlot k).outputs = s.outputs ∧ (s.sendSlot k).attnFalls =
    s.attnFalls ∧ (s.sendSlot k).twoWire = s.twoWire ∧ (s.sendSlot k).draws = s.draws ∧ (s.sendSlot k).seq.engine =
    s.seq.engine ∧ (s.sendSlot k).seq.resume = s.seq.resume ∧ (s.sendSlot k).seq.dwellCount = s.seq.dwellCount ∧
    (s.sendSlot k).seq.starve = s.seq.starve ∧ (s.sendSlot k).seq.interrupted = s.seq.interrupted ∧ (s.sendSlot
    k).trip.inputs = s.trip.inputs ∧ (s.sendSlot k).trip.green = s.trip.green ∧ (s.sendSlot k).trip.amber =
    s.trip.amber ∧ (s.sendSlot k).trip.red = s.trip.red ∧ (s.sendSlot k).trip.blink = s.trip.blink ∧ (s.sendSlot
    k).trip.faultSet = s.trip.faultSet ∧ (s.sendSlot k).trip.lostSet = s.trip.lostSet ∧ (s.sendSlot k).bus.started =
    s.bus.started ∧ (s.sendSlot k).bus.frameCount = s.bus.frameCount ∧ (s.sendSlot k).bus.level = s.bus.level ∧
    (s.sendSlot k).bus.opening = s.bus.opening ∧ (s.sendSlot k).notice.engineState = s.notice.engineState ∧
    (s.sendSlot k).notice.segmentDone = s.notice.segmentDone ∧ (s.sendSlot k).notice.queueLow = s.notice.queueLow ∧
    (s.sendSlot k).notice.band = s.notice.band ∧ (s.sendSlot k).notice.tareDone = s.notice.tareDone ∧ (s.sendSlot
    k).notice.storeDone = s.notice.storeDone ∧ (s.sendSlot k).notice.enables = s.notice.enables ∧ (s.sendSlot
    k).notice.lastSent = s.notice.lastSent := by
  simp only [State.sendSlot]; split <;> cases k <;> simp [Bus.put]

@[simp] theorem State.sendFirstOf_frame (s : State) (ks : List Slot) :
    (State.sendFirstOf ks s).pending = s.pending ∧ (State.sendFirstOf ks s).startup = s.startup ∧ (State.sendFirstOf
    ks s).pins = s.pins ∧ (State.sendFirstOf ks s).queue = s.queue ∧ (State.sendFirstOf ks s).override = s.override
    ∧ (State.sendFirstOf ks s).interp = s.interp ∧ (State.sendFirstOf ks s).stroke = s.stroke ∧ (State.sendFirstOf
    ks s).classifier = s.classifier ∧ (State.sendFirstOf ks s).link = s.link ∧ (State.sendFirstOf ks s).settings =
    s.settings ∧ (State.sendFirstOf ks s).outputs = s.outputs ∧ (State.sendFirstOf ks s).attnFalls = s.attnFalls ∧
    (State.sendFirstOf ks s).twoWire = s.twoWire ∧ (State.sendFirstOf ks s).draws = s.draws ∧ (State.sendFirstOf ks
    s).seq.engine = s.seq.engine ∧ (State.sendFirstOf ks s).seq.resume = s.seq.resume ∧ (State.sendFirstOf ks
    s).seq.dwellCount = s.seq.dwellCount ∧ (State.sendFirstOf ks s).seq.starve = s.seq.starve ∧ (State.sendFirstOf
    ks s).seq.interrupted = s.seq.interrupted ∧ (State.sendFirstOf ks s).trip.inputs = s.trip.inputs ∧
    (State.sendFirstOf ks s).trip.green = s.trip.green ∧ (State.sendFirstOf ks s).trip.amber = s.trip.amber ∧
    (State.sendFirstOf ks s).trip.red = s.trip.red ∧ (State.sendFirstOf ks s).trip.blink = s.trip.blink ∧
    (State.sendFirstOf ks s).trip.faultSet = s.trip.faultSet ∧ (State.sendFirstOf ks s).trip.lostSet =
    s.trip.lostSet ∧ (State.sendFirstOf ks s).bus.started = s.bus.started ∧ (State.sendFirstOf ks s).bus.frameCount
    = s.bus.frameCount ∧ (State.sendFirstOf ks s).bus.level = s.bus.level ∧ (State.sendFirstOf ks s).bus.opening =
    s.bus.opening ∧ (State.sendFirstOf ks s).notice.engineState = s.notice.engineState ∧ (State.sendFirstOf ks
    s).notice.segmentDone = s.notice.segmentDone ∧ (State.sendFirstOf ks s).notice.queueLow = s.notice.queueLow ∧
    (State.sendFirstOf ks s).notice.band = s.notice.band ∧ (State.sendFirstOf ks s).notice.tareDone =
    s.notice.tareDone ∧ (State.sendFirstOf ks s).notice.storeDone = s.notice.storeDone ∧ (State.sendFirstOf ks
    s).notice.enables = s.notice.enables ∧ (State.sendFirstOf ks s).notice.lastSent = s.notice.lastSent := by
  induction ks generalizing s with
  | nil => simp [State.sendFirstOf]
  | cons k ks ih =>
    simp only [State.sendFirstOf]
    split
    · simp
    · exact ih s

@[simp] theorem State.sendFrame_frame (s : State) :
    s.sendFrame.pending = s.pending ∧ s.sendFrame.startup = s.startup ∧ s.sendFrame.pins = s.pins ∧
    s.sendFrame.queue = s.queue ∧ s.sendFrame.override = s.override ∧ s.sendFrame.interp = s.interp ∧
    s.sendFrame.stroke = s.stroke ∧ s.sendFrame.classifier = s.classifier ∧ s.sendFrame.link = s.link ∧
    s.sendFrame.settings = s.settings ∧ s.sendFrame.outputs = s.outputs ∧ s.sendFrame.attnFalls = s.attnFalls ∧
    s.sendFrame.twoWire = s.twoWire ∧ s.sendFrame.draws = s.draws ∧ s.sendFrame.seq.engine = s.seq.engine ∧
    s.sendFrame.seq.resume = s.seq.resume ∧ s.sendFrame.seq.dwellCount = s.seq.dwellCount ∧ s.sendFrame.seq.starve =
    s.seq.starve ∧ s.sendFrame.seq.interrupted = s.seq.interrupted ∧ s.sendFrame.trip.inputs = s.trip.inputs ∧
    s.sendFrame.trip.green = s.trip.green ∧ s.sendFrame.trip.amber = s.trip.amber ∧ s.sendFrame.trip.red =
    s.trip.red ∧ s.sendFrame.trip.blink = s.trip.blink ∧ s.sendFrame.trip.faultSet = s.trip.faultSet ∧
    s.sendFrame.trip.lostSet = s.trip.lostSet ∧ s.sendFrame.bus.started = s.bus.started ∧ s.sendFrame.bus.frameCount
    = s.bus.frameCount ∧ s.sendFrame.bus.level = s.bus.level ∧ s.sendFrame.bus.opening = s.bus.opening ∧
    s.sendFrame.notice.engineState = s.notice.engineState ∧ s.sendFrame.notice.segmentDone = s.notice.segmentDone ∧
    s.sendFrame.notice.queueLow = s.notice.queueLow ∧ s.sendFrame.notice.band = s.notice.band ∧
    s.sendFrame.notice.tareDone = s.notice.tareDone ∧ s.sendFrame.notice.storeDone = s.notice.storeDone ∧
    s.sendFrame.notice.enables = s.notice.enables ∧ s.sendFrame.notice.lastSent = s.notice.lastSent := by
  simp [State.sendFrame]

@[simp] theorem State.missReturn_frame (s : State) (k : Slot) :
    (s.missReturn k).pending = s.pending ∧ (s.missReturn k).startup = s.startup ∧ (s.missReturn k).pins = s.pins ∧
    (s.missReturn k).queue = s.queue ∧ (s.missReturn k).override = s.override ∧ (s.missReturn k).interp = s.interp ∧
    (s.missReturn k).stroke = s.stroke ∧ (s.missReturn k).classifier = s.classifier ∧ (s.missReturn k).link = s.link
    ∧ (s.missReturn k).settings = s.settings ∧ (s.missReturn k).outputs = s.outputs ∧ (s.missReturn k).attnFalls =
    s.attnFalls ∧ (s.missReturn k).twoWire = s.twoWire ∧ (s.missReturn k).draws = s.draws ∧ (s.missReturn
    k).seq.engine = s.seq.engine ∧ (s.missReturn k).seq.resume = s.seq.resume ∧ (s.missReturn k).seq.dwellCount =
    s.seq.dwellCount ∧ (s.missReturn k).seq.starve = s.seq.starve ∧ (s.missReturn k).seq.interrupted =
    s.seq.interrupted ∧ (s.missReturn k).trip.inputs = s.trip.inputs ∧ (s.missReturn k).trip.green = s.trip.green ∧
    (s.missReturn k).trip.amber = s.trip.amber ∧ (s.missReturn k).trip.red = s.trip.red ∧ (s.missReturn
    k).trip.blink = s.trip.blink ∧ (s.missReturn k).trip.faultSet = s.trip.faultSet ∧ (s.missReturn k).bus.started =
    s.bus.started ∧ (s.missReturn k).bus.frameCount = s.bus.frameCount ∧ (s.missReturn k).bus.level = s.bus.level ∧
    (s.missReturn k).bus.window = s.bus.window ∧ (s.missReturn k).bus.line = s.bus.line ∧ (s.missReturn
    k).bus.opening = s.bus.opening ∧ (s.missReturn k).notice.engineState = s.notice.engineState ∧ (s.missReturn
    k).notice.segmentDone = s.notice.segmentDone ∧ (s.missReturn k).notice.queueLow = s.notice.queueLow ∧
    (s.missReturn k).notice.band = s.notice.band ∧ (s.missReturn k).notice.tareDone = s.notice.tareDone ∧
    (s.missReturn k).notice.storeDone = s.notice.storeDone ∧ (s.missReturn k).notice.enables = s.notice.enables ∧
    (s.missReturn k).notice.lastSent = s.notice.lastSent := by
  simp only [State.missReturn]; split <;> simp

@[simp] theorem State.adoptValue_frame (s : State) (k : Slot) (a : Int) :
    (s.adoptValue k a).pending = s.pending ∧ (s.adoptValue k a).startup = s.startup ∧ (s.adoptValue k a).pins =
    s.pins ∧ (s.adoptValue k a).override = s.override ∧ (s.adoptValue k a).seq = s.seq ∧ (s.adoptValue k a).stroke =
    s.stroke ∧ (s.adoptValue k a).classifier = s.classifier ∧ (s.adoptValue k a).bus = s.bus ∧ (s.adoptValue k
    a).trip = s.trip ∧ (s.adoptValue k a).link = s.link ∧ (s.adoptValue k a).notice = s.notice ∧ (s.adoptValue k
    a).settings = s.settings ∧ (s.adoptValue k a).outputs = s.outputs ∧ (s.adoptValue k a).attnFalls = s.attnFalls ∧
    (s.adoptValue k a).twoWire = s.twoWire ∧ (s.adoptValue k a).draws = s.draws ∧ (s.adoptValue k a).queue.records =
    s.queue.records ∧ (s.adoptValue k a).queue.tail.feed = s.queue.tail.feed ∧ (s.adoptValue k a).interp.feed =
    s.interp.feed ∧ (s.adoptValue k a).interp.progress = s.interp.progress ∧ (s.adoptValue k a).interp.turn =
    s.interp.turn ∧ (s.adoptValue k a).interp.turnPending = s.interp.turnPending := by
  simp only [State.adoptValue]
  repeat' split
  all_goals simp

@[simp] theorem State.adoptStage_frame (s : State) (k : Slot) (r : Bool) (a : Int) :
    (s.adoptStage k r a).pending = s.pending ∧ (s.adoptStage k r a).startup = s.startup ∧ (s.adoptStage k r a).pins
    = s.pins ∧ (s.adoptStage k r a).override = s.override ∧ (s.adoptStage k r a).seq = s.seq ∧ (s.adoptStage k r
    a).stroke = s.stroke ∧ (s.adoptStage k r a).classifier = s.classifier ∧ (s.adoptStage k r a).trip = s.trip ∧
    (s.adoptStage k r a).link = s.link ∧ (s.adoptStage k r a).notice = s.notice ∧ (s.adoptStage k r a).settings =
    s.settings ∧ (s.adoptStage k r a).outputs = s.outputs ∧ (s.adoptStage k r a).attnFalls = s.attnFalls ∧
    (s.adoptStage k r a).twoWire = s.twoWire ∧ (s.adoptStage k r a).draws = s.draws ∧ (s.adoptStage k r
    a).queue.records = s.queue.records ∧ (s.adoptStage k r a).queue.tail.feed = s.queue.tail.feed ∧ (s.adoptStage k
    r a).interp.feed = s.interp.feed ∧ (s.adoptStage k r a).interp.progress = s.interp.progress ∧ (s.adoptStage k r
    a).interp.turn = s.interp.turn ∧ (s.adoptStage k r a).interp.turnPending = s.interp.turnPending ∧ (s.adoptStage
    k r a).bus.started = s.bus.started ∧ (s.adoptStage k r a).bus.frameCount = s.bus.frameCount ∧ (s.adoptStage k r
    a).bus.level = s.bus.level ∧ (s.adoptStage k r a).bus.window = s.bus.window ∧ (s.adoptStage k r a).bus.line =
    s.bus.line ∧ (s.adoptStage k r a).bus.changes = s.bus.changes ∧ (s.adoptStage k r a).bus.opening = s.bus.opening := by
  simp only [State.adoptStage]; split <;> simp

@[simp] theorem State.followStage_frame (s : State) (k : Slot) (b : Bool) (a : Int) :
    (s.followStage k b a).pending = s.pending ∧ (s.followStage k b a).startup = s.startup ∧ (s.followStage k b
    a).pins = s.pins ∧ (s.followStage k b a).queue = s.queue ∧ (s.followStage k b a).override = s.override ∧
    (s.followStage k b a).interp = s.interp ∧ (s.followStage k b a).stroke = s.stroke ∧ (s.followStage k b
    a).classifier = s.classifier ∧ (s.followStage k b a).link = s.link ∧ (s.followStage k b a).settings = s.settings
    ∧ (s.followStage k b a).outputs = s.outputs ∧ (s.followStage k b a).attnFalls = s.attnFalls ∧ (s.followStage k b
    a).twoWire = s.twoWire ∧ (s.followStage k b a).draws = s.draws ∧ (s.followStage k b a).seq.engine = s.seq.engine
    ∧ (s.followStage k b a).seq.resume = s.seq.resume ∧ (s.followStage k b a).seq.dwellCount = s.seq.dwellCount ∧
    (s.followStage k b a).seq.starve = s.seq.starve ∧ (s.followStage k b a).seq.interrupted = s.seq.interrupted ∧
    (s.followStage k b a).trip.inputs = s.trip.inputs ∧ (s.followStage k b a).trip.green = s.trip.green ∧
    (s.followStage k b a).trip.amber = s.trip.amber ∧ (s.followStage k b a).trip.red = s.trip.red ∧ (s.followStage k
    b a).trip.blink = s.trip.blink ∧ (s.followStage k b a).trip.faultSet = s.trip.faultSet ∧ (s.followStage k b
    a).trip.lostSet = s.trip.lostSet ∧ (s.followStage k b a).bus.started = s.bus.started ∧ (s.followStage k b
    a).bus.frameCount = s.bus.frameCount ∧ (s.followStage k b a).bus.level = s.bus.level ∧ (s.followStage k b
    a).bus.window = s.bus.window ∧ (s.followStage k b a).bus.line = s.bus.line ∧ (s.followStage k b a).bus.opening =
    s.bus.opening ∧ (s.followStage k b a).notice.engineState = s.notice.engineState ∧ (s.followStage k b
    a).notice.segmentDone = s.notice.segmentDone ∧ (s.followStage k b a).notice.queueLow = s.notice.queueLow ∧
    (s.followStage k b a).notice.band = s.notice.band ∧ (s.followStage k b a).notice.tareDone = s.notice.tareDone ∧
    (s.followStage k b a).notice.storeDone = s.notice.storeDone ∧ (s.followStage k b a).notice.enables =
    s.notice.enables ∧ (s.followStage k b a).notice.lastSent = s.notice.lastSent := by
  simp only [State.followStage]
  repeat' split
  all_goals simp

@[simp] theorem State.restStage_frame (s : State) (k : Slot) (b : Bool) :
    (s.restStage k b).pending = s.pending ∧ (s.restStage k b).startup = s.startup ∧ (s.restStage k b).pins = s.pins
    ∧ (s.restStage k b).queue = s.queue ∧ (s.restStage k b).override = s.override ∧ (s.restStage k b).interp =
    s.interp ∧ (s.restStage k b).link = s.link ∧ (s.restStage k b).settings = s.settings ∧ (s.restStage k b).outputs
    = s.outputs ∧ (s.restStage k b).attnFalls = s.attnFalls ∧ (s.restStage k b).twoWire = s.twoWire ∧ (s.restStage k
    b).draws = s.draws ∧ (s.restStage k b).seq.engine = s.seq.engine ∧ (s.restStage k b).seq.resume = s.seq.resume ∧
    (s.restStage k b).seq.dwellCount = s.seq.dwellCount ∧ (s.restStage k b).seq.starve = s.seq.starve ∧ (s.restStage
    k b).seq.interrupted = s.seq.interrupted ∧ (s.restStage k b).trip.inputs = s.trip.inputs ∧ (s.restStage k
    b).trip.green = s.trip.green ∧ (s.restStage k b).trip.amber = s.trip.amber ∧ (s.restStage k b).trip.red =
    s.trip.red ∧ (s.restStage k b).trip.blink = s.trip.blink ∧ (s.restStage k b).bus.started = s.bus.started ∧
    (s.restStage k b).bus.frameCount = s.bus.frameCount ∧ (s.restStage k b).bus.level = s.bus.level ∧ (s.restStage k
    b).bus.x = s.bus.x ∧ (s.restStage k b).bus.y = s.bus.y ∧ (s.restStage k b).bus.h = s.bus.h ∧ (s.restStage k
    b).bus.s = s.bus.s ∧ (s.restStage k b).bus.window = s.bus.window ∧ (s.restStage k b).bus.line = s.bus.line ∧
    (s.restStage k b).classifier.bands = s.classifier.bands ∧ (s.restStage k b).classifier.material =
    s.classifier.material ∧ (s.restStage k b).bus.opening = s.bus.opening ∧ (s.restStage k b).notice.engineState =
    s.notice.engineState ∧ (s.restStage k b).notice.segmentDone = s.notice.segmentDone ∧ (s.restStage k
    b).notice.queueLow = s.notice.queueLow ∧ (s.restStage k b).notice.band = s.notice.band ∧ (s.restStage k
    b).notice.tareDone = s.notice.tareDone ∧ (s.restStage k b).notice.storeDone = s.notice.storeDone ∧ (s.restStage
    k b).notice.enables = s.notice.enables ∧ (s.restStage k b).notice.lastSent = s.notice.lastSent := by
  simp only [State.restStage]
  repeat' split
  all_goals simp

@[simp] theorem State.validReturn_frame (s : State) (k : Slot) (st : Byte) (a : Int) :
    (s.validReturn k st a).pending = s.pending ∧ (s.validReturn k st a).startup = s.startup ∧ (s.validReturn k st
    a).pins = s.pins ∧ (s.validReturn k st a).override = s.override ∧ (s.validReturn k st a).link = s.link ∧
    (s.validReturn k st a).settings = s.settings ∧ (s.validReturn k st a).outputs = s.outputs ∧ (s.validReturn k st
    a).attnFalls = s.attnFalls ∧ (s.validReturn k st a).twoWire = s.twoWire ∧ (s.validReturn k st a).draws = s.draws
    ∧ (s.validReturn k st a).seq.engine = s.seq.engine ∧ (s.validReturn k st a).seq.resume = s.seq.resume ∧
    (s.validReturn k st a).seq.dwellCount = s.seq.dwellCount ∧ (s.validReturn k st a).seq.starve = s.seq.starve ∧
    (s.validReturn k st a).seq.interrupted = s.seq.interrupted ∧ (s.validReturn k st a).trip.inputs = s.trip.inputs
    ∧ (s.validReturn k st a).trip.green = s.trip.green ∧ (s.validReturn k st a).trip.amber = s.trip.amber ∧
    (s.validReturn k st a).trip.red = s.trip.red ∧ (s.validReturn k st a).trip.blink = s.trip.blink ∧ (s.validReturn
    k st a).queue.records = s.queue.records ∧ (s.validReturn k st a).queue.tail.feed = s.queue.tail.feed ∧
    (s.validReturn k st a).interp.feed = s.interp.feed ∧ (s.validReturn k st a).interp.progress = s.interp.progress
    ∧ (s.validReturn k st a).interp.turn = s.interp.turn ∧ (s.validReturn k st a).interp.turnPending =
    s.interp.turnPending ∧ (s.validReturn k st a).bus.started = s.bus.started ∧ (s.validReturn k st
    a).bus.frameCount = s.bus.frameCount ∧ (s.validReturn k st a).bus.level = s.bus.level ∧ (s.validReturn k st
    a).bus.window = s.bus.window ∧ (s.validReturn k st a).bus.line = s.bus.line ∧ (s.validReturn k st
    a).classifier.bands = s.classifier.bands ∧ (s.validReturn k st a).classifier.material = s.classifier.material ∧
    (s.validReturn k st a).bus.opening = s.bus.opening ∧ (s.validReturn k st a).notice.engineState =
    s.notice.engineState ∧ (s.validReturn k st a).notice.segmentDone = s.notice.segmentDone ∧ (s.validReturn k st
    a).notice.queueLow = s.notice.queueLow ∧ (s.validReturn k st a).notice.band = s.notice.band ∧ (s.validReturn k
    st a).notice.tareDone = s.notice.tareDone ∧ (s.validReturn k st a).notice.storeDone = s.notice.storeDone ∧
    (s.validReturn k st a).notice.enables = s.notice.enables ∧ (s.validReturn k st a).notice.lastSent =
    s.notice.lastSent := by
  simp [State.validReturn]

@[simp] theorem State.takeReturn_frame (s : State) (st : Byte) (a : Word) (c : Byte) :
    (s.takeReturn st a c).pending = s.pending ∧ (s.takeReturn st a c).startup = s.startup ∧ (s.takeReturn st a
    c).pins = s.pins ∧ (s.takeReturn st a c).override = s.override ∧ (s.takeReturn st a c).link = s.link ∧
    (s.takeReturn st a c).settings = s.settings ∧ (s.takeReturn st a c).outputs = s.outputs ∧ (s.takeReturn st a
    c).attnFalls = s.attnFalls ∧ (s.takeReturn st a c).twoWire = s.twoWire ∧ (s.takeReturn st a c).draws = s.draws ∧
    (s.takeReturn st a c).seq.engine = s.seq.engine ∧ (s.takeReturn st a c).seq.resume = s.seq.resume ∧
    (s.takeReturn st a c).seq.dwellCount = s.seq.dwellCount ∧ (s.takeReturn st a c).seq.starve = s.seq.starve ∧
    (s.takeReturn st a c).seq.interrupted = s.seq.interrupted ∧ (s.takeReturn st a c).trip.inputs = s.trip.inputs ∧
    (s.takeReturn st a c).trip.green = s.trip.green ∧ (s.takeReturn st a c).trip.amber = s.trip.amber ∧
    (s.takeReturn st a c).trip.red = s.trip.red ∧ (s.takeReturn st a c).trip.blink = s.trip.blink ∧ (s.takeReturn st
    a c).queue.records = s.queue.records ∧ (s.takeReturn st a c).queue.tail.feed = s.queue.tail.feed ∧ (s.takeReturn
    st a c).interp.feed = s.interp.feed ∧ (s.takeReturn st a c).interp.progress = s.interp.progress ∧ (s.takeReturn
    st a c).interp.turn = s.interp.turn ∧ (s.takeReturn st a c).interp.turnPending = s.interp.turnPending ∧
    (s.takeReturn st a c).bus.started = s.bus.started ∧ (s.takeReturn st a c).bus.frameCount = s.bus.frameCount ∧
    (s.takeReturn st a c).bus.level = s.bus.level ∧ (s.takeReturn st a c).bus.line = s.bus.line ∧ (s.takeReturn st a
    c).classifier.bands = s.classifier.bands ∧ (s.takeReturn st a c).classifier.material = s.classifier.material ∧
    (s.takeReturn st a c).notice.engineState = s.notice.engineState ∧ (s.takeReturn st a c).notice.segmentDone =
    s.notice.segmentDone ∧ (s.takeReturn st a c).notice.queueLow = s.notice.queueLow ∧ (s.takeReturn st a
    c).notice.band = s.notice.band ∧ (s.takeReturn st a c).notice.tareDone = s.notice.tareDone ∧ (s.takeReturn st a
    c).notice.storeDone = s.notice.storeDone ∧ (s.takeReturn st a c).notice.enables = s.notice.enables ∧
    (s.takeReturn st a c).notice.lastSent = s.notice.lastSent := by
  unfold State.takeReturn; dsimp only
  repeat' split
  all_goals simp_all

@[simp] theorem State.closeWindow_frame (s : State) :
    s.closeWindow.pending = s.pending ∧ s.closeWindow.startup = s.startup ∧ s.closeWindow.pins = s.pins ∧
    s.closeWindow.queue = s.queue ∧ s.closeWindow.override = s.override ∧ s.closeWindow.interp = s.interp ∧
    s.closeWindow.stroke = s.stroke ∧ s.closeWindow.classifier = s.classifier ∧ s.closeWindow.link = s.link ∧
    s.closeWindow.settings = s.settings ∧ s.closeWindow.outputs = s.outputs ∧ s.closeWindow.attnFalls = s.attnFalls
    ∧ s.closeWindow.twoWire = s.twoWire ∧ s.closeWindow.draws = s.draws ∧ s.closeWindow.seq.engine = s.seq.engine ∧
    s.closeWindow.seq.resume = s.seq.resume ∧ s.closeWindow.seq.dwellCount = s.seq.dwellCount ∧
    s.closeWindow.seq.starve = s.seq.starve ∧ s.closeWindow.seq.interrupted = s.seq.interrupted ∧
    s.closeWindow.trip.inputs = s.trip.inputs ∧ s.closeWindow.trip.green = s.trip.green ∧ s.closeWindow.trip.amber =
    s.trip.amber ∧ s.closeWindow.trip.red = s.trip.red ∧ s.closeWindow.trip.blink = s.trip.blink ∧
    s.closeWindow.trip.faultSet = s.trip.faultSet ∧ s.closeWindow.bus.started = s.bus.started ∧
    s.closeWindow.bus.frameCount = s.bus.frameCount ∧ s.closeWindow.bus.level = s.bus.level ∧
    s.closeWindow.notice.engineState = s.notice.engineState ∧ s.closeWindow.notice.segmentDone =
    s.notice.segmentDone ∧ s.closeWindow.notice.queueLow = s.notice.queueLow ∧ s.closeWindow.notice.band =
    s.notice.band ∧ s.closeWindow.notice.tareDone = s.notice.tareDone ∧ s.closeWindow.notice.storeDone =
    s.notice.storeDone ∧ s.closeWindow.notice.enables = s.notice.enables ∧ s.closeWindow.notice.lastSent =
    s.notice.lastSent := by
  unfold State.closeWindow; dsimp only
  repeat' split
  all_goals simp_all

@[simp] theorem State.takeBusLevel_frame (s : State) :
    s.takeBusLevel.pending = s.pending ∧ s.takeBusLevel.startup = s.startup ∧ s.takeBusLevel.pins = s.pins ∧
    s.takeBusLevel.queue = s.queue ∧ s.takeBusLevel.override = s.override ∧ s.takeBusLevel.interp = s.interp ∧
    s.takeBusLevel.seq = s.seq ∧ s.takeBusLevel.stroke = s.stroke ∧ s.takeBusLevel.classifier = s.classifier ∧
    s.takeBusLevel.trip = s.trip ∧ s.takeBusLevel.link = s.link ∧ s.takeBusLevel.notice = s.notice ∧
    s.takeBusLevel.settings = s.settings ∧ s.takeBusLevel.outputs = s.outputs ∧ s.takeBusLevel.attnFalls =
    s.attnFalls ∧ s.takeBusLevel.twoWire = s.twoWire ∧ s.takeBusLevel.draws = s.draws ∧ s.takeBusLevel.bus.started =
    s.bus.started ∧ s.takeBusLevel.bus.frameCount = s.bus.frameCount ∧ s.takeBusLevel.bus.x = s.bus.x ∧
    s.takeBusLevel.bus.y = s.bus.y ∧ s.takeBusLevel.bus.h = s.bus.h ∧ s.takeBusLevel.bus.s = s.bus.s ∧
    s.takeBusLevel.bus.window = s.bus.window ∧ s.takeBusLevel.bus.line = s.bus.line := by
  simp only [State.takeBusLevel]; split <;> simp

@[simp] theorem State.startBus_frame (s : State) :
    s.startBus.pending = s.pending ∧ s.startBus.startup = s.startup ∧ s.startBus.pins = s.pins ∧ s.startBus.queue =
    s.queue ∧ s.startBus.override = s.override ∧ s.startBus.interp = s.interp ∧ s.startBus.seq = s.seq ∧
    s.startBus.stroke = s.stroke ∧ s.startBus.classifier = s.classifier ∧ s.startBus.trip = s.trip ∧ s.startBus.link
    = s.link ∧ s.startBus.notice = s.notice ∧ s.startBus.settings = s.settings ∧ s.startBus.outputs = s.outputs ∧
    s.startBus.attnFalls = s.attnFalls ∧ s.startBus.twoWire = s.twoWire ∧ s.startBus.draws = s.draws := by
  simp [State.startBus]

@[simp] theorem State.afterWork_frame (s : State) (w : FrameWork) :
    (s.afterWork w).pending = s.pending ∧ (s.afterWork w).startup = s.startup ∧ (s.afterWork w).pins = s.pins ∧
    (s.afterWork w).override = s.override ∧ (s.afterWork w).classifier = s.classifier ∧ (s.afterWork w).link =
    s.link ∧ (s.afterWork w).settings = s.settings ∧ (s.afterWork w).outputs = s.outputs ∧ (s.afterWork w).attnFalls
    = s.attnFalls ∧ (s.afterWork w).twoWire = s.twoWire ∧ (s.afterWork w).draws = s.draws ∧ (s.afterWork
    w).bus.started = s.bus.started ∧ (s.afterWork w).bus.frameCount = s.bus.frameCount ∧ (s.afterWork w).bus.level =
    s.bus.level ∧ (s.afterWork w).bus.x = s.bus.x ∧ (s.afterWork w).bus.y = s.bus.y ∧ (s.afterWork w).bus.h =
    s.bus.h ∧ (s.afterWork w).bus.s = s.bus.s ∧ (s.afterWork w).bus.window = s.bus.window ∧ (s.afterWork w).bus.line
    = s.bus.line ∧ (s.afterWork w).trip.inputs = s.trip.inputs ∧ (s.afterWork w).trip.green = s.trip.green ∧
    (s.afterWork w).trip.amber = s.trip.amber ∧ (s.afterWork w).trip.red = s.trip.red ∧ (s.afterWork w).trip.blink =
    s.trip.blink ∧ (s.afterWork w).queue.tail = s.queue.tail ∧ (s.afterWork w).interp.x = s.interp.x ∧ (s.afterWork
    w).interp.y = s.interp.y ∧ (s.afterWork w).interp.heading = s.interp.heading ∧ (s.afterWork w).bus.opening =
    s.bus.opening ∧ (s.afterWork w).notice.band = s.notice.band ∧ (s.afterWork w).notice.storeDone =
    s.notice.storeDone ∧ (s.afterWork w).notice.enables = s.notice.enables ∧ (s.afterWork w).notice.lastSent =
    s.notice.lastSent := by
  simp only [State.afterWork]
  repeat' split
  all_goals simp

@[simp] theorem State.countStart_frame (s : State) :
    s.countStart.pending = s.pending ∧ s.countStart.startup = s.startup ∧ s.countStart.pins = s.pins ∧
    s.countStart.queue = s.queue ∧ s.countStart.override = s.override ∧ s.countStart.interp = s.interp ∧
    s.countStart.classifier = s.classifier ∧ s.countStart.link = s.link ∧ s.countStart.settings = s.settings ∧
    s.countStart.outputs = s.outputs ∧ s.countStart.attnFalls = s.attnFalls ∧ s.countStart.twoWire = s.twoWire ∧
    s.countStart.draws = s.draws ∧ s.countStart.seq.engine = s.seq.engine ∧ s.countStart.seq.resume = s.seq.resume ∧
    s.countStart.seq.dwellCount = s.seq.dwellCount ∧ s.countStart.seq.starve = s.seq.starve ∧
    s.countStart.seq.interrupted = s.seq.interrupted ∧ s.countStart.bus.started = s.bus.started ∧
    s.countStart.bus.frameCount = s.bus.frameCount ∧ s.countStart.bus.level = s.bus.level ∧ s.countStart.bus.x =
    s.bus.x ∧ s.countStart.bus.y = s.bus.y ∧ s.countStart.bus.h = s.bus.h ∧ s.countStart.bus.s = s.bus.s ∧
    s.countStart.bus.window = s.bus.window ∧ s.countStart.bus.line = s.bus.line ∧ s.countStart.trip.inputs =
    s.trip.inputs ∧ s.countStart.trip.green = s.trip.green ∧ s.countStart.trip.amber = s.trip.amber ∧
    s.countStart.trip.red = s.trip.red ∧ s.countStart.trip.blink = s.trip.blink ∧ s.countStart.bus.opening =
    s.bus.opening ∧ s.countStart.notice.engineState = s.notice.engineState ∧ s.countStart.notice.segmentDone =
    s.notice.segmentDone ∧ s.countStart.notice.queueLow = s.notice.queueLow ∧ s.countStart.notice.band =
    s.notice.band ∧ s.countStart.notice.storeDone = s.notice.storeDone ∧ s.countStart.notice.enables =
    s.notice.enables ∧ s.countStart.notice.lastSent = s.notice.lastSent := by
  simp only [State.countStart]
  repeat' split
  all_goals simp

@[simp] theorem State.countStop_frame (s : State) :
    s.countStop.pending = s.pending ∧ s.countStop.startup = s.startup ∧ s.countStop.pins = s.pins ∧
    s.countStop.queue = s.queue ∧ s.countStop.override = s.override ∧ s.countStop.interp = s.interp ∧
    s.countStop.link = s.link ∧ s.countStop.settings = s.settings ∧ s.countStop.outputs = s.outputs ∧
    s.countStop.attnFalls = s.attnFalls ∧ s.countStop.twoWire = s.twoWire ∧ s.countStop.draws = s.draws ∧
    s.countStop.seq.engine = s.seq.engine ∧ s.countStop.seq.resume = s.seq.resume ∧ s.countStop.seq.dwellCount =
    s.seq.dwellCount ∧ s.countStop.seq.starve = s.seq.starve ∧ s.countStop.seq.interrupted = s.seq.interrupted ∧
    s.countStop.bus.started = s.bus.started ∧ s.countStop.bus.frameCount = s.bus.frameCount ∧ s.countStop.bus.level
    = s.bus.level ∧ s.countStop.bus.x = s.bus.x ∧ s.countStop.bus.y = s.bus.y ∧ s.countStop.bus.h = s.bus.h ∧
    s.countStop.bus.s = s.bus.s ∧ s.countStop.bus.window = s.bus.window ∧ s.countStop.bus.line = s.bus.line ∧
    s.countStop.trip.inputs = s.trip.inputs ∧ s.countStop.trip.green = s.trip.green ∧ s.countStop.trip.amber =
    s.trip.amber ∧ s.countStop.trip.red = s.trip.red ∧ s.countStop.trip.blink = s.trip.blink ∧
    s.countStop.classifier.bands = s.classifier.bands ∧ s.countStop.classifier.material = s.classifier.material ∧
    s.countStop.bus.opening = s.bus.opening ∧ s.countStop.notice.engineState = s.notice.engineState ∧
    s.countStop.notice.segmentDone = s.notice.segmentDone ∧ s.countStop.notice.queueLow = s.notice.queueLow ∧
    s.countStop.notice.band = s.notice.band ∧ s.countStop.notice.tareDone = s.notice.tareDone ∧
    s.countStop.notice.storeDone = s.notice.storeDone ∧ s.countStop.notice.enables = s.notice.enables ∧
    s.countStop.notice.lastSent = s.notice.lastSent := by
  simp only [State.countStop]
  repeat' split
  all_goals simp

@[simp] theorem State.countTimers_frame (s : State) (e : Engine) (t : StrokeState) :
    (s.countTimers e t).pending = s.pending ∧ (s.countTimers e t).startup = s.startup ∧ (s.countTimers e t).pins =
    s.pins ∧ (s.countTimers e t).override = s.override ∧ (s.countTimers e t).link = s.link ∧ (s.countTimers e
    t).settings = s.settings ∧ (s.countTimers e t).outputs = s.outputs ∧ (s.countTimers e t).attnFalls = s.attnFalls
    ∧ (s.countTimers e t).twoWire = s.twoWire ∧ (s.countTimers e t).draws = s.draws ∧ (s.countTimers e
    t).bus.started = s.bus.started ∧ (s.countTimers e t).bus.frameCount = s.bus.frameCount ∧ (s.countTimers e
    t).bus.level = s.bus.level ∧ (s.countTimers e t).bus.x = s.bus.x ∧ (s.countTimers e t).bus.y = s.bus.y ∧
    (s.countTimers e t).bus.h = s.bus.h ∧ (s.countTimers e t).bus.s = s.bus.s ∧ (s.countTimers e t).bus.window =
    s.bus.window ∧ (s.countTimers e t).bus.line = s.bus.line ∧ (s.countTimers e t).trip.inputs = s.trip.inputs ∧
    (s.countTimers e t).trip.green = s.trip.green ∧ (s.countTimers e t).trip.amber = s.trip.amber ∧ (s.countTimers e
    t).trip.red = s.trip.red ∧ (s.countTimers e t).trip.blink = s.trip.blink ∧ (s.countTimers e t).classifier.bands
    = s.classifier.bands ∧ (s.countTimers e t).classifier.material = s.classifier.material ∧ (s.countTimers e
    t).interp.x = s.interp.x ∧ (s.countTimers e t).interp.y = s.interp.y ∧ (s.countTimers e t).interp.heading =
    s.interp.heading ∧ (s.countTimers e t).bus.opening = s.bus.opening ∧ (s.countTimers e t).notice.band =
    s.notice.band ∧ (s.countTimers e t).notice.storeDone = s.notice.storeDone ∧ (s.countTimers e t).notice.enables =
    s.notice.enables ∧ (s.countTimers e t).notice.lastSent = s.notice.lastSent := by
  simp only [State.countTimers]
  repeat' split
  all_goals simp

@[simp] theorem State.frameWork_frame (s : State) :
    s.frameWork.pending = s.pending ∧ s.frameWork.startup = s.startup ∧ s.frameWork.pins = s.pins ∧
    s.frameWork.override = s.override ∧ s.frameWork.classifier = s.classifier ∧ s.frameWork.link = s.link ∧
    s.frameWork.settings = s.settings ∧ s.frameWork.outputs = s.outputs ∧ s.frameWork.attnFalls = s.attnFalls ∧
    s.frameWork.twoWire = s.twoWire ∧ s.frameWork.draws = s.draws ∧ s.frameWork.trip.inputs = s.trip.inputs ∧
    s.frameWork.trip.green = s.trip.green ∧ s.frameWork.trip.amber = s.trip.amber ∧ s.frameWork.trip.red =
    s.trip.red ∧ s.frameWork.trip.blink = s.trip.blink ∧ s.frameWork.bus.started = s.bus.started ∧
    s.frameWork.bus.level = s.bus.level ∧ s.frameWork.notice.band = s.notice.band ∧ s.frameWork.notice.storeDone =
    s.notice.storeDone ∧ s.frameWork.notice.enables = s.notice.enables ∧ s.frameWork.notice.lastSent =
    s.notice.lastSent := by
  simp [State.frameWork]

@[simp] theorem State.beginFrame_frame (s : State) :
    s.beginFrame.pending = s.pending ∧ s.beginFrame.startup = s.startup ∧ s.beginFrame.pins = s.pins ∧
    s.beginFrame.override = s.override ∧ s.beginFrame.link = s.link ∧ s.beginFrame.settings = s.settings ∧
    s.beginFrame.outputs = s.outputs ∧ s.beginFrame.attnFalls = s.attnFalls ∧ s.beginFrame.twoWire = s.twoWire ∧
    s.beginFrame.draws = s.draws ∧ s.beginFrame.trip.inputs = s.trip.inputs ∧ s.beginFrame.trip.green = s.trip.green
    ∧ s.beginFrame.trip.amber = s.trip.amber ∧ s.beginFrame.trip.red = s.trip.red ∧ s.beginFrame.trip.blink =
    s.trip.blink ∧ s.beginFrame.bus.started = s.bus.started ∧ s.beginFrame.bus.level = s.bus.level ∧
    s.beginFrame.classifier.bands = s.classifier.bands ∧ s.beginFrame.classifier.material = s.classifier.material ∧
    s.beginFrame.notice.band = s.notice.band ∧ s.beginFrame.notice.storeDone = s.notice.storeDone ∧
    s.beginFrame.notice.enables = s.notice.enables ∧ s.beginFrame.notice.lastSent = s.notice.lastSent := by
  simp [State.beginFrame]

@[simp] theorem State.busStart_frame (s : State) :
    s.busStart.pending = s.pending ∧ s.busStart.startup = s.startup ∧ s.busStart.pins = s.pins ∧ s.busStart.override
    = s.override ∧ s.busStart.link = s.link ∧ s.busStart.settings = s.settings ∧ s.busStart.outputs = s.outputs ∧
    s.busStart.attnFalls = s.attnFalls ∧ s.busStart.twoWire = s.twoWire ∧ s.busStart.draws = s.draws ∧
    s.busStart.trip.inputs = s.trip.inputs ∧ s.busStart.trip.green = s.trip.green ∧ s.busStart.trip.amber =
    s.trip.amber ∧ s.busStart.trip.red = s.trip.red ∧ s.busStart.trip.blink = s.trip.blink ∧
    s.busStart.classifier.bands = s.classifier.bands ∧ s.busStart.classifier.material = s.classifier.material ∧
    s.busStart.notice.band = s.notice.band ∧ s.busStart.notice.storeDone = s.notice.storeDone ∧
    s.busStart.notice.enables = s.notice.enables ∧ s.busStart.notice.lastSent = s.notice.lastSent := by
  simp [State.busStart]

end Sys2Proof.Machine
end

