-- ==== Sys2Proof/Laws/Link.lean ====
section
/-! SUPPORT. Requests, the link and start-up: for each shared operation, one lemma that says which parts of the state it leaves as they were. -/

namespace Sys2Proof.Machine

@[simp] theorem State.setParams_frame (s : State) (p : Params) :
    (s.setParams p).pending = s.pending ∧ (s.setParams p).startup = s.startup ∧ (s.setParams p).pins = s.pins ∧
    (s.setParams p).queue = s.queue ∧ (s.setParams p).override = s.override ∧ (s.setParams p).interp = s.interp ∧
    (s.setParams p).seq = s.seq ∧ (s.setParams p).stroke = s.stroke ∧ (s.setParams p).classifier = s.classifier ∧
    (s.setParams p).bus = s.bus ∧ (s.setParams p).trip = s.trip ∧ (s.setParams p).link = s.link ∧ (s.setParams
    p).notice = s.notice ∧ (s.setParams p).outputs = s.outputs ∧ (s.setParams p).attnFalls = s.attnFalls ∧
    (s.setParams p).twoWire = s.twoWire ∧ (s.setParams p).draws = s.draws ∧ (s.setParams p).settings.source =
    s.settings.source ∧ (s.setParams p).settings.present = s.settings.present ∧ (s.setParams p).settings.store =
    s.settings.store ∧ (s.setParams p).settings.save = s.settings.save := by
  simp [State.setParams]

@[simp] theorem State.serveSetParam_frame (s : State) (n : Byte) (v : Int) :
    (s.serveSetParam n v).1.pending = s.pending ∧ (s.serveSetParam n v).1.startup = s.startup ∧ (s.serveSetParam n
    v).1.pins = s.pins ∧ (s.serveSetParam n v).1.queue = s.queue ∧ (s.serveSetParam n v).1.override = s.override ∧
    (s.serveSetParam n v).1.interp = s.interp ∧ (s.serveSetParam n v).1.seq = s.seq ∧ (s.serveSetParam n v).1.stroke
    = s.stroke ∧ (s.serveSetParam n v).1.classifier = s.classifier ∧ (s.serveSetParam n v).1.bus = s.bus ∧
    (s.serveSetParam n v).1.trip = s.trip ∧ (s.serveSetParam n v).1.link = s.link ∧ (s.serveSetParam n v).1.notice =
    s.notice ∧ (s.serveSetParam n v).1.outputs = s.outputs ∧ (s.serveSetParam n v).1.attnFalls = s.attnFalls ∧
    (s.serveSetParam n v).1.twoWire = s.twoWire ∧ (s.serveSetParam n v).1.draws = s.draws ∧ (s.serveSetParam n
    v).1.settings.source = s.settings.source ∧ (s.serveSetParam n v).1.settings.present = s.settings.present ∧
    (s.serveSetParam n v).1.settings.store = s.settings.store ∧ (s.serveSetParam n v).1.settings.save =
    s.settings.save := by
  simp only [State.serveSetParam]
  repeat' split
  all_goals simp

@[simp] theorem State.serveSetBand_frame (s : State) (i : Byte) (e : BandEntry) :
    (s.serveSetBand i e).1.pending = s.pending ∧ (s.serveSetBand i e).1.startup = s.startup ∧ (s.serveSetBand i
    e).1.pins = s.pins ∧ (s.serveSetBand i e).1.queue = s.queue ∧ (s.serveSetBand i e).1.override = s.override ∧
    (s.serveSetBand i e).1.interp = s.interp ∧ (s.serveSetBand i e).1.seq = s.seq ∧ (s.serveSetBand i e).1.stroke =
    s.stroke ∧ (s.serveSetBand i e).1.bus = s.bus ∧ (s.serveSetBand i e).1.trip = s.trip ∧ (s.serveSetBand i
    e).1.link = s.link ∧ (s.serveSetBand i e).1.notice = s.notice ∧ (s.serveSetBand i e).1.settings = s.settings ∧
    (s.serveSetBand i e).1.outputs = s.outputs ∧ (s.serveSetBand i e).1.attnFalls = s.attnFalls ∧ (s.serveSetBand i
    e).1.twoWire = s.twoWire ∧ (s.serveSetBand i e).1.draws = s.draws ∧ (s.serveSetBand i e).1.classifier.material =
    s.classifier.material ∧ (s.serveSetBand i e).1.classifier.candidate = s.classifier.candidate ∧ (s.serveSetBand i
    e).1.classifier.df = s.classifier.df ∧ (s.serveSetBand i e).1.classifier.overload = s.classifier.overload := by
  simp only [State.serveSetBand]
  repeat' split
  all_goals simp

@[simp] theorem State.writeAction_frame (s : State) (i : Fin 15) (a : Action) :
    (s.writeAction i a).pending = s.pending ∧ (s.writeAction i a).startup = s.startup ∧ (s.writeAction i a).pins =
    s.pins ∧ (s.writeAction i a).queue = s.queue ∧ (s.writeAction i a).override = s.override ∧ (s.writeAction i
    a).interp = s.interp ∧ (s.writeAction i a).stroke = s.stroke ∧ (s.writeAction i a).classifier = s.classifier ∧
    (s.writeAction i a).link = s.link ∧ (s.writeAction i a).settings = s.settings ∧ (s.writeAction i a).outputs =
    s.outputs ∧ (s.writeAction i a).attnFalls = s.attnFalls ∧ (s.writeAction i a).twoWire = s.twoWire ∧
    (s.writeAction i a).draws = s.draws ∧ (s.writeAction i a).seq.engine = s.seq.engine ∧ (s.writeAction i
    a).seq.resume = s.seq.resume ∧ (s.writeAction i a).seq.dwellCount = s.seq.dwellCount ∧ (s.writeAction i
    a).seq.starve = s.seq.starve ∧ (s.writeAction i a).seq.interrupted = s.seq.interrupted ∧ (s.writeAction i
    a).bus.started = s.bus.started ∧ (s.writeAction i a).bus.frameCount = s.bus.frameCount ∧ (s.writeAction i
    a).bus.level = s.bus.level ∧ (s.writeAction i a).bus.x = s.bus.x ∧ (s.writeAction i a).bus.y = s.bus.y ∧
    (s.writeAction i a).bus.h = s.bus.h ∧ (s.writeAction i a).bus.s = s.bus.s ∧ (s.writeAction i a).bus.window =
    s.bus.window ∧ (s.writeAction i a).bus.line = s.bus.line ∧ (s.writeAction i a).trip.inputs = s.trip.inputs ∧
    (s.writeAction i a).trip.green = s.trip.green ∧ (s.writeAction i a).trip.amber = s.trip.amber ∧ (s.writeAction i
    a).trip.red = s.trip.red ∧ (s.writeAction i a).trip.blink = s.trip.blink ∧ (s.writeAction i a).trip.faultSet =
    s.trip.faultSet ∧ (s.writeAction i a).trip.lostSet = s.trip.lostSet ∧ (s.writeAction i a).bus.opening =
    s.bus.opening ∧ (s.writeAction i a).notice.engineState = s.notice.engineState ∧ (s.writeAction i
    a).notice.segmentDone = s.notice.segmentDone ∧ (s.writeAction i a).notice.queueLow = s.notice.queueLow ∧
    (s.writeAction i a).notice.band = s.notice.band ∧ (s.writeAction i a).notice.tareDone = s.notice.tareDone ∧
    (s.writeAction i a).notice.storeDone = s.notice.storeDone ∧ (s.writeAction i a).notice.enables =
    s.notice.enables ∧ (s.writeAction i a).notice.lastSent = s.notice.lastSent := by
  simp only [State.writeAction]; split <;> simp

@[simp] theorem State.writeInput_frame (s : State) (i : Fin 8) (p : Polarity) (d : Nat) :
    (s.writeInput i p d).pending = s.pending ∧ (s.writeInput i p d).startup = s.startup ∧ (s.writeInput i p d).pins
    = s.pins ∧ (s.writeInput i p d).queue = s.queue ∧ (s.writeInput i p d).override = s.override ∧ (s.writeInput i p
    d).interp = s.interp ∧ (s.writeInput i p d).stroke = s.stroke ∧ (s.writeInput i p d).classifier = s.classifier ∧
    (s.writeInput i p d).link = s.link ∧ (s.writeInput i p d).settings = s.settings ∧ (s.writeInput i p d).outputs =
    s.outputs ∧ (s.writeInput i p d).attnFalls = s.attnFalls ∧ (s.writeInput i p d).twoWire = s.twoWire ∧
    (s.writeInput i p d).draws = s.draws ∧ (s.writeInput i p d).seq.engine = s.seq.engine ∧ (s.writeInput i p
    d).seq.resume = s.seq.resume ∧ (s.writeInput i p d).seq.dwellCount = s.seq.dwellCount ∧ (s.writeInput i p
    d).seq.starve = s.seq.starve ∧ (s.writeInput i p d).seq.interrupted = s.seq.interrupted ∧ (s.writeInput i p
    d).bus.started = s.bus.started ∧ (s.writeInput i p d).bus.frameCount = s.bus.frameCount ∧ (s.writeInput i p
    d).bus.level = s.bus.level ∧ (s.writeInput i p d).bus.x = s.bus.x ∧ (s.writeInput i p d).bus.y = s.bus.y ∧
    (s.writeInput i p d).bus.h = s.bus.h ∧ (s.writeInput i p d).bus.s = s.bus.s ∧ (s.writeInput i p d).bus.window =
    s.bus.window ∧ (s.writeInput i p d).bus.line = s.bus.line ∧ (s.writeInput i p d).trip.green = s.trip.green ∧
    (s.writeInput i p d).trip.amber = s.trip.amber ∧ (s.writeInput i p d).trip.red = s.trip.red ∧ (s.writeInput i p
    d).trip.blink = s.trip.blink ∧ (s.writeInput i p d).bus.opening = s.bus.opening ∧ (s.writeInput i p
    d).notice.engineState = s.notice.engineState ∧ (s.writeInput i p d).notice.segmentDone = s.notice.segmentDone ∧
    (s.writeInput i p d).notice.queueLow = s.notice.queueLow ∧ (s.writeInput i p d).notice.band = s.notice.band ∧
    (s.writeInput i p d).notice.tareDone = s.notice.tareDone ∧ (s.writeInput i p d).notice.storeDone =
    s.notice.storeDone ∧ (s.writeInput i p d).notice.enables = s.notice.enables ∧ (s.writeInput i p
    d).notice.lastSent = s.notice.lastSent := by
  simp only [State.writeInput]; split <;> simp

@[simp] theorem State.serveSetTrip_frame (s : State) (a b c d : Byte) :
    (s.serveSetTrip a b c d).1.pending = s.pending ∧ (s.serveSetTrip a b c d).1.startup = s.startup ∧
    (s.serveSetTrip a b c d).1.pins = s.pins ∧ (s.serveSetTrip a b c d).1.queue = s.queue ∧ (s.serveSetTrip a b c
    d).1.override = s.override ∧ (s.serveSetTrip a b c d).1.interp = s.interp ∧ (s.serveSetTrip a b c d).1.stroke =
    s.stroke ∧ (s.serveSetTrip a b c d).1.classifier = s.classifier ∧ (s.serveSetTrip a b c d).1.link = s.link ∧
    (s.serveSetTrip a b c d).1.settings = s.settings ∧ (s.serveSetTrip a b c d).1.outputs = s.outputs ∧
    (s.serveSetTrip a b c d).1.attnFalls = s.attnFalls ∧ (s.serveSetTrip a b c d).1.twoWire = s.twoWire ∧
    (s.serveSetTrip a b c d).1.draws = s.draws ∧ (s.serveSetTrip a b c d).1.seq.engine = s.seq.engine ∧
    (s.serveSetTrip a b c d).1.seq.resume = s.seq.resume ∧ (s.serveSetTrip a b c d).1.seq.dwellCount =
    s.seq.dwellCount ∧ (s.serveSetTrip a b c d).1.seq.starve = s.seq.starve ∧ (s.serveSetTrip a b c
    d).1.seq.interrupted = s.seq.interrupted ∧ (s.serveSetTrip a b c d).1.bus.started = s.bus.started ∧
    (s.serveSetTrip a b c d).1.bus.frameCount = s.bus.frameCount ∧ (s.serveSetTrip a b c d).1.bus.level =
    s.bus.level ∧ (s.serveSetTrip a b c d).1.bus.x = s.bus.x ∧ (s.serveSetTrip a b c d).1.bus.y = s.bus.y ∧
    (s.serveSetTrip a b c d).1.bus.h = s.bus.h ∧ (s.serveSetTrip a b c d).1.bus.s = s.bus.s ∧ (s.serveSetTrip a b c
    d).1.bus.window = s.bus.window ∧ (s.serveSetTrip a b c d).1.bus.line = s.bus.line ∧ (s.serveSetTrip a b c
    d).1.trip.green = s.trip.green ∧ (s.serveSetTrip a b c d).1.trip.amber = s.trip.amber ∧ (s.serveSetTrip a b c
    d).1.trip.red = s.trip.red ∧ (s.serveSetTrip a b c d).1.trip.blink = s.trip.blink ∧ (s.serveSetTrip a b c
    d).1.bus.opening = s.bus.opening ∧ (s.serveSetTrip a b c d).1.notice.engineState = s.notice.engineState ∧
    (s.serveSetTrip a b c d).1.notice.segmentDone = s.notice.segmentDone ∧ (s.serveSetTrip a b c
    d).1.notice.queueLow = s.notice.queueLow ∧ (s.serveSetTrip a b c d).1.notice.band = s.notice.band ∧
    (s.serveSetTrip a b c d).1.notice.tareDone = s.notice.tareDone ∧ (s.serveSetTrip a b c d).1.notice.storeDone =
    s.notice.storeDone ∧ (s.serveSetTrip a b c d).1.notice.enables = s.notice.enables ∧ (s.serveSetTrip a b c
    d).1.notice.lastSent = s.notice.lastSent := by
  simp only [State.serveSetTrip]
  repeat' split
  all_goals simp

@[simp] theorem State.clearNotices_frame (s : State) (t : TripUnit) :
    (State.clearNotices t s).pending = s.pending ∧ (State.clearNotices t s).startup = s.startup ∧
    (State.clearNotices t s).pins = s.pins ∧ (State.clearNotices t s).queue = s.queue ∧ (State.clearNotices t
    s).override = s.override ∧ (State.clearNotices t s).interp = s.interp ∧ (State.clearNotices t s).seq = s.seq ∧
    (State.clearNotices t s).stroke = s.stroke ∧ (State.clearNotices t s).classifier = s.classifier ∧
    (State.clearNotices t s).bus = s.bus ∧ (State.clearNotices t s).trip = s.trip ∧ (State.clearNotices t s).link =
    s.link ∧ (State.clearNotices t s).settings = s.settings ∧ (State.clearNotices t s).outputs = s.outputs ∧
    (State.clearNotices t s).attnFalls = s.attnFalls ∧ (State.clearNotices t s).twoWire = s.twoWire ∧
    (State.clearNotices t s).draws = s.draws ∧ (State.clearNotices t s).notice.engineState = s.notice.engineState ∧
    (State.clearNotices t s).notice.segmentDone = s.notice.segmentDone ∧ (State.clearNotices t s).notice.queueLow =
    s.notice.queueLow ∧ (State.clearNotices t s).notice.band = s.notice.band ∧ (State.clearNotices t
    s).notice.tareDone = s.notice.tareDone ∧ (State.clearNotices t s).notice.storeDone = s.notice.storeDone ∧
    (State.clearNotices t s).notice.enables = s.notice.enables ∧ (State.clearNotices t s).notice.lastSent =
    s.notice.lastSent := by
  unfold State.clearNotices
  generalize ([0, 1, 2, 3, 4, 5, 6, 7, 8, 9, 10, 11, 12, 13, 14] : List (Fin 15)) = is
  induction is generalizing s with
  | nil => simp
  | cons i is ih => simp only [List.foldl_cons, ih]; split <;> simp

@[simp] theorem State.clearTrips_frame (s : State) :
    s.clearTrips.pending = s.pending ∧ s.clearTrips.startup = s.startup ∧ s.clearTrips.pins = s.pins ∧
    s.clearTrips.queue = s.queue ∧ s.clearTrips.override = s.override ∧ s.clearTrips.interp = s.interp ∧
    s.clearTrips.stroke = s.stroke ∧ s.clearTrips.classifier = s.classifier ∧ s.clearTrips.link = s.link ∧
    s.clearTrips.settings = s.settings ∧ s.clearTrips.outputs = s.outputs ∧ s.clearTrips.attnFalls = s.attnFalls ∧
    s.clearTrips.twoWire = s.twoWire ∧ s.clearTrips.draws = s.draws ∧ s.clearTrips.seq.engine = s.seq.engine ∧
    s.clearTrips.seq.resume = s.seq.resume ∧ s.clearTrips.seq.dwellCount = s.seq.dwellCount ∧
    s.clearTrips.seq.starve = s.seq.starve ∧ s.clearTrips.seq.interrupted = s.seq.interrupted ∧
    s.clearTrips.bus.started = s.bus.started ∧ s.clearTrips.bus.frameCount = s.bus.frameCount ∧
    s.clearTrips.bus.level = s.bus.level ∧ s.clearTrips.bus.x = s.bus.x ∧ s.clearTrips.bus.y = s.bus.y ∧
    s.clearTrips.bus.h = s.bus.h ∧ s.clearTrips.bus.s = s.bus.s ∧ s.clearTrips.bus.window = s.bus.window ∧
    s.clearTrips.bus.line = s.bus.line ∧ s.clearTrips.trip.inputs = s.trip.inputs ∧ s.clearTrips.trip.green =
    s.trip.green ∧ s.clearTrips.trip.amber = s.trip.amber ∧ s.clearTrips.trip.red = s.trip.red ∧
    s.clearTrips.trip.blink = s.trip.blink ∧ s.clearTrips.bus.opening = s.bus.opening ∧
    s.clearTrips.notice.engineState = s.notice.engineState ∧ s.clearTrips.notice.segmentDone = s.notice.segmentDone
    ∧ s.clearTrips.notice.queueLow = s.notice.queueLow ∧ s.clearTrips.notice.band = s.notice.band ∧
    s.clearTrips.notice.tareDone = s.notice.tareDone ∧ s.clearTrips.notice.storeDone = s.notice.storeDone ∧
    s.clearTrips.notice.enables = s.notice.enables ∧ s.clearTrips.notice.lastSent = s.notice.lastSent := by
  simp [State.clearTrips]

@[simp] theorem State.serveClearTrips_frame (s : State) :
    s.serveClearTrips.1.pending = s.pending ∧ s.serveClearTrips.1.startup = s.startup ∧ s.serveClearTrips.1.pins =
    s.pins ∧ s.serveClearTrips.1.queue = s.queue ∧ s.serveClearTrips.1.override = s.override ∧
    s.serveClearTrips.1.interp = s.interp ∧ s.serveClearTrips.1.stroke = s.stroke ∧ s.serveClearTrips.1.classifier =
    s.classifier ∧ s.serveClearTrips.1.link = s.link ∧ s.serveClearTrips.1.settings = s.settings ∧
    s.serveClearTrips.1.outputs = s.outputs ∧ s.serveClearTrips.1.attnFalls = s.attnFalls ∧
    s.serveClearTrips.1.twoWire = s.twoWire ∧ s.serveClearTrips.1.draws = s.draws ∧ s.serveClearTrips.1.seq.engine =
    s.seq.engine ∧ s.serveClearTrips.1.seq.resume = s.seq.resume ∧ s.serveClearTrips.1.seq.dwellCount =
    s.seq.dwellCount ∧ s.serveClearTrips.1.seq.starve = s.seq.starve ∧ s.serveClearTrips.1.seq.interrupted =
    s.seq.interrupted ∧ s.serveClearTrips.1.bus.started = s.bus.started ∧ s.serveClearTrips.1.bus.frameCount =
    s.bus.frameCount ∧ s.serveClearTrips.1.bus.level = s.bus.level ∧ s.serveClearTrips.1.bus.x = s.bus.x ∧
    s.serveClearTrips.1.bus.y = s.bus.y ∧ s.serveClearTrips.1.bus.h = s.bus.h ∧ s.serveClearTrips.1.bus.s = s.bus.s
    ∧ s.serveClearTrips.1.bus.window = s.bus.window ∧ s.serveClearTrips.1.bus.line = s.bus.line ∧
    s.serveClearTrips.1.trip.inputs = s.trip.inputs ∧ s.serveClearTrips.1.trip.green = s.trip.green ∧
    s.serveClearTrips.1.trip.amber = s.trip.amber ∧ s.serveClearTrips.1.trip.red = s.trip.red ∧
    s.serveClearTrips.1.trip.blink = s.trip.blink ∧ s.serveClearTrips.1.bus.opening = s.bus.opening ∧
    s.serveClearTrips.1.notice.engineState = s.notice.engineState ∧ s.serveClearTrips.1.notice.segmentDone =
    s.notice.segmentDone ∧ s.serveClearTrips.1.notice.queueLow = s.notice.queueLow ∧ s.serveClearTrips.1.notice.band
    = s.notice.band ∧ s.serveClearTrips.1.notice.tareDone = s.notice.tareDone ∧ s.serveClearTrips.1.notice.storeDone
    = s.notice.storeDone ∧ s.serveClearTrips.1.notice.enables = s.notice.enables ∧
    s.serveClearTrips.1.notice.lastSent = s.notice.lastSent := by
  simp [State.serveClearTrips]

@[simp] theorem State.serveSave_frame (s : State) :
    s.serveSave.1.pending = s.pending ∧ s.serveSave.1.startup = s.startup ∧ s.serveSave.1.pins = s.pins ∧
    s.serveSave.1.queue = s.queue ∧ s.serveSave.1.override = s.override ∧ s.serveSave.1.interp = s.interp ∧
    s.serveSave.1.seq = s.seq ∧ s.serveSave.1.stroke = s.stroke ∧ s.serveSave.1.classifier = s.classifier ∧
    s.serveSave.1.bus = s.bus ∧ s.serveSave.1.trip = s.trip ∧ s.serveSave.1.link = s.link ∧ s.serveSave.1.notice =
    s.notice ∧ s.serveSave.1.outputs = s.outputs ∧ s.serveSave.1.attnFalls = s.attnFalls ∧ s.serveSave.1.twoWire =
    s.twoWire ∧ s.serveSave.1.draws = s.draws ∧ s.serveSave.1.settings.params = s.settings.params ∧
    s.serveSave.1.settings.source = s.settings.source ∧ s.serveSave.1.settings.present = s.settings.present := by
  simp only [State.serveSave]
  repeat' split
  all_goals simp

@[simp] theorem State.endSave_frame (s : State) (a : StoreState) (r : NoticeResult) :
    (s.endSave a r).pending = s.pending ∧ (s.endSave a r).startup = s.startup ∧ (s.endSave a r).pins = s.pins ∧
    (s.endSave a r).queue = s.queue ∧ (s.endSave a r).override = s.override ∧ (s.endSave a r).interp = s.interp ∧
    (s.endSave a r).seq = s.seq ∧ (s.endSave a r).stroke = s.stroke ∧ (s.endSave a r).classifier = s.classifier ∧
    (s.endSave a r).bus = s.bus ∧ (s.endSave a r).trip = s.trip ∧ (s.endSave a r).link = s.link ∧ (s.endSave a
    r).outputs = s.outputs ∧ (s.endSave a r).attnFalls = s.attnFalls ∧ (s.endSave a r).twoWire = s.twoWire ∧
    (s.endSave a r).draws = s.draws ∧ (s.endSave a r).settings.params = s.settings.params ∧ (s.endSave a
    r).settings.source = s.settings.source ∧ (s.endSave a r).settings.present = s.settings.present ∧ (s.endSave a
    r).notice.trip = s.notice.trip ∧ (s.endSave a r).notice.engineState = s.notice.engineState ∧ (s.endSave a
    r).notice.segmentDone = s.notice.segmentDone ∧ (s.endSave a r).notice.queueLow = s.notice.queueLow ∧ (s.endSave
    a r).notice.band = s.notice.band ∧ (s.endSave a r).notice.tareDone = s.notice.tareDone ∧ (s.endSave a
    r).notice.enables = s.notice.enables ∧ (s.endSave a r).notice.lastSent = s.notice.lastSent := by
  simp [State.endSave]

@[simp] theorem State.pageWritten_frame (s : State) :
    s.pageWritten.pending = s.pending ∧ s.pageWritten.startup = s.startup ∧ s.pageWritten.pins = s.pins ∧
    s.pageWritten.queue = s.queue ∧ s.pageWritten.override = s.override ∧ s.pageWritten.interp = s.interp ∧
    s.pageWritten.seq = s.seq ∧ s.pageWritten.stroke = s.stroke ∧ s.pageWritten.classifier = s.classifier ∧
    s.pageWritten.bus = s.bus ∧ s.pageWritten.trip = s.trip ∧ s.pageWritten.link = s.link ∧ s.pageWritten.outputs =
    s.outputs ∧ s.pageWritten.attnFalls = s.attnFalls ∧ s.pageWritten.twoWire = s.twoWire ∧ s.pageWritten.draws =
    s.draws ∧ s.pageWritten.settings.params = s.settings.params ∧ s.pageWritten.settings.source = s.settings.source
    ∧ s.pageWritten.settings.present = s.settings.present ∧ s.pageWritten.notice.trip = s.notice.trip ∧
    s.pageWritten.notice.engineState = s.notice.engineState ∧ s.pageWritten.notice.segmentDone =
    s.notice.segmentDone ∧ s.pageWritten.notice.queueLow = s.notice.queueLow ∧ s.pageWritten.notice.band =
    s.notice.band ∧ s.pageWritten.notice.tareDone = s.notice.tareDone ∧ s.pageWritten.notice.enables =
    s.notice.enables ∧ s.pageWritten.notice.lastSent = s.notice.lastSent := by
  simp only [State.pageWritten]
  repeat' split
  all_goals simp

@[simp] theorem State.saveFails_frame (s : State) :
    s.saveFails.pending = s.pending ∧ s.saveFails.startup = s.startup ∧ s.saveFails.pins = s.pins ∧
    s.saveFails.queue = s.queue ∧ s.saveFails.override = s.override ∧ s.saveFails.interp = s.interp ∧
    s.saveFails.seq = s.seq ∧ s.saveFails.stroke = s.stroke ∧ s.saveFails.classifier = s.classifier ∧
    s.saveFails.bus = s.bus ∧ s.saveFails.trip = s.trip ∧ s.saveFails.link = s.link ∧ s.saveFails.outputs =
    s.outputs ∧ s.saveFails.attnFalls = s.attnFalls ∧ s.saveFails.twoWire = s.twoWire ∧ s.saveFails.draws = s.draws
    ∧ s.saveFails.settings.params = s.settings.params ∧ s.saveFails.settings.source = s.settings.source ∧
    s.saveFails.settings.present = s.settings.present ∧ s.saveFails.notice.trip = s.notice.trip ∧
    s.saveFails.notice.engineState = s.notice.engineState ∧ s.saveFails.notice.segmentDone = s.notice.segmentDone ∧
    s.saveFails.notice.queueLow = s.notice.queueLow ∧ s.saveFails.notice.band = s.notice.band ∧
    s.saveFails.notice.tareDone = s.notice.tareDone ∧ s.saveFails.notice.enables = s.notice.enables ∧
    s.saveFails.notice.lastSent = s.notice.lastSent := by
  simp only [State.saveFails]; split <;> simp

@[simp] theorem State.takeBody_frame (s : State) (b : List Byte) :
    (s.takeBody b).1.pending = s.pending ∧ (s.takeBody b).1.startup = s.startup ∧ (s.takeBody b).1.pins = s.pins ∧
    (s.takeBody b).1.override = s.override ∧ (s.takeBody b).1.seq = s.seq ∧ (s.takeBody b).1.stroke = s.stroke ∧
    (s.takeBody b).1.classifier = s.classifier ∧ (s.takeBody b).1.bus = s.bus ∧ (s.takeBody b).1.trip = s.trip ∧
    (s.takeBody b).1.link = s.link ∧ (s.takeBody b).1.notice = s.notice ∧ (s.takeBody b).1.settings = s.settings ∧
    (s.takeBody b).1.outputs = s.outputs ∧ (s.takeBody b).1.attnFalls = s.attnFalls ∧ (s.takeBody b).1.twoWire =
    s.twoWire ∧ (s.takeBody b).1.interp.x = s.interp.x ∧ (s.takeBody b).1.interp.y = s.interp.y ∧ (s.takeBody
    b).1.interp.heading = s.interp.heading ∧ (s.takeBody b).1.interp.feed = s.interp.feed ∧ (s.takeBody
    b).1.interp.turn = s.interp.turn := by
  simp only [State.takeBody]; split <;> simp

@[simp] theorem State.serveSegments_frame (s : State) (b : List Byte) :
    (s.serveSegments b).1.pending = s.pending ∧ (s.serveSegments b).1.startup = s.startup ∧ (s.serveSegments
    b).1.pins = s.pins ∧ (s.serveSegments b).1.override = s.override ∧ (s.serveSegments b).1.classifier =
    s.classifier ∧ (s.serveSegments b).1.link = s.link ∧ (s.serveSegments b).1.settings = s.settings ∧
    (s.serveSegments b).1.outputs = s.outputs ∧ (s.serveSegments b).1.attnFalls = s.attnFalls ∧ (s.serveSegments
    b).1.twoWire = s.twoWire ∧ (s.serveSegments b).1.bus.started = s.bus.started ∧ (s.serveSegments
    b).1.bus.frameCount = s.bus.frameCount ∧ (s.serveSegments b).1.bus.level = s.bus.level ∧ (s.serveSegments
    b).1.bus.x = s.bus.x ∧ (s.serveSegments b).1.bus.y = s.bus.y ∧ (s.serveSegments b).1.bus.h = s.bus.h ∧
    (s.serveSegments b).1.bus.s = s.bus.s ∧ (s.serveSegments b).1.bus.window = s.bus.window ∧ (s.serveSegments
    b).1.bus.line = s.bus.line ∧ (s.serveSegments b).1.trip.inputs = s.trip.inputs ∧ (s.serveSegments
    b).1.trip.green = s.trip.green ∧ (s.serveSegments b).1.trip.amber = s.trip.amber ∧ (s.serveSegments
    b).1.trip.red = s.trip.red ∧ (s.serveSegments b).1.trip.blink = s.trip.blink ∧ (s.serveSegments b).1.interp.x =
    s.interp.x ∧ (s.serveSegments b).1.interp.y = s.interp.y ∧ (s.serveSegments b).1.interp.heading =
    s.interp.heading ∧ (s.serveSegments b).1.bus.opening = s.bus.opening ∧ (s.serveSegments b).1.notice.band =
    s.notice.band ∧ (s.serveSegments b).1.notice.storeDone = s.notice.storeDone ∧ (s.serveSegments
    b).1.notice.enables = s.notice.enables ∧ (s.serveSegments b).1.notice.lastSent = s.notice.lastSent := by
  simp only [State.serveSegments]; split <;> simp

@[simp] theorem State.serveNoticeMask_frame (s : State) (e : Byte) :
    (s.serveNoticeMask e).1.pending = s.pending ∧ (s.serveNoticeMask e).1.startup = s.startup ∧ (s.serveNoticeMask
    e).1.pins = s.pins ∧ (s.serveNoticeMask e).1.queue = s.queue ∧ (s.serveNoticeMask e).1.override = s.override ∧
    (s.serveNoticeMask e).1.interp = s.interp ∧ (s.serveNoticeMask e).1.seq = s.seq ∧ (s.serveNoticeMask e).1.stroke
    = s.stroke ∧ (s.serveNoticeMask e).1.classifier = s.classifier ∧ (s.serveNoticeMask e).1.bus = s.bus ∧
    (s.serveNoticeMask e).1.trip = s.trip ∧ (s.serveNoticeMask e).1.link = s.link ∧ (s.serveNoticeMask e).1.settings
    = s.settings ∧ (s.serveNoticeMask e).1.outputs = s.outputs ∧ (s.serveNoticeMask e).1.attnFalls = s.attnFalls ∧
    (s.serveNoticeMask e).1.twoWire = s.twoWire ∧ (s.serveNoticeMask e).1.draws = s.draws := by
  simp [State.serveNoticeMask]

@[simp] theorem State.serveLamps_frame (s : State) (g a r : Byte) :
    (s.serveLamps g a r).1.pending = s.pending ∧ (s.serveLamps g a r).1.startup = s.startup ∧ (s.serveLamps g a
    r).1.pins = s.pins ∧ (s.serveLamps g a r).1.queue = s.queue ∧ (s.serveLamps g a r).1.override = s.override ∧
    (s.serveLamps g a r).1.interp = s.interp ∧ (s.serveLamps g a r).1.seq = s.seq ∧ (s.serveLamps g a r).1.stroke =
    s.stroke ∧ (s.serveLamps g a r).1.classifier = s.classifier ∧ (s.serveLamps g a r).1.bus = s.bus ∧ (s.serveLamps
    g a r).1.link = s.link ∧ (s.serveLamps g a r).1.notice = s.notice ∧ (s.serveLamps g a r).1.settings = s.settings
    ∧ (s.serveLamps g a r).1.outputs = s.outputs ∧ (s.serveLamps g a r).1.attnFalls = s.attnFalls ∧ (s.serveLamps g
    a r).1.twoWire = s.twoWire ∧ (s.serveLamps g a r).1.draws = s.draws ∧ (s.serveLamps g a r).1.trip.sources =
    s.trip.sources ∧ (s.serveLamps g a r).1.trip.inputs = s.trip.inputs ∧ (s.serveLamps g a r).1.trip.level =
    s.trip.level ∧ (s.serveLamps g a r).1.trip.blink = s.trip.blink ∧ (s.serveLamps g a r).1.trip.faultSet =
    s.trip.faultSet ∧ (s.serveLamps g a r).1.trip.lostSet = s.trip.lostSet := by
  simp only [State.serveLamps]; split <;> simp

@[simp] theorem State.serveReset_frame (s : State) :
    s.serveReset.1.pending = s.pending ∧ s.serveReset.1.startup = s.startup ∧ s.serveReset.1.pins = s.pins ∧
    s.serveReset.1.queue = s.queue ∧ s.serveReset.1.override = s.override ∧ s.serveReset.1.interp = s.interp ∧
    s.serveReset.1.seq = s.seq ∧ s.serveReset.1.stroke = s.stroke ∧ s.serveReset.1.classifier = s.classifier ∧
    s.serveReset.1.bus = s.bus ∧ s.serveReset.1.trip = s.trip ∧ s.serveReset.1.notice = s.notice ∧
    s.serveReset.1.settings = s.settings ∧ s.serveReset.1.outputs = s.outputs ∧ s.serveReset.1.attnFalls =
    s.attnFalls ∧ s.serveReset.1.twoWire = s.twoWire ∧ s.serveReset.1.draws = s.draws ∧ s.serveReset.1.link.inbox =
    s.link.inbox ∧ s.serveReset.1.link.reply = s.link.reply ∧ s.serveReset.1.link.receiver = s.link.receiver ∧
    s.serveReset.1.link.transmitter = s.link.transmitter := by
  simp only [State.serveReset]
  repeat' split
  all_goals simp

@[simp] theorem State.overrideReply_frame (s : State) (v : Byte) :
    (s.overrideReply v).1.pending = s.pending ∧ (s.overrideReply v).1.startup = s.startup ∧ (s.overrideReply
    v).1.pins = s.pins ∧ (s.overrideReply v).1.queue = s.queue ∧ (s.overrideReply v).1.interp = s.interp ∧
    (s.overrideReply v).1.seq = s.seq ∧ (s.overrideReply v).1.stroke = s.stroke ∧ (s.overrideReply v).1.classifier =
    s.classifier ∧ (s.overrideReply v).1.bus = s.bus ∧ (s.overrideReply v).1.trip = s.trip ∧ (s.overrideReply
    v).1.link = s.link ∧ (s.overrideReply v).1.notice = s.notice ∧ (s.overrideReply v).1.settings = s.settings ∧
    (s.overrideReply v).1.outputs = s.outputs ∧ (s.overrideReply v).1.attnFalls = s.attnFalls ∧ (s.overrideReply
    v).1.twoWire = s.twoWire ∧ (s.overrideReply v).1.draws = s.draws := by
  simp [State.overrideReply]

@[simp] theorem State.serve_frame (s : State) (k : RequestKind) (b : List Byte) :
    (s.serve k b).1.pending = s.pending ∧ (s.serve k b).1.startup = s.startup ∧ (s.serve k b).1.pins = s.pins ∧
    (s.serve k b).1.outputs = s.outputs ∧ (s.serve k b).1.attnFalls = s.attnFalls ∧ (s.serve k b).1.twoWire =
    s.twoWire ∧ (s.serve k b).1.settings.source = s.settings.source ∧ (s.serve k b).1.settings.present =
    s.settings.present ∧ (s.serve k b).1.trip.blink = s.trip.blink ∧ (s.serve k b).1.bus.started = s.bus.started ∧
    (s.serve k b).1.bus.level = s.bus.level ∧ (s.serve k b).1.link.inbox = s.link.inbox ∧ (s.serve k b).1.link.reply
    = s.link.reply ∧ (s.serve k b).1.link.receiver = s.link.receiver ∧ (s.serve k b).1.link.transmitter =
    s.link.transmitter ∧ (s.serve k b).1.bus.opening = s.bus.opening := by
  cases k <;> simp [State.serve, resultBody]

@[simp] theorem State.answerBody_frame (s : State) (r : Request) :
    (s.answerBody r).1.pending = s.pending ∧ (s.answerBody r).1.startup = s.startup ∧ (s.answerBody r).1.pins =
    s.pins ∧ (s.answerBody r).1.outputs = s.outputs ∧ (s.answerBody r).1.attnFalls = s.attnFalls ∧ (s.answerBody
    r).1.twoWire = s.twoWire ∧ (s.answerBody r).1.settings.source = s.settings.source ∧ (s.answerBody
    r).1.settings.present = s.settings.present ∧ (s.answerBody r).1.trip.blink = s.trip.blink ∧ (s.answerBody
    r).1.bus.started = s.bus.started ∧ (s.answerBody r).1.bus.level = s.bus.level ∧ (s.answerBody r).1.link.inbox =
    s.link.inbox ∧ (s.answerBody r).1.link.reply = s.link.reply ∧ (s.answerBody r).1.link.receiver = s.link.receiver
    ∧ (s.answerBody r).1.link.transmitter = s.link.transmitter ∧ (s.answerBody r).1.bus.opening = s.bus.opening := by
  simp only [State.answerBody]
  repeat' split
  all_goals simp

@[simp] theorem State.answer_frame (s : State) (r : Request) :
    (s.answer r).pending = s.pending ∧ (s.answer r).startup = s.startup ∧ (s.answer r).pins = s.pins ∧ (s.answer
    r).outputs = s.outputs ∧ (s.answer r).attnFalls = s.attnFalls ∧ (s.answer r).twoWire = s.twoWire ∧ (s.answer
    r).settings.source = s.settings.source ∧ (s.answer r).settings.present = s.settings.present ∧ (s.answer
    r).trip.blink = s.trip.blink ∧ (s.answer r).bus.started = s.bus.started ∧ (s.answer r).bus.level = s.bus.level ∧
    (s.answer r).link.inbox = s.link.inbox ∧ (s.answer r).link.receiver = s.link.receiver ∧ (s.answer
    r).link.transmitter = s.link.transmitter ∧ (s.answer r).bus.opening = s.bus.opening := by
  simp [State.answer]

@[simp] theorem State.takeNext_frame (s : State) :
    s.takeNext.pending = s.pending ∧ s.takeNext.startup = s.startup ∧ s.takeNext.pins = s.pins ∧ s.takeNext.outputs
    = s.outputs ∧ s.takeNext.attnFalls = s.attnFalls ∧ s.takeNext.twoWire = s.twoWire ∧ s.takeNext.settings.source =
    s.settings.source ∧ s.takeNext.settings.present = s.settings.present ∧ s.takeNext.trip.blink = s.trip.blink ∧
    s.takeNext.bus.started = s.bus.started ∧ s.takeNext.bus.level = s.bus.level ∧ s.takeNext.link.receiver =
    s.link.receiver ∧ s.takeNext.link.transmitter = s.link.transmitter ∧ s.takeNext.bus.opening = s.bus.opening := by
  simp only [State.takeNext]
  repeat' split
  all_goals simp

@[simp] theorem State.toInbox_frame (s : State) (r : Request) :
    (s.toInbox r).pending = s.pending ∧ (s.toInbox r).startup = s.startup ∧ (s.toInbox r).pins = s.pins ∧ (s.toInbox
    r).outputs = s.outputs ∧ (s.toInbox r).attnFalls = s.attnFalls ∧ (s.toInbox r).twoWire = s.twoWire ∧ (s.toInbox
    r).settings.source = s.settings.source ∧ (s.toInbox r).settings.present = s.settings.present ∧ (s.toInbox
    r).trip.blink = s.trip.blink ∧ (s.toInbox r).bus.started = s.bus.started ∧ (s.toInbox r).bus.level = s.bus.level
    ∧ (s.toInbox r).link.receiver = s.link.receiver ∧ (s.toInbox r).link.transmitter = s.link.transmitter ∧
    (s.toInbox r).bus.opening = s.bus.opening := by
  simp only [State.toInbox]; split <;> simp

@[simp] theorem State.arrive_frame (s : State) (r : Request) :
    (s.arrive r).pending = s.pending ∧ (s.arrive r).startup = s.startup ∧ (s.arrive r).pins = s.pins ∧ (s.arrive
    r).outputs = s.outputs ∧ (s.arrive r).attnFalls = s.attnFalls ∧ (s.arrive r).twoWire = s.twoWire ∧ (s.arrive
    r).settings.source = s.settings.source ∧ (s.arrive r).settings.present = s.settings.present ∧ (s.arrive
    r).trip.blink = s.trip.blink ∧ (s.arrive r).bus.started = s.bus.started ∧ (s.arrive r).bus.level = s.bus.level ∧
    (s.arrive r).link.receiver = s.link.receiver ∧ (s.arrive r).link.transmitter = s.link.transmitter ∧ (s.arrive
    r).bus.opening = s.bus.opening := by
  simp only [State.arrive]; split <;> simp

@[simp] theorem State.setReceiver_frame (s : State) (r : Receiver) :
    (s.setReceiver r).pending = s.pending ∧ (s.setReceiver r).startup = s.startup ∧ (s.setReceiver r).pins = s.pins
    ∧ (s.setReceiver r).queue = s.queue ∧ (s.setReceiver r).override = s.override ∧ (s.setReceiver r).interp =
    s.interp ∧ (s.setReceiver r).seq = s.seq ∧ (s.setReceiver r).stroke = s.stroke ∧ (s.setReceiver r).classifier =
    s.classifier ∧ (s.setReceiver r).bus = s.bus ∧ (s.setReceiver r).trip = s.trip ∧ (s.setReceiver r).notice =
    s.notice ∧ (s.setReceiver r).settings = s.settings ∧ (s.setReceiver r).outputs = s.outputs ∧ (s.setReceiver
    r).attnFalls = s.attnFalls ∧ (s.setReceiver r).twoWire = s.twoWire ∧ (s.setReceiver r).draws = s.draws ∧
    (s.setReceiver r).link.inbox = s.link.inbox ∧ (s.setReceiver r).link.reply = s.link.reply ∧ (s.setReceiver
    r).link.transmitter = s.link.transmitter ∧ (s.setReceiver r).link.resetPending = s.link.resetPending := by
  simp [State.setReceiver]

@[simp] theorem State.judgeFrame_frame (s : State) (l : Byte) (bs : List Byte) (a b : Byte) :
    (s.judgeFrame l bs a b).pending = s.pending ∧ (s.judgeFrame l bs a b).startup = s.startup ∧ (s.judgeFrame l bs a
    b).pins = s.pins ∧ (s.judgeFrame l bs a b).outputs = s.outputs ∧ (s.judgeFrame l bs a b).attnFalls = s.attnFalls
    ∧ (s.judgeFrame l bs a b).twoWire = s.twoWire ∧ (s.judgeFrame l bs a b).settings.source = s.settings.source ∧
    (s.judgeFrame l bs a b).settings.present = s.settings.present ∧ (s.judgeFrame l bs a b).trip.blink =
    s.trip.blink ∧ (s.judgeFrame l bs a b).bus.started = s.bus.started ∧ (s.judgeFrame l bs a b).bus.level =
    s.bus.level ∧ (s.judgeFrame l bs a b).link.transmitter = s.link.transmitter ∧ (s.judgeFrame l bs a
    b).bus.opening = s.bus.opening := by
  simp only [State.judgeFrame]; split <;> simp

@[simp] theorem State.receiveByte_frame (s : State) (b : Byte) :
    (s.receiveByte b).pending = s.pending ∧ (s.receiveByte b).startup = s.startup ∧ (s.receiveByte b).pins = s.pins
    ∧ (s.receiveByte b).outputs = s.outputs ∧ (s.receiveByte b).attnFalls = s.attnFalls ∧ (s.receiveByte b).twoWire
    = s.twoWire ∧ (s.receiveByte b).settings.source = s.settings.source ∧ (s.receiveByte b).settings.present =
    s.settings.present ∧ (s.receiveByte b).trip.blink = s.trip.blink ∧ (s.receiveByte b).bus.started = s.bus.started
    ∧ (s.receiveByte b).bus.level = s.bus.level ∧ (s.receiveByte b).link.transmitter = s.link.transmitter ∧
    (s.receiveByte b).bus.opening = s.bus.opening := by
  simp only [State.receiveByte]
  repeat' split
  all_goals simp

@[simp] theorem State.gapExpire_frame (s : State) :
    s.gapExpire.pending = s.pending ∧ s.gapExpire.startup = s.startup ∧ s.gapExpire.pins = s.pins ∧
    s.gapExpire.queue = s.queue ∧ s.gapExpire.override = s.override ∧ s.gapExpire.interp = s.interp ∧
    s.gapExpire.seq = s.seq ∧ s.gapExpire.stroke = s.stroke ∧ s.gapExpire.classifier = s.classifier ∧
    s.gapExpire.bus = s.bus ∧ s.gapExpire.trip = s.trip ∧ s.gapExpire.notice = s.notice ∧ s.gapExpire.settings =
    s.settings ∧ s.gapExpire.outputs = s.outputs ∧ s.gapExpire.attnFalls = s.attnFalls ∧ s.gapExpire.twoWire =
    s.twoWire ∧ s.gapExpire.draws = s.draws ∧ s.gapExpire.link.inbox = s.link.inbox ∧ s.gapExpire.link.reply =
    s.link.reply ∧ s.gapExpire.link.transmitter = s.link.transmitter ∧ s.gapExpire.link.resetPending =
    s.link.resetPending := by
  simp only [State.gapExpire]; split <;> simp

@[simp] theorem State.sendNotice_frame (s : State) (c : NoticeClass) :
    (s.sendNotice c).pending = s.pending ∧ (s.sendNotice c).startup = s.startup ∧ (s.sendNotice c).pins = s.pins ∧
    (s.sendNotice c).queue = s.queue ∧ (s.sendNotice c).override = s.override ∧ (s.sendNotice c).interp = s.interp ∧
    (s.sendNotice c).seq = s.seq ∧ (s.sendNotice c).stroke = s.stroke ∧ (s.sendNotice c).classifier = s.classifier ∧
    (s.sendNotice c).bus = s.bus ∧ (s.sendNotice c).trip = s.trip ∧ (s.sendNotice c).settings = s.settings ∧
    (s.sendNotice c).outputs = s.outputs ∧ (s.sendNotice c).twoWire = s.twoWire ∧ (s.sendNotice c).draws = s.draws ∧
    (s.sendNotice c).link.inbox = s.link.inbox ∧ (s.sendNotice c).link.reply = s.link.reply ∧ (s.sendNotice
    c).link.receiver = s.link.receiver ∧ (s.sendNotice c).link.resetPending = s.link.resetPending ∧ (s.sendNotice
    c).link.gap = s.link.gap ∧ (s.sendNotice c).link.fast = s.link.fast ∧ (s.sendNotice c).link.lengthCount =
    s.link.lengthCount ∧ (s.sendNotice c).link.gapCount = s.link.gapCount ∧ (s.sendNotice c).link.crcCount =
    s.link.crcCount ∧ (s.sendNotice c).link.inboxCount = s.link.inboxCount := by
  simp [State.sendNotice]

@[simp] theorem State.offerTransmit_frame (s : State) :
    s.offerTransmit.pending = s.pending ∧ s.offerTransmit.startup = s.startup ∧ s.offerTransmit.pins = s.pins ∧
    s.offerTransmit.queue = s.queue ∧ s.offerTransmit.override = s.override ∧ s.offerTransmit.interp = s.interp ∧
    s.offerTransmit.seq = s.seq ∧ s.offerTransmit.stroke = s.stroke ∧ s.offerTransmit.classifier = s.classifier ∧
    s.offerTransmit.bus = s.bus ∧ s.offerTransmit.trip = s.trip ∧ s.offerTransmit.settings = s.settings ∧
    s.offerTransmit.outputs = s.outputs ∧ s.offerTransmit.twoWire = s.twoWire ∧ s.offerTransmit.draws = s.draws ∧
    s.offerTransmit.link.inbox = s.link.inbox ∧ s.offerTransmit.link.reply = s.link.reply ∧
    s.offerTransmit.link.receiver = s.link.receiver ∧ s.offerTransmit.link.resetPending = s.link.resetPending ∧
    s.offerTransmit.link.gap = s.link.gap ∧ s.offerTransmit.link.fast = s.link.fast ∧
    s.offerTransmit.link.lengthCount = s.link.lengthCount ∧ s.offerTransmit.link.gapCount = s.link.gapCount ∧
    s.offerTransmit.link.crcCount = s.link.crcCount ∧ s.offerTransmit.link.inboxCount = s.link.inboxCount := by
  simp only [State.offerTransmit]
  repeat' split
  all_goals simp

@[simp] theorem State.commit_frame (s : State) :
    s.commit.pending = s.pending ∧ s.commit.startup = s.startup ∧ s.commit.pins = s.pins ∧ s.commit.queue = s.queue
    ∧ s.commit.override = s.override ∧ s.commit.interp = s.interp ∧ s.commit.seq = s.seq ∧ s.commit.stroke =
    s.stroke ∧ s.commit.classifier = s.classifier ∧ s.commit.bus = s.bus ∧ s.commit.trip = s.trip ∧
    s.commit.settings = s.settings ∧ s.commit.draws = s.draws ∧ s.commit.link.inbox = s.link.inbox ∧
    s.commit.link.reply = s.link.reply ∧ s.commit.link.receiver = s.link.receiver ∧ s.commit.link.resetPending =
    s.link.resetPending ∧ s.commit.link.gap = s.link.gap ∧ s.commit.link.fast = s.link.fast ∧
    s.commit.link.lengthCount = s.link.lengthCount ∧ s.commit.link.gapCount = s.link.gapCount ∧
    s.commit.link.crcCount = s.link.crcCount ∧ s.commit.link.inboxCount = s.link.inboxCount := by
  simp [State.commit]

@[simp] theorem State.resetBlocks_frame (s : State) :
    s.resetBlocks.pending = s.pending ∧ s.resetBlocks.startup = s.startup ∧ s.resetBlocks.pins = s.pins ∧
    s.resetBlocks.link = s.link ∧ s.resetBlocks.notice = s.notice ∧ s.resetBlocks.settings = s.settings ∧
    s.resetBlocks.outputs = s.outputs ∧ s.resetBlocks.attnFalls = s.attnFalls ∧ s.resetBlocks.twoWire = s.twoWire ∧
    s.resetBlocks.draws = s.draws := by
  simp [State.resetBlocks]

@[simp] theorem State.por_frame (s : State) (l f : Bool) :
    (s.por l f).pending = s.pending ∧ (s.por l f).pins = s.pins ∧ (s.por l f).outputs = s.outputs ∧ (s.por l
    f).attnFalls = s.attnFalls ∧ (s.por l f).twoWire = s.twoWire ∧ (s.por l f).draws = s.draws := by
  simp [State.por]

@[simp] theorem State.lineReset_frame (s : State) :
    s.lineReset.pending = s.pending ∧ s.lineReset.pins = s.pins ∧ s.lineReset.outputs = s.outputs ∧
    s.lineReset.attnFalls = s.attnFalls ∧ s.lineReset.twoWire = s.twoWire ∧ s.lineReset.draws = s.draws ∧
    s.lineReset.settings.params = s.settings.params ∧ s.lineReset.settings.source = s.settings.source ∧
    s.lineReset.settings.present = s.settings.present := by
  simp [State.lineReset]

@[simp] theorem State.releaseLine_frame (s : State) :
    s.releaseLine.pending = s.pending ∧ s.releaseLine.pins = s.pins ∧ s.releaseLine.queue = s.queue ∧
    s.releaseLine.override = s.override ∧ s.releaseLine.interp = s.interp ∧ s.releaseLine.seq = s.seq ∧
    s.releaseLine.stroke = s.stroke ∧ s.releaseLine.classifier = s.classifier ∧ s.releaseLine.bus = s.bus ∧
    s.releaseLine.trip = s.trip ∧ s.releaseLine.link = s.link ∧ s.releaseLine.notice = s.notice ∧
    s.releaseLine.settings = s.settings ∧ s.releaseLine.outputs = s.outputs ∧ s.releaseLine.attnFalls = s.attnFalls
    ∧ s.releaseLine.twoWire = s.twoWire ∧ s.releaseLine.draws = s.draws := by
  simp only [State.releaseLine]; split <;> simp

@[simp] theorem State.noteIdle_frame (s : State) (e : Engine) :
    (s.noteIdle e).pending = s.pending ∧ (s.noteIdle e).startup = s.startup ∧ (s.noteIdle e).pins = s.pins ∧
    (s.noteIdle e).queue = s.queue ∧ (s.noteIdle e).override = s.override ∧ (s.noteIdle e).interp = s.interp ∧
    (s.noteIdle e).seq = s.seq ∧ (s.noteIdle e).stroke = s.stroke ∧ (s.noteIdle e).classifier = s.classifier ∧
    (s.noteIdle e).bus = s.bus ∧ (s.noteIdle e).trip = s.trip ∧ (s.noteIdle e).link = s.link ∧ (s.noteIdle
    e).settings = s.settings ∧ (s.noteIdle e).outputs = s.outputs ∧ (s.noteIdle e).attnFalls = s.attnFalls ∧
    (s.noteIdle e).twoWire = s.twoWire ∧ (s.noteIdle e).draws = s.draws ∧ (s.noteIdle e).notice.trip = s.notice.trip
    ∧ (s.noteIdle e).notice.segmentDone = s.notice.segmentDone ∧ (s.noteIdle e).notice.queueLow = s.notice.queueLow
    ∧ (s.noteIdle e).notice.band = s.notice.band ∧ (s.noteIdle e).notice.tareDone = s.notice.tareDone ∧ (s.noteIdle
    e).notice.storeDone = s.notice.storeDone ∧ (s.noteIdle e).notice.enables = s.notice.enables ∧ (s.noteIdle
    e).notice.lastSent = s.notice.lastSent := by
  simp [State.noteIdle]

@[simp] theorem State.reqReset_frame (s : State) :
    s.reqReset.pending = s.pending ∧ s.reqReset.startup = s.startup ∧ s.reqReset.pins = s.pins ∧ s.reqReset.settings
    = s.settings ∧ s.reqReset.outputs = s.outputs ∧ s.reqReset.twoWire = s.twoWire ∧ s.reqReset.draws = s.draws := by
  simp only [State.reqReset]; split <;> simp

@[simp] theorem State.fillWorkingSet_frame (s : State) (n : Nat) (im : List Byte) :
    (s.fillWorkingSet n im).pending = s.pending ∧ (s.fillWorkingSet n im).startup = s.startup ∧ (s.fillWorkingSet n
    im).pins = s.pins ∧ (s.fillWorkingSet n im).queue = s.queue ∧ (s.fillWorkingSet n im).override = s.override ∧
    (s.fillWorkingSet n im).interp = s.interp ∧ (s.fillWorkingSet n im).seq = s.seq ∧ (s.fillWorkingSet n im).stroke
    = s.stroke ∧ (s.fillWorkingSet n im).bus = s.bus ∧ (s.fillWorkingSet n im).link = s.link ∧ (s.fillWorkingSet n
    im).notice = s.notice ∧ (s.fillWorkingSet n im).outputs = s.outputs ∧ (s.fillWorkingSet n im).attnFalls =
    s.attnFalls ∧ (s.fillWorkingSet n im).twoWire = s.twoWire ∧ (s.fillWorkingSet n im).draws = s.draws ∧
    (s.fillWorkingSet n im).classifier.material = s.classifier.material ∧ (s.fillWorkingSet n
    im).classifier.candidate = s.classifier.candidate ∧ (s.fillWorkingSet n im).classifier.df = s.classifier.df ∧
    (s.fillWorkingSet n im).classifier.overload = s.classifier.overload ∧ (s.fillWorkingSet n im).trip.faultSet =
    s.trip.faultSet ∧ (s.fillWorkingSet n im).trip.lostSet = s.trip.lostSet := by
  simp [State.fillWorkingSet]

@[simp] theorem State.takeWorkingSet_frame (s : State) :
    s.takeWorkingSet.pending = s.pending ∧ s.takeWorkingSet.startup = s.startup ∧ s.takeWorkingSet.pins = s.pins ∧
    s.takeWorkingSet.override = s.override ∧ s.takeWorkingSet.interp = s.interp ∧ s.takeWorkingSet.seq = s.seq ∧
    s.takeWorkingSet.bus = s.bus ∧ s.takeWorkingSet.trip = s.trip ∧ s.takeWorkingSet.link = s.link ∧
    s.takeWorkingSet.notice = s.notice ∧ s.takeWorkingSet.settings = s.settings ∧ s.takeWorkingSet.outputs =
    s.outputs ∧ s.takeWorkingSet.attnFalls = s.attnFalls ∧ s.takeWorkingSet.twoWire = s.twoWire ∧
    s.takeWorkingSet.draws = s.draws ∧ s.takeWorkingSet.queue.records = s.queue.records ∧
    s.takeWorkingSet.classifier.bands = s.classifier.bands := by
  simp [State.takeWorkingSet]

@[simp] theorem State.enableLink_frame (s : State) :
    s.enableLink.pending = s.pending ∧ s.enableLink.pins = s.pins ∧ s.enableLink.queue = s.queue ∧
    s.enableLink.override = s.override ∧ s.enableLink.interp = s.interp ∧ s.enableLink.seq = s.seq ∧
    s.enableLink.stroke = s.stroke ∧ s.enableLink.classifier = s.classifier ∧ s.enableLink.bus = s.bus ∧
    s.enableLink.trip = s.trip ∧ s.enableLink.settings = s.settings ∧ s.enableLink.outputs = s.outputs ∧
    s.enableLink.attnFalls = s.attnFalls ∧ s.enableLink.twoWire = s.twoWire ∧ s.enableLink.draws = s.draws ∧
    s.enableLink.link.inbox = s.link.inbox ∧ s.enableLink.link.reply = s.link.reply ∧ s.enableLink.link.transmitter
    = s.link.transmitter ∧ s.enableLink.link.resetPending = s.link.resetPending ∧ s.enableLink.notice.trip =
    s.notice.trip ∧ s.enableLink.notice.segmentDone = s.notice.segmentDone ∧ s.enableLink.notice.queueLow =
    s.notice.queueLow ∧ s.enableLink.notice.band = s.notice.band ∧ s.enableLink.notice.tareDone = s.notice.tareDone
    ∧ s.enableLink.notice.storeDone = s.notice.storeDone ∧ s.enableLink.notice.enables = s.notice.enables ∧
    s.enableLink.notice.lastSent = s.notice.lastSent := by
  simp only [State.enableLink]; split <;> simp

@[simp] theorem State.endLoad_frame (s : State) (n : Nat) (im : List Byte) :
    (s.endLoad n im).pending = s.pending ∧ (s.endLoad n im).pins = s.pins ∧ (s.endLoad n im).override = s.override ∧
    (s.endLoad n im).outputs = s.outputs ∧ (s.endLoad n im).attnFalls = s.attnFalls ∧ (s.endLoad n im).twoWire =
    s.twoWire ∧ (s.endLoad n im).draws = s.draws := by
  simp [State.endLoad]

@[simp] theorem State.frameSent_frame (s : State) :
    s.frameSent.pending = s.pending ∧ s.frameSent.startup = s.startup ∧ s.frameSent.pins = s.pins ∧
    s.frameSent.outputs = s.outputs ∧ s.frameSent.twoWire = s.twoWire ∧ s.frameSent.settings.source =
    s.settings.source ∧ s.frameSent.settings.present = s.settings.present := by
  simp only [State.frameSent]
  repeat' split
  all_goals simp

@[simp] theorem State.pulseInWindow_frame (s : State) (w : Window) (p : Nat) :
    (s.pulseInWindow w p).pending = s.pending ∧ (s.pulseInWindow w p).startup = s.startup ∧ (s.pulseInWindow w
    p).pins = s.pins ∧ (s.pulseInWindow w p).queue = s.queue ∧ (s.pulseInWindow w p).override = s.override ∧
    (s.pulseInWindow w p).interp = s.interp ∧ (s.pulseInWindow w p).link = s.link ∧ (s.pulseInWindow w p).outputs =
    s.outputs ∧ (s.pulseInWindow w p).attnFalls = s.attnFalls ∧ (s.pulseInWindow w p).twoWire = s.twoWire ∧
    (s.pulseInWindow w p).draws = s.draws ∧ (s.pulseInWindow w p).seq.engine = s.seq.engine ∧ (s.pulseInWindow w
    p).seq.resume = s.seq.resume ∧ (s.pulseInWindow w p).seq.dwellCount = s.seq.dwellCount ∧ (s.pulseInWindow w
    p).seq.starve = s.seq.starve ∧ (s.pulseInWindow w p).seq.interrupted = s.seq.interrupted ∧ (s.pulseInWindow w
    p).bus.started = s.bus.started ∧ (s.pulseInWindow w p).bus.frameCount = s.bus.frameCount ∧ (s.pulseInWindow w
    p).bus.level = s.bus.level ∧ (s.pulseInWindow w p).bus.x = s.bus.x ∧ (s.pulseInWindow w p).bus.y = s.bus.y ∧
    (s.pulseInWindow w p).bus.h = s.bus.h ∧ (s.pulseInWindow w p).bus.s = s.bus.s ∧ (s.pulseInWindow w p).bus.window
    = s.bus.window ∧ (s.pulseInWindow w p).bus.line = s.bus.line ∧ (s.pulseInWindow w p).trip.inputs = s.trip.inputs
    ∧ (s.pulseInWindow w p).trip.green = s.trip.green ∧ (s.pulseInWindow w p).trip.amber = s.trip.amber ∧
    (s.pulseInWindow w p).trip.red = s.trip.red ∧ (s.pulseInWindow w p).trip.blink = s.trip.blink ∧ (s.pulseInWindow
    w p).settings.source = s.settings.source ∧ (s.pulseInWindow w p).settings.present = s.settings.present ∧
    (s.pulseInWindow w p).settings.store = s.settings.store ∧ (s.pulseInWindow w p).settings.save = s.settings.save
    ∧ (s.pulseInWindow w p).classifier.bands = s.classifier.bands ∧ (s.pulseInWindow w p).bus.opening =
    s.bus.opening ∧ (s.pulseInWindow w p).notice.engineState = s.notice.engineState ∧ (s.pulseInWindow w
    p).notice.segmentDone = s.notice.segmentDone ∧ (s.pulseInWindow w p).notice.queueLow = s.notice.queueLow ∧
    (s.pulseInWindow w p).notice.storeDone = s.notice.storeDone ∧ (s.pulseInWindow w p).notice.enables =
    s.notice.enables ∧ (s.pulseInWindow w p).notice.lastSent = s.notice.lastSent := by
  simp only [State.pulseInWindow]; split <;> simp

@[simp] theorem State.indexPulse_frame (s : State) (n : Nat) :
    (s.indexPulse n).pending = s.pending ∧ (s.indexPulse n).startup = s.startup ∧ (s.indexPulse n).pins = s.pins ∧
    (s.indexPulse n).queue = s.queue ∧ (s.indexPulse n).override = s.override ∧ (s.indexPulse n).interp = s.interp ∧
    (s.indexPulse n).link = s.link ∧ (s.indexPulse n).outputs = s.outputs ∧ (s.indexPulse n).attnFalls = s.attnFalls
    ∧ (s.indexPulse n).twoWire = s.twoWire ∧ (s.indexPulse n).draws = s.draws ∧ (s.indexPulse n).seq.engine =
    s.seq.engine ∧ (s.indexPulse n).seq.resume = s.seq.resume ∧ (s.indexPulse n).seq.dwellCount = s.seq.dwellCount ∧
    (s.indexPulse n).seq.starve = s.seq.starve ∧ (s.indexPulse n).seq.interrupted = s.seq.interrupted ∧
    (s.indexPulse n).bus.started = s.bus.started ∧ (s.indexPulse n).bus.frameCount = s.bus.frameCount ∧
    (s.indexPulse n).bus.level = s.bus.level ∧ (s.indexPulse n).bus.x = s.bus.x ∧ (s.indexPulse n).bus.y = s.bus.y ∧
    (s.indexPulse n).bus.h = s.bus.h ∧ (s.indexPulse n).bus.s = s.bus.s ∧ (s.indexPulse n).bus.window = s.bus.window
    ∧ (s.indexPulse n).bus.line = s.bus.line ∧ (s.indexPulse n).trip.inputs = s.trip.inputs ∧ (s.indexPulse
    n).trip.green = s.trip.green ∧ (s.indexPulse n).trip.amber = s.trip.amber ∧ (s.indexPulse n).trip.red =
    s.trip.red ∧ (s.indexPulse n).trip.blink = s.trip.blink ∧ (s.indexPulse n).settings.source = s.settings.source ∧
    (s.indexPulse n).settings.present = s.settings.present ∧ (s.indexPulse n).settings.store = s.settings.store ∧
    (s.indexPulse n).settings.save = s.settings.save ∧ (s.indexPulse n).classifier.bands = s.classifier.bands ∧
    (s.indexPulse n).bus.opening = s.bus.opening ∧ (s.indexPulse n).notice.engineState = s.notice.engineState ∧
    (s.indexPulse n).notice.segmentDone = s.notice.segmentDone ∧ (s.indexPulse n).notice.queueLow =
    s.notice.queueLow ∧ (s.indexPulse n).notice.storeDone = s.notice.storeDone ∧ (s.indexPulse n).notice.enables =
    s.notice.enables ∧ (s.indexPulse n).notice.lastSent = s.notice.lastSent := by
  simp only [State.indexPulse]
  repeat' split
  all_goals simp

@[simp] theorem State.loadPulse_frame (s : State) :
    s.loadPulse.pending = s.pending ∧ s.loadPulse.startup = s.startup ∧ s.loadPulse.pins = s.pins ∧
    s.loadPulse.queue = s.queue ∧ s.loadPulse.override = s.override ∧ s.loadPulse.interp = s.interp ∧
    s.loadPulse.seq = s.seq ∧ s.loadPulse.classifier = s.classifier ∧ s.loadPulse.bus = s.bus ∧ s.loadPulse.trip =
    s.trip ∧ s.loadPulse.link = s.link ∧ s.loadPulse.notice = s.notice ∧ s.loadPulse.settings = s.settings ∧
    s.loadPulse.outputs = s.outputs ∧ s.loadPulse.attnFalls = s.attnFalls ∧ s.loadPulse.twoWire = s.twoWire ∧
    s.loadPulse.draws = s.draws ∧ s.loadPulse.stroke.state = s.stroke.state ∧ s.loadPulse.stroke.fSet =
    s.stroke.fSet ∧ s.loadPulse.stroke.startTimer = s.stroke.startTimer ∧ s.loadPulse.stroke.stopTimer =
    s.stroke.stopTimer ∧ s.loadPulse.stroke.good = s.stroke.good ∧ s.loadPulse.stroke.slow = s.stroke.slow ∧
    s.loadPulse.stroke.stall = s.stroke.stall ∧ s.loadPulse.stroke.fm = s.stroke.fm ∧ s.loadPulse.stroke.lf =
    s.stroke.lf ∧ s.loadPulse.stroke.tareState = s.stroke.tareState ∧ s.loadPulse.stroke.tare = s.stroke.tare := by
  simp only [State.loadPulse]; split <;> simp

@[simp] theorem State.toggleBlink_frame (s : State) :
    s.toggleBlink.pending = s.pending ∧ s.toggleBlink.startup = s.startup ∧ s.toggleBlink.pins = s.pins ∧
    s.toggleBlink.queue = s.queue ∧ s.toggleBlink.override = s.override ∧ s.toggleBlink.interp = s.interp ∧
    s.toggleBlink.seq = s.seq ∧ s.toggleBlink.stroke = s.stroke ∧ s.toggleBlink.classifier = s.classifier ∧
    s.toggleBlink.bus = s.bus ∧ s.toggleBlink.link = s.link ∧ s.toggleBlink.notice = s.notice ∧
    s.toggleBlink.settings = s.settings ∧ s.toggleBlink.outputs = s.outputs ∧ s.toggleBlink.attnFalls = s.attnFalls
    ∧ s.toggleBlink.twoWire = s.twoWire ∧ s.toggleBlink.draws = s.draws ∧ s.toggleBlink.trip.sources =
    s.trip.sources ∧ s.toggleBlink.trip.inputs = s.trip.inputs ∧ s.toggleBlink.trip.level = s.trip.level ∧
    s.toggleBlink.trip.faultSet = s.trip.faultSet ∧ s.toggleBlink.trip.lostSet = s.trip.lostSet ∧
    s.toggleBlink.trip.green = s.trip.green ∧ s.toggleBlink.trip.amber = s.trip.amber ∧ s.toggleBlink.trip.red =
    s.trip.red := by
  simp [State.toggleBlink]

@[simp] theorem State.tick_frame (s : State) :
    s.tick.pending = s.pending ∧ s.tick.startup = s.startup ∧ s.tick.pins = s.pins ∧ s.tick.queue = s.queue ∧
    s.tick.override = s.override ∧ s.tick.interp = s.interp ∧ s.tick.seq = s.seq ∧ s.tick.classifier = s.classifier
    ∧ s.tick.notice = s.notice ∧ s.tick.settings = s.settings ∧ s.tick.outputs = s.outputs ∧ s.tick.attnFalls =
    s.attnFalls ∧ s.tick.twoWire = s.twoWire ∧ s.tick.draws = s.draws ∧ s.tick.stroke.state = s.stroke.state ∧
    s.tick.stroke.fSet = s.stroke.fSet ∧ s.tick.stroke.startTimer = s.stroke.startTimer ∧ s.tick.stroke.stopTimer =
    s.stroke.stopTimer ∧ s.tick.stroke.good = s.stroke.good ∧ s.tick.stroke.slow = s.stroke.slow ∧
    s.tick.stroke.stall = s.stroke.stall ∧ s.tick.stroke.fm = s.stroke.fm ∧ s.tick.stroke.lf = s.stroke.lf ∧
    s.tick.stroke.tareState = s.stroke.tareState ∧ s.tick.stroke.tare = s.stroke.tare ∧ s.tick.bus.started =
    s.bus.started ∧ s.tick.bus.frameCount = s.bus.frameCount ∧ s.tick.bus.level = s.bus.level ∧ s.tick.bus.x =
    s.bus.x ∧ s.tick.bus.y = s.bus.y ∧ s.tick.bus.h = s.bus.h ∧ s.tick.bus.s = s.bus.s ∧ s.tick.bus.line =
    s.bus.line ∧ s.tick.bus.changes = s.bus.changes ∧ s.tick.trip.sources = s.trip.sources ∧ s.tick.trip.level =
    s.trip.level ∧ s.tick.trip.faultSet = s.trip.faultSet ∧ s.tick.trip.lostSet = s.trip.lostSet ∧ s.tick.trip.green
    = s.trip.green ∧ s.tick.trip.amber = s.trip.amber ∧ s.tick.trip.red = s.trip.red ∧ s.tick.link.inbox =
    s.link.inbox ∧ s.tick.link.reply = s.link.reply ∧ s.tick.link.receiver = s.link.receiver ∧
    s.tick.link.transmitter = s.link.transmitter ∧ s.tick.link.resetPending = s.link.resetPending := by
  unfold State.tick Link.tick; repeat' split
  all_goals simp

end Sys2Proof.Machine
end

