-- ==== Sys2Proof/Laws/Effects.lean ====
section
/-! SUPPORT. For the shared operations, one lemma that says once what each does to the parts it changes; the parts it leaves stand in the
`_frame` lemmas of the other files. -/

namespace Sys2Proof.Machine

/-! ## The trip unit -/

/-- After a recomputation the level is that of the sources (R153), and a change of it is handed on (R154). -/
theorem State.recompute_spec (s : State) :
    s.recompute.trip.level = levelOf s.trip.sources ∧
    (levelOf s.trip.sources = s.trip.level → s.recompute = s) ∧
    (levelOf s.trip.sources ≠ s.trip.level →
      s.recompute.seq.changes = s.seq.changes ++ [⟨s.trip.level, levelOf s.trip.sources⟩] ∧
      s.recompute.bus.changes = s.bus.changes ++ [⟨s.trip.level, levelOf s.trip.sources⟩]) := by
  simp only [State.recompute]
  split <;> rename_i h <;> simp [h]

/-- A source moved takes its new figures; the others stand, and the level agrees (R150, R151, R153). -/
theorem State.moveSource_spec (s : State) (i : Fin 15) (src : Source) :
    (s.moveSource i src).trip.sources = s.trip.sources.set i.val src ∧
    (s.moveSource i src).trip.level = levelOf (s.trip.sources.set i.val src) := by
  simp only [State.moveSource]
  split <;> simp [State.tripNotice, (State.recompute_spec _).1]

/-- A condition handed on is the source's condition afterwards (R150, R151), and the other sources stand. -/
theorem State.setCondition_spec (s : State) (i : Fin 15) (b : Bool) :
    ((s.setCondition i b).trip.sources[i]).condition = b ∧
    (∀ j : Fin 15, j ≠ i → (s.setCondition i b).trip.sources[j] = s.trip.sources[j]) ∧
    ((s.setCondition i b).trip.sources[i]).action = (s.trip.sources[i]).action := by
  have hne : ∀ j : Fin 15, j ≠ i → ∀ src : Source, (s.trip.sources.set i.val src)[j] = s.trip.sources[j] := by
    intro j hj src
    exact Vector.getElem_set_ne _ _ (fun h => hj (Fin.ext h.symm))
  simp only [State.setCondition]
  split
  · rename_i h; exact ⟨h, fun _ _ => rfl, rfl⟩
  · split
    · rename_i hb
      simp only [State.activate, (State.moveSource_spec _ _ _).1]
      refine ⟨?_, fun j hj => hne j hj _, ?_⟩ <;> simp [hb]
    · rename_i hb
      simp only [State.release]
      split
      · simp only [(State.moveSource_spec _ _ _).1]
        refine ⟨?_, fun j hj => hne j hj _, ?_⟩ <;> simp_all
      · refine ⟨?_, fun j hj => hne j hj _, ?_⟩ <;> simp_all

/-- A source moved, as one update of the state (R150 to R154, R159). -/
theorem State.moveSource_eq (s : State) (i : Fin 15) (src : Source) :
    let sources := s.trip.sources.set i.val src
    let handed : List LevelChange := if levelOf sources = s.trip.level then [] else [⟨s.trip.level, levelOf sources⟩]
    s.moveSource i src = { s with
      trip := { s.trip with sources := sources, level := levelOf sources }
      seq := { s.seq with changes := s.seq.changes ++ handed }
      bus := { s.bus with changes := s.bus.changes ++ handed }
      notice := { s.notice with
        trip := if src.action = .ignore then s.notice.trip
          else Pending.coalesce s.notice.trip ⟨i, src.state, levelOf sources, s.trip.slotSet i⟩ } } := by
  intro sources handed
  have hs : s.trip.putSource i src = { s.trip with sources := sources } := rfl
  by_cases hl : levelOf sources = s.trip.level <;> by_cases ha : src.action = .ignore <;>
    simp [State.moveSource, State.recompute, State.tripNotice, State.noteTrip, hs, hl, ha, handed, State.setTrip, State.setSeq,
      State.setBus, State.setNotice, TripUnit.slotSet, sources]

/-- A source moved to a new condition is what the trip unit makes of that condition. -/
theorem State.moveSource_taken (s : State) (i : Fin 15) (src : Source) (b : Bool) (hc : (s.trip.sources[i]).condition ≠ b)
    (hb : b = true ∨ (s.trip.sources[i]).state = .active)
    (hs : src = { s.trip.sources[i] with
      condition := b
      state := if b then .active else if (s.trip.sources[i]).action ∈ [Action.hold, .halt, .quickStop] then .latched else .clear
      count := if b then min ((s.trip.sources[i]).count + 1) 255 else (s.trip.sources[i]).count }) :
    s.ConditionTaken (s.moveSource i src) i b := by
  have hne : ∀ j : Fin 15, j ≠ i → (s.trip.sources.set i.val src)[j] = s.trip.sources[j] :=
    fun j hj => Vector.getElem_set_ne _ _ (fun h => hj (Fin.ext h.symm))
  have ha : src.action = (s.trip.sources[i]).action := by rw [hs]
  simp only [State.ConditionTaken, State.moveSource_eq, ne_eq, hc, not_false_eq_true, hb, true_and, and_self, if_true]
  refine ⟨?_, hne, ?_⟩
  · simpa using hs
  · by_cases h : (s.trip.sources[i]).action = .ignore <;> simp [ha, TripUnit.slotSet]

/-- What a condition handed on does (R150, R151, R153, R154, R159). -/
theorem State.setCondition_taken (s : State) (i : Fin 15) (b : Bool) : s.ConditionTaken (s.setCondition i b) i b := by
  by_cases h : (s.trip.sources[i]).condition = b
  · simp [State.ConditionTaken, State.setCondition, ← h]
  · rw [State.setCondition, if_neg h]
    cases b
    · rw [if_neg Bool.false_ne_true, State.release]
      by_cases ha : (s.trip.sources[i]).state = .active
      · rw [if_pos ha]
        refine s.moveSource_taken i _ false h (.inr ha) ?_
        simp
        cases (s.trip.sources[i]).action <;> simp [Action.stops]
      · rw [if_neg ha]
        have hm : ¬ ((s.trip.sources[i]).condition ≠ false ∧ (false = true ∨ (s.trip.sources[i]).state = .active)) :=
          fun e => ha (e.2.resolve_left Bool.false_ne_true)
        simp only [State.ConditionTaken, hm, if_false, false_and]
        refine ⟨by simp [TripUnit.putSource], fun j hj => ?_, rfl, rfl, ?_, rfl⟩
        · exact Vector.getElem_set_ne i.isLt j.isLt (fun e => hj (Fin.ext e.symm))
        · simp
    · rw [if_pos rfl, State.activate]
      exact s.moveSource_taken i _ true h (.inl rfl) (by simp [saturate])

/-- What a trip effect on the state with a slot replaced and a slot set stored is on the state itself. -/
theorem State.conditionTaken_of (s v u : State) (i : Fin 15) (b : Bool) (hs : v.trip.sources = s.trip.sources)
    (hi : v.trip.inputs = s.trip.inputs) (hl : v.trip.level = s.trip.level) (hq : v.seq = s.seq)
    (hb : v.bus.changes = s.bus.changes) (hn : v.notice = s.notice) (h : v.ConditionTaken u i b) : s.ConditionTaken u i b := by
  simpa only [State.ConditionTaken, hs, hi, hl, hq, hb, hn] using h

/-- A slot replaced touches nothing that the trip unit or the notices hold. -/
theorem State.putSlot_tripStands (s : State) (k : Slot) (v : SlotState) : s.TripStands (s.putSlot k v) := by
  simp [State.TripStands, State.putSlot]

/-- DRIVE_LOST handed on with a set (R152). -/
theorem State.setLostSet_taken (s : State) (m : BitVec 4) : s.SlotSetTaken (s.setLostSet m) 14 True m := by
  refine ⟨fun _ => ?_, fun h => (h trivial).elim⟩
  by_cases hm : m = 0
  · simp only [State.setLostSet, hm, if_true]
    refine ⟨s.setCondition_taken 14 false, ?_, ?_⟩ <;> simp [TripUnit.slotSet]
  · simp only [State.setLostSet, hm, if_false, ne_eq, not_false_eq_true, decide_true]
    refine ⟨?_, ?_, ?_⟩
    · exact s.conditionTaken_of (s.setTrip { s.trip with lostSet := m }) _ 14 true rfl rfl rfl rfl rfl rfl
        (State.setCondition_taken _ 14 true)
    · simp [TripUnit.slotSet]
    · intro j hj
      have : j.val ≠ 14 := fun e => hj (Fin.ext e)
      simp [TripUnit.slotSet, this]

/-- DRIVE_FAULT handed on with a set (R152). -/
theorem State.setFaultSet_taken (s : State) (m : BitVec 4) : s.SlotSetTaken (s.setFaultSet m) 13 True m := by
  refine ⟨fun _ => ?_, fun h => (h trivial).elim⟩
  by_cases hm : m = 0
  · simp only [State.setFaultSet, hm, if_true]
    refine ⟨s.setCondition_taken 13 false, ?_, ?_⟩ <;> simp [TripUnit.slotSet]
  · simp only [State.setFaultSet, hm, if_false, ne_eq, not_false_eq_true, decide_true]
    refine ⟨?_, ?_, ?_⟩
    · exact s.conditionTaken_of (s.setTrip { s.trip with faultSet := m }) _ 13 true rfl rfl rfl rfl rfl rfl
        (State.setCondition_taken _ 13 true)
    · simp [TripUnit.slotSet]
    · intro j hj
      have : j.val ≠ 13 := fun e => hj (Fin.ext e)
      simp [TripUnit.slotSet, this]

/-- What a slot set handed on from a state with the same trip unit, sequencer, changes and notices does. -/
theorem State.slotSetTaken_of (s v u : State) (i : Fin 15) (m : BitVec 4) (c : Prop) (hc : c) (h : s.TripStands v)
    (ht : v.SlotSetTaken u i True m) : s.SlotSetTaken u i c m := by
  obtain ⟨h1, h2, h3, h4⟩ := h
  obtain ⟨a, b, d⟩ := ht.1 trivial
  refine ⟨fun _ => ⟨?_, by simpa only [h1] using b, by simpa only [h1] using d⟩, fun hn => (hn hc).elim⟩
  exact s.conditionTaken_of v u i _ (by rw [h1]) (by rw [h1]) (by rw [h1]) h2 h3 h4 a

/-- A lost flag set (R134): the set of lost slots is handed on where the flag changed. -/
theorem State.setLost_taken (s : State) (k : Slot) (b : Bool) :
    s.SlotSetTaken (s.setLost k b) 14 ((s.bus.get k).lost ≠ b) (s.setLost k b).bus.lostSlots := by
  by_cases h : (s.bus.get k).lost = b
  · simp [State.setLost, h, State.SlotSetTaken, State.TripStands]
  · have hb : (s.setLost k b).bus.lostSlots = (s.putSlot k { s.bus.get k with lost := b }).bus.lostSlots := by
      simp [State.setLost, h, State.setLostSet, Bus.lostSlots]
      split <;> simp
    rw [hb]
    simp only [State.setLost, h, if_false]
    exact s.slotSetTaken_of _ _ 14 _ _ h (s.putSlot_tripStands _ _) (State.setLostSet_taken _ _)

/-- A fault flag set (R135): the set of faulted slots is handed on where the flag changed. -/
theorem State.setFault_taken (s : State) (k : Slot) (b : Bool) :
    s.SlotSetTaken (s.setFault k b) 13 ((s.bus.get k).fault ≠ b) (s.setFault k b).bus.faultSlots := by
  by_cases h : (s.bus.get k).fault = b
  · simp [State.setFault, h, State.SlotSetTaken, State.TripStands]
  · have hb : (s.setFault k b).bus.faultSlots = (s.putSlot k { s.bus.get k with fault := b }).bus.faultSlots := by
      simp [State.setFault, h, State.setFaultSet, Bus.faultSlots]
      split <;> simp
    rw [hb]
    simp only [State.setFault, h, if_false]
    exact s.slotSetTaken_of _ _ 13 _ _ h (s.putSlot_tripStands _ _) (State.setFaultSet_taken _ _)

/-- A following flag set (R137): a change is handed on as the axis's source. -/
theorem State.setFollowing_taken (s : State) (k : Slot) (b : Bool) :
    (∀ i, k.followSource = some i → (s.bus.get k).following ≠ b → s.ConditionTaken (s.setFollowing k b) i b) ∧
    (k.followSource = none ∨ (s.bus.get k).following = b → s.setFollowing k b = s) := by
  refine ⟨fun i hi h => ?_, ?_⟩
  · simp only [State.setFollowing, hi, h, if_false]
    obtain ⟨h1, h2, h3, h4⟩ := s.putSlot_tripStands k { s.bus.get k with following := b }
    exact s.conditionTaken_of _ _ i b (by rw [h1]) (by rw [h1]) (by rw [h1]) h2 h3 h4 (State.setCondition_taken _ i b)
  · rintro (h | h)
    · simp [State.setFollowing, h]
    · simp only [State.setFollowing, h, if_true]
      split <;> rfl
/-! ## The stroke unit -/

/-- The stroke after a stop request's transition (R93). -/
theorem State.stopStroke_spec (s : State) :
    (s.stroke.state ∈ [StrokeState.starting, .running, .stalled] →
      s.stopStroke.stroke = { s.stroke with
        state := .stopping, startTimer := none, stopTimer := some s.settings.params.strokeStopTimeout, good := 0, slow := 0 }) ∧
    (s.stroke.state ∈ [StrokeState.stopping, .stopped] → s.stopStroke = s) := by
  cases h : s.stroke.state <;> simp [State.stopStroke, State.enterStopping, h]

/-- The failure of a tare (R110): none in flight, nothing; else FAILED, the record gone, and the stroke stopped where it was the tare's
own and the engine rests (R111). -/
theorem State.failTare_spec (s : State) :
    (s.stroke.tareInFlight = false → s.failTare = s) ∧
    (s.stroke.tareInFlight = true →
      s.failTare.stroke.tareState = .failed ∧ s.failTare.stroke.tare = none ∧
      s.failTare.notice.tareDone = Pending.coalesce s.notice.tareDone ⟨.failed, s.settings.params.airFigure⟩) ∧
    s.failTare.stroke.tareInFlight = false ∧
    (s.stroke.state ∈ [StrokeState.stopping, .stopped] → s.failTare.stroke.state = s.stroke.state ∧
      s.failTare.stroke.stopTimer = s.stroke.stopTimer ∧ s.failTare.stroke.startTimer = s.stroke.startTimer ∧
      s.failTare.stroke.good = s.stroke.good ∧ s.failTare.stroke.slow = s.stroke.slow) := by
  cases ht : s.stroke.tareInFlight
  · simp [State.failTare, ht]
  · simp only [State.failTare, ht, if_true, State.endTare]
    simp only [State.noteTareDone_frame, State.setStroke_stroke]
    cases hr : s.stroke.tare with
    | none => simp [State.noteTareDone, StrokeUnit.tareInFlight]
    | some t =>
      dsimp only
      split
      · cases hs : s.stroke.state <;>
          simp [State.stopStroke, State.enterStopping, State.noteTareDone, StrokeUnit.tareInFlight]
      · simp [State.noteTareDone, StrokeUnit.tareInFlight]

/-- The stroke after a start request (R92, R99). -/
theorem State.strokeStart_spec (s : State) :
    (s.stroke.state ∈ [StrokeState.stopped, .stopping] →
      s.strokeStart.stroke.state = .starting ∧ s.strokeStart.stroke.stopTimer = none ∧
      s.strokeStart.stroke.startTimer = some s.settings.params.strokeStartTimeout ∧ s.strokeStart.stroke.good = 0) ∧
    (s.stroke.state ∈ [StrokeState.starting, .running, .stalled] → s.strokeStart = s) ∧
    (s.stroke.stall = false →
      s.strokeStart.trip = s.trip ∧ s.strokeStart.bus = s.bus ∧ s.strokeStart.seq = s.seq ∧
      s.strokeStart.notice = s.notice) := by
  cases h : s.stroke.state <;> simp [State.strokeStart, State.strokeStart.start, h]
  simp only [State.setStall]
  split
  · simp
  · rename_i hx
    simp
    intro h1
    exact absurd h1 hx

/-- The stroke after a stop request (R93, R110). -/
theorem State.strokeStop_spec (s : State) :
    (s.stroke.state ∈ [StrokeState.starting, .running, .stalled] →
      s.strokeStop.stroke.state = .stopping ∧ s.strokeStop.stroke.startTimer = none ∧
      s.strokeStop.stroke.stopTimer = some s.settings.params.strokeStopTimeout ∧ s.strokeStop.stroke.good = 0 ∧
      s.strokeStop.stroke.slow = 0 ∧ s.strokeStop.stroke.tareInFlight = false) ∧
    (s.stroke.state ∈ [StrokeState.stopping, .stopped] → s.strokeStop = s) := by
  have hf := State.failTare_spec s.stopStroke
  have hs := State.stopStroke_spec s
  cases h : s.stroke.state <;> simp_all [State.strokeStop]

/-! ## The sequencer -/

/-- The engine entered, and the record of the change (R87). -/
theorem State.enterEngine_spec (s : State) (e : Engine) (c : Cause) (p : Option Interrupted) :
    (s.enterEngine e c p).seq = { s.seq with engine := e } ∧
    (s.seq.engine = e → s.enterEngine e c p = s) ∧
    (s.seq.engine ≠ e → (s.enterEngine e c p).notice =
      { s.notice with engineState := Pending.coalesce s.notice.engineState ⟨e, s.seq.engine, c, p⟩ }) := by
  simp only [State.enterEngine]
  split <;> rename_i h
  · simp [h]
    rcases hs : s.seq with ⟨⟩; simp_all
  · simp [h, State.noteEngine]

/-- The head completed: it has left, the new head's turn is pending when its junction is PIVOT (R19, R49, R65). -/
theorem State.completeHead_spec (s : State) (r : Record) (rest : List Record) (h : s.queue.records = r :: rest) :
    s.completeHead.queue = ⟨rest, s.queue.tail⟩ ∧
    s.completeHead.interp = { s.interp with progress := 0, turnPending := (rest.head?.map Record.turns).getD false } ∧
    s.completeHead.notice.segmentDone =
      (if r.report then Pending.coalesce s.notice.segmentDone r.tag else s.notice.segmentDone) := by
  simp only [State.completeHead, h]
  repeat' split
  all_goals simp_all [State.noteSegmentDone, State.noteQueueLow]

/-- The engine in RUNNING, PIVOTING or DWELLING, and the stroke start that goes with it (R72, R87). -/
theorem State.enterProgram_spec (s : State) (e : Engine) (c : Cause) :
    (s.enterProgram e c).seq.engine = e ∧
    (s.enterProgram e c).stroke = (if s.seq.engine.runsProgram then s else s.strokeStart).stroke ∧
    (s.enterProgram e c).trip = (if s.seq.engine.runsProgram then s else s.strokeStart).trip ∧
    (s.enterProgram e c).bus = (if s.seq.engine.runsProgram then s else s.strokeStart).bus ∧
    (s.enterProgram e c).notice.engineState =
      (if s.seq.engine = e then s.notice.engineState
       else Pending.coalesce s.notice.engineState ⟨e, s.seq.engine, c, none⟩) := by
  simp only [State.enterProgram]
  have h1 := State.enterEngine_spec (if s.seq.engine.runsProgram then s else s.strokeStart) e c none
  have h2 : (if s.seq.engine.runsProgram then s else s.strokeStart).seq.engine = s.seq.engine := by split <;> simp
  have h3 : (if s.seq.engine.runsProgram then s else s.strokeStart).notice.engineState = s.notice.engineState := by
    split <;> simp
  refine ⟨by rw [h1.1], by simp, by simp, by simp, ?_⟩
  by_cases h : s.seq.engine = e
  · rw [h1.2.1 (h2.trans h), h3, if_pos h]
  · rw [h1.2.2 (by rw [h2]; exact h), if_neg h]
    simp [h2, h3]

/-- The dispatch on a moving record whose turn is made (R70). -/
theorem State.dispatch_running (s : State) (c : Cause) (keep : Bool) (r : Record) (rest : List Record) (m : Moving)
    (hq : s.queue.records = r :: rest) (hb : r.body = .moving m) (hp : s.interp.turnPending = false) :
    s.dispatch c keep = s.enterProgram .running c := by
  simp [State.dispatch, hq, hb, hp]

/-- The dispatch on a moving record whose turn is pending (R70, R58). -/
theorem State.dispatch_pivoting (s : State) (c : Cause) (keep : Bool) (r : Record) (rest : List Record) (m : Moving)
    (hq : s.queue.records = r :: rest) (hb : r.body = .moving m) (hp : s.interp.turnPending = true) :
    s.dispatch c keep = (s.setInterp { s.interp with
      feed := 0, turn := some ⟨decide (0 < m.turn), m.turn.natAbs⟩ }).enterProgram .pivoting c := by
  simp [State.dispatch, hq, hb, hp, State.pivotStart]

/-- The dispatch on a DWELL (R70). -/
theorem State.dispatch_dwelling (s : State) (c : Cause) (keep : Bool) (r : Record) (rest : List Record) (d : Nat)
    (hq : s.queue.records = r :: rest) (hb : r.body = .dwell d) :
    s.dispatch c keep = (if keep then s else s.setSeq { s.seq with dwellCount := 0 }).enterProgram .dwelling c := by
  simp [State.dispatch, hq, hb, State.setDwell]

/-- The dispatch on an END (R71). -/
theorem State.dispatch_end (s : State) (c : Cause) (keep : Bool) (r : Record) (rest : List Record)
    (hq : s.queue.records = r :: rest) (hb : r.body = .programEnd) :
    s.dispatch c keep = (if s.seq.engine = .idle then s.completeHead
      else (s.completeHead.strokeStop.setResume none).enterEngine .idle c none) := by
  simp [State.dispatch, hq, hb, State.endReached]

/-- The dispatch on an empty queue (R70, R85). -/
theorem State.dispatch_starved (s : State) (c : Cause) (keep : Bool) (hq : s.queue.records = []) :
    s.dispatch c keep = s.enterStarved := by
  simp [State.dispatch, hq]

/-- The entry into STARVED (R85). -/
theorem State.enterStarved_spec (s : State) :
    s.enterStarved.seq.engine = .starved ∧
    (0 < s.settings.params.starveTimeout →
      s.enterStarved.seq.starve = .running s.settings.params.starveTimeout ∧ s.enterStarved.stroke = s.stroke) ∧
    (s.settings.params.starveTimeout = 0 →
      s.enterStarved.seq.starve = .expired ∧ s.enterStarved.stroke.state ≠ .running) ∧
    s.enterStarved.notice.engineState =
      (if s.seq.engine = .starved then s.notice.engineState
       else Pending.coalesce s.notice.engineState ⟨.starved, s.seq.engine, .starve, none⟩) := by
  have h1 := State.enterEngine_spec s .starved .starve none
  simp only [State.enterStarved]
  have h4 : (s.enterEngine .starved .starve none).notice.engineState =
      (if s.seq.engine = .starved then s.notice.engineState
       else Pending.coalesce s.notice.engineState ⟨.starved, s.seq.engine, .starve, none⟩) := by
    split <;> rename_i h
    · rw [h1.2.1 h]
    · rw [h1.2.2 h]
  split <;> rename_i h
  · simp only [State.params_settings] at h
    have h5 := State.strokeStop_spec ((s.enterEngine .starved .starve none).setStarve .expired)
    have h6 : (((s.enterEngine .starved .starve none).setStarve .expired).strokeStop).stroke.state ≠ .running := by
      cases hst : s.stroke.state <;> simp_all
    refine ⟨?_, fun h' => absurd h' (by omega), fun _ => ⟨?_, h6⟩, ?_⟩ <;> simp [State.setStarve, h1.1, h4]
  · simp only [State.params_settings] at h
    refine ⟨?_, fun _ => ⟨?_, ?_⟩, fun h' => absurd h' h, ?_⟩ <;> simp [State.setStarve, h1.1, h4]

/-- The flush of a CANCEL outside IDLE: report, queue and tail, stroke stop, IDLE (R69, R77, R83). -/
theorem State.cancelFlush_spec (s : State) (c : Cause) :
    (s.cancelFlush c).seq = { s.seq with
      engine := .idle, resume := none, starve := .stopped, dwellCount := 0, interrupted := some s.report } ∧
    (s.cancelFlush c).queue = ⟨[], ⟨s.interp.x, s.interp.y, s.interp.heading, s.queue.tail.feed⟩⟩ ∧
    (s.cancelFlush c).interp = { s.interp with progress := 0, turnPending := false } ∧
    (s.seq.engine ≠ .idle → (s.cancelFlush c).notice.engineState =
      Pending.coalesce s.notice.engineState ⟨.idle, s.seq.engine, c, some s.report⟩) ∧
    (s.stroke.state ∈ [StrokeState.starting, .running, .stalled] →
      (s.cancelFlush c).stroke.state = .stopping ∧
      (s.cancelFlush c).stroke.stopTimer = some s.settings.params.strokeStopTimeout) ∧
    (s.stroke.state ∈ [StrokeState.stopping, .stopped] → (s.cancelFlush c).stroke = s.stroke) := by
  have hstop := State.strokeStop_spec (State.flush (s.setSeq { s.seq with interrupted := some s.report }))
  have hseq : (State.strokeStop (State.flush (s.setSeq { s.seq with interrupted := some s.report }))).seq =
      { s.seq with interrupted := some s.report } := by simp
  have hn : (State.strokeStop (State.flush (s.setSeq { s.seq with interrupted := some s.report }))).notice.engineState =
      s.notice.engineState := by simp
  simp only [State.cancelFlush]
  generalize hx : State.strokeStop (State.flush (s.setSeq { s.seq with interrupted := some s.report })) = x at *
  have h9 := fun y : State => State.enterEngine_spec y .idle c (some s.report)
  have hq : x.queue = ⟨[], ⟨s.interp.x, s.interp.y, s.interp.heading, s.queue.tail.feed⟩⟩ ∧
    x.interp = { s.interp with progress := 0, turnPending := false } := by
    subst hx; simp [State.flush]
  refine ⟨?_, ?_, ?_, ?_, ?_, ?_⟩
  · rw [(h9 _).1]; simp [hseq]
  · simp [hq]
  · simp [hq]
  · intro he
    rw [(h9 _).2.2 (by simpa [hseq] using he)]; simp [hn, hseq]
  · intro he
    have := hstop.1 (by simpa using he)
    simp [this]
  · intro he
    have := hstop.2 (by simpa using he)
    simp [this]

/-! ## The end of an event -/

/-- Only the link, the notice unit, the outputs and the two-wire line change at the end of an event; the outputs and the line then follow
(R160, R184, R189). -/
theorem State.commit_spec (s : State) :
    s.commit = { s with
      link := s.commit.link, notice := s.commit.notice, outputs := s.commit.outputsOf, attnFalls := s.commit.attnFalls
      twoWire := s.twoWireOf } := by
  simp only [State.commit, State.offerTransmit]
  repeat' split
  all_goals rfl

end Sys2Proof.Machine
end

