-- ==== Sys2Proof/Laws/Settings.lean ====
section
/-! SUPPORT. The EEPROM image (R187, R190): its test is that of the grounds that R190 names, and a good image reads back part by part. -/

namespace Sys2Proof.Machine

/-- The parameters of an image whose ranges depend on each other (R185). -/
theorem imageParams_angles (im : List Byte) :
    (imageParams im).softXMin = readInt im 5 ∧ (imageParams im).softXMax = readInt im 9 ∧
    (imageParams im).softYMin = readInt im 13 ∧ (imageParams im).softYMax = readInt im 17 ∧
    (imageParams im).blendAngle = (readInt im 41).toNat ∧ (imageParams im).pivotLimit = (readInt im 45).toNat :=
  ⟨rfl, rfl, rfl, rfl, rfl, rfl⟩

/-- The test of the parameters' ranges is that of R185's table. -/
theorem imageRanges_iff (im : List Byte) :
    (paramNumbers.all fun n =>
      decide ((paramRange n).1 ≤ readInt im (imageParamAt n) ∧ readInt im (imageParamAt n) ≤ (paramRange n).2)) = true ↔
    ∀ n lo hi dflt, (n, lo, hi, dflt) ∈ parameterTable →
      lo ≤ readInt im (5 + 4 * (n - 1)) ∧ readInt im (5 + 4 * (n - 1)) ≤ hi := by
  have h : parameterTable.map (fun r => (r.1, r.2.1, r.2.2.1)) =
      paramNumbers.map fun n => (n, (paramRange n).1, (paramRange n).2) := by decide
  rw [List.all_eq_true]
  simp only [decide_eq_true_eq]
  constructor
  · intro ha n lo hi dflt hm
    have : (n, lo, hi) ∈ paramNumbers.map fun n => (n, (paramRange n).1, (paramRange n).2) := by
      rw [← h]; exact List.mem_map.2 ⟨_, hm, rfl⟩
    obtain ⟨k, hk, he⟩ := List.mem_map.1 this
    cases he
    exact ha _ hk
  · intro ha n hn
    have : (n, (paramRange n).1, (paramRange n).2) ∈ parameterTable.map (fun r => (r.1, r.2.1, r.2.2.1)) := by
      rw [h]; exact List.mem_map.2 ⟨n, hn, rfl⟩
    obtain ⟨⟨k, lo, hi, d⟩, hk, he⟩ := List.mem_map.1 this
    simp only [Prod.mk.injEq] at he
    obtain ⟨rfl, rfl, rfl⟩ := he
    exact ha _ _ _ d hk

/-- The fields of a band entry lie in their ranges (R114). -/
theorem BandEntry.inRange_iff (e : BandEntry) : e.inRange = true ↔
    1 ≤ e.ceiling ∧ e.ceiling ≤ 65535 ∧ 50 ≤ e.bite ∧ e.bite ≤ 4000 ∧ 200 ≤ e.frequency ∧ e.frequency ≤ 1200 ∧
      10 ≤ e.feedCap ∧ e.feedCap ≤ 5000 := by
  simp only [BandEntry.inRange, Bool.and_eq_true, and_assoc]
  refine Iff.trans (and_congr decide_eq_true_iff (and_congr decide_eq_true_iff (and_congr decide_eq_true_iff
    decide_eq_true_iff))) ?_
  simp only [and_assoc]

/-- The entries of an image's band table are its eight bands. -/
theorem mem_imageBands (im : List Byte) (p : BandEntry → Prop) :
    (∀ e ∈ (imageBands im).toList, p e) ↔ ∀ j, j < 8 → p (imageBand im j) := by
  constructor
  · intro h j hj
    refine h _ ?_
    interval_cases j <;> simp [imageBands]
  · intro h e he
    simp [imageBands] at he
    rcases he with rfl | rfl | rfl | rfl | rfl | rfl | rfl | rfl <;> exact h _ (by decide)

/-- The ceilings of an image ascend (R114). -/
theorem imageBands_ascend (im : List Byte) : ceilingsAscend (imageBands im) = true ↔
    ∀ j, j < 7 → readNat im (117 + 8 * j) 2 < readNat im (117 + 8 * (j + 1)) 2 := by
  simp only [ceilingsAscend, Bool.and_eq_true, and_assoc]
  refine Iff.trans (and_congr decide_eq_true_iff (and_congr decide_eq_true_iff (and_congr decide_eq_true_iff
    (and_congr decide_eq_true_iff (and_congr decide_eq_true_iff (and_congr decide_eq_true_iff decide_eq_true_iff))))))
    ⟨?_, fun h => ⟨h 0 (by decide), h 1 (by decide), h 2 (by decide), h 3 (by decide), h 4 (by decide), h 5 (by decide),
      h 6 (by decide)⟩⟩
  rintro ⟨a, b, c, d, e, f, g⟩ j hj
  interval_cases j
  exacts [a, b, c, d, e, f, g]

/-- The test of the settings load (R190) is that of the grounds it names. -/
theorem imageGood_iff (im : List Byte) : (imageHeaderGood im && imageDataGood im) = true ↔ ImageGood im := by
  have hr := imageRanges_iff im
  obtain ⟨h1, h2, h3, h4, h5, h6⟩ := imageParams_angles im
  simp only [imageHeaderGood, imageDataGood, ImageGood, Bool.and_eq_true, hr, h1, h2, h3, h4, h5, h6, and_assoc,
    beq_iff_eq, List.all_eq_true, List.mem_range, decide_eq_true_eq]
  have hg : (∀ n lo hi dflt, (n, lo, hi, dflt) ∈ parameterTable →
      lo ≤ readInt im (5 + 4 * (n - 1)) ∧ readInt im (5 + 4 * (n - 1)) ≤ hi) →
      ((readInt im 41).toNat ≤ (readInt im 45).toNat ↔ readInt im 41 ≤ readInt im 45) := by
    intro h
    have h10 := (h 10 0 2048 364 (by decide)).1
    have h11 := (h 11 0 32768 16384 (by decide)).1
    simp only [Nat.reduceSub, Nat.reduceMul, Nat.reduceAdd] at h10 h11
    omega
  constructor
  · rintro ⟨a1, a2, a3, b, c, d, e, f, g, i, j, k, l⟩
    refine ⟨a1, a2, a3, b, j, k, (hg b).1 l,
      fun n hn => (BandEntry.inRange_iff _).1 ((mem_imageBands im _).1 c n hn), (imageBands_ascend im).1 d,
      fun n hn => ⟨e n hn, fun h => ?_⟩, fun n hn => ⟨g n hn, i n hn⟩⟩
    obtain ⟨m, rfl⟩ := Nat.exists_eq_add_of_le h
    have h := f m (by omega)
    rwa [show 191 + m = 181 + (10 + m) by omega] at h
  · rintro ⟨a1, a2, a3, b, j, k, l, c, d, e, g⟩
    refine ⟨a1, a2, a3, b, (mem_imageBands im _).2 fun n hn => (BandEntry.inRange_iff _).2 (c n hn),
      (imageBands_ascend im).2 d, fun n hn => (e n hn).1,
      fun n hn => ?_, fun n hn => (g n hn).1, fun n hn => (g n hn).2, j, k,
      (hg b).2 l⟩
    have h := (e (10 + n) (by omega)).2 (by omega)
    rwa [show 181 + (10 + n) = 191 + n by omega] at h

/-- The parameters 1 to 28 of a good image are those of its 4-byte fields (R187). -/
theorem imageParams_get (im : List Byte) (h : ImageGood im) (n : Nat) (h1 : 1 ≤ n) (h2 : n ≤ 28) :
    (imageParams im).get n = some (readInt im (5 + 4 * (n - 1))) := by
  have hr : ∀ k lo hi d, (k, lo, hi, d) ∈ parameterTable → lo ≤ readInt im (5 + 4 * (k - 1)) ∧
      readInt im (5 + 4 * (k - 1)) ≤ hi := h.2.2.2.1
  have nat : ∀ k, 5 ≤ k → k ≤ 28 → ((readInt im (imageParamAt k)).toNat : Int) = readInt im (5 + 4 * (k - 1)) := by
    intro k h5 h28
    have hm : ∀ k < 29, 5 ≤ k → ∃ r ∈ parameterTable, r.1 = k ∧ 0 ≤ r.2.1 := by decide
    obtain ⟨⟨_, lo, hi, d⟩, hm, rfl, hl⟩ := hm k (by omega) h5
    exact Int.toNat_of_nonneg (le_trans hl (hr _ lo hi d hm).1)
  by_cases h20 : n = 20
  · subst h20
    have hb := hr 20 0 7 7 (by decide)
    have e : (imageParams im).get 20 = some (((readInt im (imageParamAt 20)).toNat % 8 : Nat) : Int) := rfl
    rw [e, imageParamAt, Option.some.injEq]
    omega
  by_cases h26 : n = 26
  · subst h26
    have hb := hr 26 0 15 15 (by decide)
    have e : (imageParams im).get 26 = some ((BitVec.ofInt 4 (readInt im (imageParamAt 26))).toNat : Int) := rfl
    rw [e, imageParamAt, BitVec.toNat_ofInt, Option.some.injEq]
    omega
  by_cases h27 : n = 27
  · subst h27
    have hb := hr 27 0 1 0 (by decide)
    have e : (imageParams im).get 27 = some (if decide (readInt im (imageParamAt 27) ≠ 0) then 1 else 0) := rfl
    rw [e, imageParamAt]
    by_cases hz : readInt im (5 + 4 * (27 - 1)) = 0
    · simp [hz]
    · simp only [hz, ne_eq, not_false_eq_true, decide_true, if_true, Option.some.injEq]
      omega
  by_cases h4 : n ≤ 4
  · interval_cases n <;> rfl
  · have hn := nat n (by omega) h2
    rw [← hn]
    interval_cases n
    all_goals first
      | rfl
      | contradiction

end Sys2Proof.Machine
end

