-- ==== Sys2Proof/WellFormed.lean ====
section
/-! DEFINITION. Which commands can reach the part at all: the checks on operands that no rule of the spec refuses
because the line or the bus cannot carry them. The model gives every command a meaning, well formed or not. -/

namespace Sys2Proof

/-- The operands are ones the FC740's lines can carry: a SEGMENTS body has at most 248 bytes (R164); the read transfer
of the settings load sends four bytes and reads 230 (R190). Every other operand has the width of its
field, so every value of it can arrive. -/
def Instr.wellFormed : Instr → Bool
  | .settingsLoad acked image => decide (acked ≤ 4) && decide (image.length = 230)
  | .segments _ body => decide (body.length ≤ 248)
  | .sidxPulse _ => true
  | .powerOnReset _ _ => true
  | .lineReset => true
  | .lineResetRelease => true
  | .frameBegin => true
  | .dwellExpiry => true
  | .starveTimerExpiry => true
  | .returnWindowClose => true
  | .driveReturn _ _ _ => true
  | .startTimerExpiry => true
  | .stopTimerExpiry => true
  | .lfqPulse => true
  | .windowOverflow => true
  | .inputLineChange _ _ => true
  | .debounceExpiry _ => true
  | .levelRiseHold => true
  | .levelRiseHalt => true
  | .levelRiseQuickStop => true
  | .levelFall => true
  | .busLevelChange => true
  | .frameReceived _ => true
  | .lengthByteRefused _ => true
  | .gapTimeout => true
  | .transmitEnd => true
  | .blinkToggle => true
  | .savePageWritten => true
  | .savePollTimeout => true
  | .saveByteRefused => true
  | .ident _ => true
  | .status _ => true
  | .start _ => true
  | .hold _ => true
  | .resume _ => true
  | .cancel _ => true
  | .recover _ => true
  | .override _ _ => true
  | .setParam _ _ _ => true
  | .getParam _ _ => true
  | .setBand _ _ _ _ _ _ => true
  | .getBand _ _ => true
  | .setTrip _ _ _ _ _ => true
  | .getTrips _ => true
  | .clearTrips _ => true
  | .tare _ => true
  | .noticeMask _ _ => true
  | .lamps _ _ _ _ => true
  | .save _ => true
  | .reset _ => true
  | .linkByteReceived _ => true

end Sys2Proof
end

