-- ==== Sys2Proof/Tests/Slice0.lean ====
section
/-! SUPPORT. The model's own tests: the smoke test of WellFormed, the data book's worked examples step by step, and for every statement
with hypotheses a state and operands that meet them. -/

namespace Sys2Proof.Tests

-- One kernel evaluation at a time: together they ask for more threads and memory than the checks allow.
set_option Elab.async false

open Sys2Proof Sys2Proof.Machine

/-! ## Small states -/

/-- The state a command leaves. -/
def after (c : Instr) (s : State) : State :=
  match exec c s with
  | .next t => t
  | .fault _ => s
  | .refused _ => s

/-- After a start-up without an EEPROM: ROM defaults, bus in frame 0, the ENGINE_STATE notice being sent. -/
def ready : State := after (.settingsLoad 0 []) State.reset

/-- The engine state replaced. -/
def eng (e : Engine) (s : State) : State := { s with seq := { s.seq with engine := e } }

/-- The records replaced. -/
def recs (rs : List Record) (s : State) : State := { s with queue := { s.queue with records := rs } }

/-- The stroke state replaced, with the timer that goes with it. -/
def stk (k : StrokeState) (s : State) : State :=
  { s with stroke := { s.stroke with
    state := k, startTimer := if k = .starting then some 1500 else none, stopTimer := if k = .stopping then some 2000 else none } }

/-- The trip level replaced. -/
def lev (l : TripLevel) (s : State) : State := { s with trip := { s.trip with level := l } }

/-- X, Y and H adopted. -/
def adopted (s : State) : State :=
  { s with bus := { s.bus with
    x := { s.bus.x with adopted := true }, y := { s.bus.y with adopted := true }, h := { s.bus.h with adopted := true } } }

/-- The level changes handed on to the sequencer and to the master. -/
def handed (c : LevelChange) (s : State) : State :=
  { s with seq := { s.seq with changes := [c] }, bus := { s.bus with changes := [c] } }

/-- A return record of a drive with its good CRC. -/
def ret (status : Byte) (v : Int) : Instr :=
  .driveReturn status (BitVec.ofInt 32 v) (crc8 (status :: beWord (BitVec.ofInt 32 v)))

/-- A LINE along X of the given length. -/
def line (material : Bool) (junction : Junction) (length : Nat) : Record :=
  ⟨31, material, true, .moving ⟨.line, 0, 0, length, 0, 1500, length, 0, 0, 0, junction, 250000⟩⟩

def dwellRecord : Record := ⟨33, true, true, .dwell 400⟩

def endRecord : Record := ⟨35, false, true, .programEnd⟩

/-- The moving part of a line. -/
def lineBody (junction : Junction) (length : Nat) : Moving :=
  ⟨.line, 0, 0, length, 0, 1500, length, 0, 0, 0, junction, 250000⟩

/-! ## WellFormed refuses what no line can carry -/

theorem test_wellformed_refuses_five_acknowledged_bytes :
    (Instr.settingsLoad 5 (List.replicate 230 0)).wellFormed = false := by decide +kernel

theorem test_wellformed_refuses_short_image : (Instr.settingsLoad 4 (List.replicate 229 0)).wellFormed = false := by
  decide +kernel

theorem test_wellformed_refuses_long_body : (Instr.segments 1 (List.replicate 249 0)).wellFormed = false := by
  decide +kernel

theorem test_wellformed_accepts_bounds :
    (Instr.settingsLoad 4 (List.replicate 230 0)).wellFormed = true ∧
    (Instr.segments 1 (List.replicate 248 0)).wellFormed = true := by decide +kernel

/-! ## Check sums (R143, R163: the data book's own figures) -/

theorem test_crc8_of_one : crc8 [0x01] = 0x07 := by decide +kernel

theorem test_crc8_of_nine_digits : crc8 [0x31, 0x32, 0x33, 0x34, 0x35, 0x36, 0x37, 0x38, 0x39] = 0xF4 := by decide +kernel

theorem test_crc16_of_nine_digits :
    crc16 [0x31, 0x32, 0x33, 0x34, 0x35, 0x36, 0x37, 0x38, 0x39] = 0x29B1 := by decide +kernel

/-! ## Feed planning (the worked examples of 2.8, 2.9 and 2.11) -/

/-- 2.8: the exit of A is 75,000, from an arc of cap 75,000 behind a line. -/
theorem test_plan_exit_into_arc :
    activeExit 1500 [⟨1, true, false, .moving { lineBody .blend 80000 with cap := 250000 }⟩,
      ⟨2, true, false, .moving { lineBody .blend 39269 with cap := 75000 }⟩] = 75000 := by decide +kernel

/-- 2.8: the allowances of the three braking frames. -/
theorem test_plan_allowances :
    allowance 1500 75000 80000 (80000000 - 1196000) = 95984 ∧ allowance 1500 75000 80000 (80000000 - 1100016) = 94488 ∧
    allowance 1500 75000 80000 (80000000 - 1005528) = 92967 := by decide +kernel

/-- 2.9: the exit of the first of four short lines, and of five. -/
theorem test_plan_short_lines :
    (let r : Record := ⟨1, false, false, .moving { lineBody .blend 5000 with cap := 400000 }⟩
     activeExit 1500 [r, r, r, r] = 212131 ∧ activeExit 1500 [r, r, r, r, r] = 244948) := by decide +kernel

/-- 2.11: the last micrometres of a stop. -/
theorem test_plan_last_micrometres :
    allowance 1500 0 10 9999 = 1732 ∧ allowance 1500 0 10 8000 = 2449 ∧ allowance 1500 0 10 7500 = 3000 := by decide +kernel

/-! ## Acceptance (the worked example of 1.6) -/

/-- The adopted machine of 1.6 with an empty queue. -/
def batchStart : State :=
  { adopted ready with queue := ⟨[], ⟨100000, 200000, 0, 1000⟩⟩, link := { ready.link with transmitter := .free } }

/-- The six records of 1.6. -/
def batchBody : List Byte :=
  [1, 3] ++ be16 11 ++ be32 180000 ++ be32 200000 ++ be16 1500 ++
  [3, 1] ++ be16 12 ++ be32 205000 ++ be32 225000 ++ be32 0 ++ be32 25000 ++
  [1, 3] ++ be16 13 ++ be32 130000 ++ be32 225000 ++ be16 6000 ++
  [4, 1] ++ be16 14 ++ be16 800 ++
  [1, 1] ++ be16 15 ++ be32 131000 ++ be32 226000 ++
  [5, 0] ++ be16 16

/-- 1.6: CORNER_SHARP, accepted 4, clamped 1, refused tag 15, credit 124. -/
theorem test_segments_batch_reply :
    (after (.segments 9 batchBody) batchStart).link.reply = some (frameBytes 0x83 9 [0x1A, 4, 1, 0, 15, 124]) := by
  decide +kernel

/-- 1.6: lengths, entry turns, feeds, caps and the tail. -/
theorem test_segments_batch_queue :
    let t := after (.segments 9 batchBody) batchStart
    (t.queue.records.map fun r => match r.body with
      | .moving m => (m.length, m.turn, m.feed, m.cap)
      | .dwell d => (d, 0, 0, 0)
      | .programEnd => (0, 0, 0, 0)) =
      [(80000, 0, 1500, 250000), (39269, 0, 1500, 100000), (75000, 16384, 2500, 250000), (800, 0, 0, 0)] ∧
    t.queue.tail = ⟨130000, 225000, 32768, 2500⟩ := by decide +kernel

/-! ## Interpolation (the worked examples of 3.8 and 3.9) -/

/-- Record 12 of 1.6: the counterclockwise quarter arc. -/
def quarterArc : Option Record := (after (.segments 9 batchBody) batchStart).queue.records[1]?

/-- 3.8: the poses 20 µm and 50 µm along the arc. -/
theorem test_pose_on_arc :
    (quarterArc.map fun r => match r.body with
      | .moving m => [m.pose 20000, m.pose 50000]
      | .dwell _ => []
      | .programEnd => []) = some [(180020, 200000, 8), (180050, 200000, 21)] := by decide +kernel

/-- The machine in the pivot of 3.9. -/
def pivotState (remaining : Nat) (heading : Half) : State :=
  let s := eng .pivoting (recs [line true .pivot 75000] (adopted ready))
  { s with interp := ⟨205000, 225000, heading, 0, 0, some ⟨true, remaining⟩, true⟩ }

/-- 3.9: the first pivot frame, and the 745th, which ends the pivot. -/
theorem test_frame_begin_pivots :
    (after .frameBegin (pivotState 16384 16384)).interp.heading = 16406 ∧
    (after .frameBegin (pivotState 16384 16384)).interp.turn = some ⟨true, 16362⟩ ∧
    (after .frameBegin (pivotState 16 32752)).interp.heading = 32768 ∧
    (after .frameBegin (pivotState 16 32752)).seq.engine = .running := by decide +kernel

/-- The carry of 3.8, on the queue of 1.6 with progress 79,990,000 nm. -/
def carryStart : State :=
  let t := after (.segments 9 batchBody) batchStart
  let s := stk .running (eng .running t)
  { s with interp := ⟨179990, 200000, 0, 30000, 79990000, none, false⟩, stroke := { s.stroke with fm := 800 } }

/-- 3.8: the carry frame leaves record 12 at the head with progress 20,000 nm and the pose of the example; the feed of the frame lies
within 1,500 of 30,000. -/
theorem test_frame_begin_carries :
    let t := after .frameBegin carryStart
    (t.queue.records.head?.map fun r => r.tag) = some 12 ∧ t.interp.progress + 10000 = t.interp.feed ∧
    t.interp.feed = 31500 := by decide +kernel

/-! ## The sequencer (4.9, 4.10) -/

theorem test_start_runs : (after (.start 1) (recs [line false .blend 100000] (adopted ready))).seq.engine = .running ∧
    (after (.start 1) (recs [line false .blend 100000] (adopted ready))).stroke.state = .starting := by decide +kernel

theorem test_dwell_expiry_reaches_end :
    let t := after .dwellExpiry (eng .dwelling (recs [dwellRecord, endRecord] (adopted ready)))
    t.seq.engine = .idle ∧ t.queue.records = [] ∧ t.notice.segmentDone = some ⟨35, 2⟩ := by decide +kernel

theorem test_hold_writes_memory :
    (after (.hold 1) (eng .pivoting ready)).seq.resume = some .running ∧
    (after (.hold 1) (eng .dwelling ready)).seq.resume = some .dwelling := by decide +kernel

theorem test_quick_stop_report :
    let s := eng .running (recs [line true .blend 141421] (adopted ready))
    let t := after .levelRiseQuickStop (handed ⟨.halt, .quickStop⟩
      { s with interp := ⟨160000, 225000, 32768, 30000, 60000999, none, false⟩ })
    t.seq.interrupted = some ⟨some (31, 60000), 160000, 225000⟩ ∧ t.queue.tail = ⟨160000, 225000, 32768, 1000⟩ := by
  decide +kernel

/-! ## The stroke unit (5.5, 5.6, 5.7) -/

/-- A stroke with an open window of eight pulses that lacks one. -/
def inWindow (k : StrokeState) (good slow c : Nat) (s : State) : State :=
  let t := stk k s
  { t with stroke := { t.stroke with good := good, slow := slow, window := some ⟨8, 7, 0, c, 0, false, true, true⟩ } }

/-- 5.5: windows 1, 2 and 3. -/
theorem test_sidx_confirms_start :
    let w1 := after (.sidxPulse 2500000) (inWindow .starting 0 0 170000 ready)
    let w2 := after (.sidxPulse 1700000) (inWindow .starting 0 0 117300 ready)
    let w3 := after (.sidxPulse 1610000) (inWindow .starting 1 0 112700 ready)
    (w1.stroke.fm, w1.stroke.lf, w1.stroke.good) = (320, 680, 0) ∧
    (w2.stroke.fm, w2.stroke.lf, w2.stroke.good) = (470, 690, 1) ∧
    (w3.stroke.fm, w3.stroke.lf, w3.stroke.state) = (496, 700, .running) := by decide +kernel

/-- 5.6: the fourth window of the tare gives 701 and stops the stroke that the tare owns. -/
theorem test_sidx_ends_tare :
    let s := inWindow .running 0 0 112000 ready
    let t := after (.sidxPulse 1600000)
      { s with stroke := { s.stroke with tareState := .measuring, tare := some ⟨true, 3, 2105, true⟩ } }
    t.settings.params.airFigure = 701 ∧ t.stroke.tareState = .doneOk ∧ t.stroke.state = .stopping ∧
    t.notice.tareDone = some ⟨⟨.ok, 701⟩, 1⟩ := by decide +kernel

/-- 5.7: windows b, c and d at f_set 800. -/
theorem test_sidx_stalls :
    let f (s : State) : State := { s with stroke := { s.stroke with fSet := 800 } }
    let b := after (.sidxPulse 1900000) (f (inWindow .running 0 0 0 ready))
    let c := after (.sidxPulse 2105264) (f (inWindow .running 0 0 0 ready))
    let d := after (.sidxPulse 2285715) (f (inWindow .running 0 1 0 ready))
    (b.stroke.fm, b.stroke.slow) = (421, 0) ∧ (c.stroke.fm, c.stroke.slow) = (379, 1) ∧
    (d.stroke.fm, d.stroke.state, d.trip.level) = (349, .stalled, .halt) := by decide +kernel

/-! ## The classifier (6.6) -/

/-- The classifier of 6.6 takes a window record of 8 strokes. -/
def classified (candidate : Option (Fin 8)) (lf distance : Nat) : State :=
  let s := { ready with
    classifier := { ready.classifier with material := 3, candidate := candidate, df := 476 }
    settings := { ready.settings with params := { Params.rom with airFigure := 700 } } }
  s.takeWindowRecord ⟨8, 750, lf, distance, true, true, true⟩

/-- 6.6: windows 1, 2, 4 and 5. -/
theorem test_classification :
    (let a := classified none 1300 10400
     (a.classifier.df, a.classifier.material, a.classifier.candidate) = (461, 3, some 4)) ∧
    (let b := classified (some 4) 1180 10400
     (b.classifier.df, b.classifier.material, b.classifier.candidate) = (369, 3, none)) ∧
    (let d := classified (some 4) 1250 600
     (d.classifier.df, d.classifier.material, d.classifier.candidate) = (476, 3, some 4)) ∧
    (let e := classified (some 4) 1310 10400
     (e.classifier.df, e.classifier.material, e.classifier.candidate) = (469, 4, none) ∧
       e.notice.band = some ⟨⟨4, 3, 469⟩, 1⟩) := by decide +kernel

/-! ## The drive bus (7.8) -/

/-- 7.8, frame 0: X adopted at 100,000; Y missed; H valid without READY; and the tail. -/
theorem test_adoption_in_frame_zero :
    let x := after (ret 1 100000) ready
    let y := after .returnWindowClose (after .returnWindowClose x)
    let h := after (ret 0 65530) y
    x.bus.x.adopted = true ∧ y.bus.y.misses = 1 ∧ h.bus.h.adopted = false ∧ h.bus.h.actual = some 65530 ∧
    h.queue.tail = ⟨100000, 0, 0, 1000⟩ ∧ h.interp.x = 100000 := by decide +kernel

theorem test_return_of_bad_crc_is_missed :
    (after (.driveReturn 1 0 (crc8 (1 :: beWord 0) + 1)) ready).bus.x.misses = 1 := by decide +kernel

/-! ## Trips and lamps (8.8, 8.9) -/

/-- 8.8: the guard door of IN3, opened and settled. -/
def doorOpen : State :=
  let s := after (.setTrip 1 3 2 0 20) (eng .running (adopted { ready with pins := ready.pins.set 3 false }))
  after (.debounceExpiry 3) (after (.inputLineChange 3 true) s)

theorem test_guard_door :
    (doorOpen.trip.sources[3]).state = .active ∧ (doorOpen.trip.sources[3]).count = 1 ∧ doorOpen.trip.level = .hold ∧
    (after .levelRiseHold doorOpen).seq.engine = .holding ∧
    ((after (.debounceExpiry 3) (after (.inputLineChange 3 false) doorOpen)).trip.sources[3]).state = .latched := by
  decide +kernel

/-- 8.9: CLEAR_TRIPS with the button still pressed: cleared 2, active 1, level QUICK_STOP. -/
theorem test_clear_trips_with_button_pressed :
    let s := { ready with trip := { ready.trip with
      sources := ((ready.trip.sources.set 0 ⟨.quickStop, true, .active, 1⟩).set 13 ⟨.quickStop, false, .latched, 1⟩).set 12
        ⟨.quickStop, false, .latched, 1⟩
      faultSet := 4, level := .quickStop } }
    let t := after (.clearTrips 7) s
    t.link.reply = some (frameBytes 0xA6 7 [0, 2, 1, 3]) ∧ t.trip.faultSet = 0 ∧
    t.notice.trip = some ⟨⟨13, .clear, .quickStop, some 0⟩, 2⟩ := by decide +kernel

/-! ## The link and the notices (9.7, 10.6) -/

/-- 9.7: the STATUS reply has 51 bytes; the fifth request behind it is lost to the inbox counter. -/
theorem test_full_inbox :
    let s1 := after (.status 5) ready
    let s5 := after (.cancel 9) (after (.hold 8) (after (.start 7) (after (.segments 6 []) s1)))
    let s6 := after (.override 10 100) s5
    (s1.link.reply.map List.length) = some 51 ∧ s5.link.inbox.length = 4 ∧ s6.link.inbox.length = 4 ∧
    s6.link.inboxCount = 1 := by decide +kernel

/-- 10.6: from SEGMENT_DONE, ROTATING finds BAND before it wraps to TRIP; FIXED finds TRIP. -/
theorem test_notice_orders :
    let n : NoticeUnit := ⟨some ⟨⟨0, .active, .quickStop, none⟩, 1⟩, some ⟨⟨.aborted, .running, .trip, none⟩, 1⟩, none, none,
      some ⟨⟨4, 3, 469⟩, 2⟩, none, none, 127, .segmentDone⟩
    n.choose true = some .band ∧ (n.handOver .band).choose true = some .trip ∧ n.choose false = some .trip := by
  decide +kernel

/-- A byte at a time: SYNC, LEN, KIND, TAG and the CRC of a STATUS request make the same reply as the request itself. -/
theorem test_bytes_make_request :
    let s := { ready with link := { ready.link with transmitter := .free } }
    let crc := be16 (crc16 [2, 0x02, 5]).toNat
    let t := ([0xC3, 2, 0x02, 5] ++ crc).foldl (fun u b => after (.linkByteReceived b) u) s
    t.link.reply = (after (.status 5) s).link.reply := by decide +kernel

/-! ## Settings and start-up (11.3) -/

/-- A snapshot that SAVE takes has 230 bytes with the marker, version and length of R187, and its parameters read back. -/
theorem test_saved_image_reads_back :
    ready.workingSet.image.length = 230 ∧ imageHeaderGood ready.workingSet.image = true ∧
    imageParams ready.workingSet.image = Params.rom ∧ imageBands ready.workingSet.image = romBands := by decide +kernel

/-- SAFE_N low, a byte not acknowledged, and a check sum that does not match, in this order. -/
theorem test_settings_sources :
    (after (.settingsLoad 4 []) (after (.powerOnReset true false) State.reset)).settings.source = .defaultSafe ∧
    (after (.settingsLoad 3 []) State.reset).settings.source = .defaultAbsent ∧
    (after (.settingsLoad 4 []) State.reset).settings.source = .defaultBadCheck ∧
    (after (.settingsLoad 4 []) State.reset).settings.present = true := by decide +kernel

theorem test_set_param_clamps :
    (after (.setParam 1 12 (BitVec.ofInt 32 (-5))) ready).settings.params.pivotRate = 1 ∧
    (after (.setParam 1 26 0xFFFFFFF7) ready).settings.params.slotMask = 7 := by decide +kernel

/-- The state a step leaves. -/
def stepped (s : State) : State :=
  match step s with
  | .next t => t
  | .fault _ => s
  | .refused _ => s

theorem test_step_runs_front_command :
    let t := stepped { ready with pending := [.blinkToggle, .frameBegin] }
    t.trip.blink = 5000000 ∧ t.pending = [.frameBegin] ∧ (stepped ready).trip.blink = 1 := by decide +kernel

/-! ## The image that SAVE writes, loaded (R188, R190): its check sum, 57 bytes at a time -/

/-- The CRC-16 carried over more bytes. -/
def crcFrom (c : Half) (bs : List Byte) : Half := bs.foldl (fun c b => crc16Bits 8 (c ^^^ highByte b)) c

def romImageBody : List Byte := ready.workingSet.body

theorem crcFrom_append (c : Half) (a b : List Byte) : crcFrom c (a ++ b) = crcFrom (crcFrom c a) b := by
  simp [crcFrom, List.foldl_append]

theorem rom_image_crc : crc16 romImageBody = 50694 := by
  have h : romImageBody = romImageBody.take 57 ++ ((romImageBody.drop 57).take 57 ++
      ((romImageBody.drop 114).take 57 ++ (romImageBody.drop 171).take 57)) := by decide +kernel
  have h1 : crcFrom 0xFFFF (romImageBody.take 57) = 27974 := by decide +kernel
  have h2 : crcFrom 27974 ((romImageBody.drop 57).take 57) = 14724 := by decide +kernel
  have h3 : crcFrom 14724 ((romImageBody.drop 114).take 57) = 61958 := by decide +kernel
  have h4 : crcFrom 61958 ((romImageBody.drop 171).take 57) = 50694 := by decide +kernel
  have e : crc16 romImageBody = crcFrom 0xFFFF romImageBody := rfl
  rw [e, h, crcFrom_append, crcFrom_append, crcFrom_append, h1, h2, h3, h4]

/-- The image of the ROM defaults. -/
def romImage : List Byte := romImageBody ++ [0xC6, 0x06]

theorem stored_of_loadSource (image : List Byte) (h : loadSource true 4 image = .stored) :
    (after (.settingsLoad 4 image) State.reset).settings.source = .stored := by
  have hp : State.reset.startup.phase = .loading := rfl
  simp only [after, exec, execSettingsLoad, done, hp, if_true, State.commit_frame, State.endLoad, State.enableLink_frame,
    State.busStart_frame, State.readInputs_frame, State.takeWorkingSet_frame, State.fillWorkingSet, State.setTrip_settings,
    State.setClassifier_settings, State.setSettings_settings]
  exact h

theorem test_hyp_settings_load_stored :
    State.reset.startup.phase = .loading ∧ ImageGood romImage ∧
    (after (.settingsLoad 4 romImage) State.reset).settings.source = .stored := by
  have hg : (imageHeaderGood romImage && imageDataGood romImage) = true := by decide +kernel
  refine ⟨rfl, (imageGood_iff _).1 hg, stored_of_loadSource _ ?_⟩
  have hc : imageCrcGood romImage = true := by
    have h1 : romImage.take 228 = romImageBody := by decide +kernel
    have h2 : readNat romImage 228 2 = 50694 := by decide +kernel
    simp [imageCrcGood, h1, h2, rom_image_crc]
  rw [Bool.and_eq_true] at hg
  simp [loadSource, hc, hg]

/-- The image of the ROM defaults with the polarity of IN0 sent as 2, under a good check sum. -/
def badPolarityBody : List Byte := romImageBody.set 196 2

theorem bad_polarity_crc : crc16 badPolarityBody = 11724 := by
  have h : badPolarityBody = romImageBody.take 57 ++ ((romImageBody.drop 57).take 57 ++
      ((romImageBody.drop 114).take 57 ++ badPolarityBody.drop 171)) := by decide +kernel
  have h1 : crcFrom 0xFFFF (romImageBody.take 57) = 27974 := by decide +kernel
  have h2 : crcFrom 27974 ((romImageBody.drop 57).take 57) = 14724 := by decide +kernel
  have h3 : crcFrom 14724 ((romImageBody.drop 114).take 57) = 61958 := by decide +kernel
  have h4 : crcFrom 61958 (badPolarityBody.drop 171) = 11724 := by decide +kernel
  have e : crc16 badPolarityBody = crcFrom 0xFFFF badPolarityBody := rfl
  rw [e, h, crcFrom_append, crcFrom_append, crcFrom_append, h1, h2, h3, h4]

/-- Four acknowledged bytes and a good check sum over an image that is not good: DEFAULT_BADDATA. -/
theorem test_hyp_settings_load_bad_data :
    let image := badPolarityBody ++ be16 11724
    State.reset.startup.safeNHigh = true ∧ (crc16 (image.take 228)).toNat = readNat image 228 2 ∧ ¬ ImageGood image ∧
    loadSource true 4 image = .defaultBadData := by
  have hg : (imageHeaderGood (badPolarityBody ++ be16 11724) && imageDataGood (badPolarityBody ++ be16 11724)) = false := by
    decide +kernel
  have h1 : (badPolarityBody ++ be16 11724).take 228 = badPolarityBody := by decide +kernel
  have h2 : readNat (badPolarityBody ++ be16 11724) 228 2 = 11724 := by decide +kernel
  have hc : (crc16 ((badPolarityBody ++ be16 11724).take 228)).toNat = readNat (badPolarityBody ++ be16 11724) 228 2 := by
    rw [h1, h2, bad_polarity_crc]
    decide
  refine ⟨rfl, hc, fun h => ?_, ?_⟩
  · rw [(imageGood_iff _).2 h] at hg
    cases hg
  · simp [loadSource, imageCrcGood, hc, hg]

/-! ## The hypotheses of the statements are met -/

/-- With the first window of a restarted bus far off, at its last cycle, and at its last cycle behind an open one. -/
theorem test_hyp_idle_step : State.reset.pending = [] ∧ State.reset.startup.phase ≠ .held ∧
    (after .lineReset State.reset).pending = [] ∧ (after .lineReset State.reset).startup.phase = .held ∧
    (let s := fun (n : Nat) (w : Option ReturnWindow) => { ready with bus := { ready.bus with opening := some ⟨.x, n⟩, window := w } }
     (after .transmitEnd ready).bus.opening = none ∧ (s 2 none).bus.opening = some ⟨.x, 2⟩ ∧ (s 1 none).bus.window = none ∧
     (s 1 (some ⟨.y, true⟩)).bus.window = some ⟨.y, true⟩) := by decide +kernel

theorem test_hyp_every_command : ∀ l f, Instr.frameBegin ≠ .powerOnReset l f := by
  intro l f h
  cases h

/-- The step of a state that has FRAME_BEGIN at the front is a next state. -/
theorem steps_on (s : State) : ∃ t, step { s with pending := [.frameBegin] } = .next t := ⟨_, rfl⟩

theorem test_hyp_level_agrees : { doorOpen with pending := [.frameBegin] }.LevelAgrees := by
  unfold State.LevelAgrees
  decide +kernel

theorem test_hyp_ceilings_ascend : { ready with pending := [.setBand 1 3 400 1300 750 2200] }.CeilingsAscend := by
  unfold State.CeilingsAscend
  decide +kernel

theorem test_hyp_queue_and_inbox :
    { recs (List.replicate 128 dwellRecord) ready with pending := [.frameBegin] }.QueueBounded ∧
    (after (.hold 8) (after (.status 5) ready)).InboxServed := by
  unfold State.QueueBounded State.InboxServed
  decide +kernel

/-- On a line of 100,000 µm at 30,000 µm/s with the stroke as given. -/
def moving (material : Bool) (k : StrokeState) (progress : Nat) : State :=
  let s := stk k (eng .running (recs [line material .blend 100000] (adopted ready)))
  { s with interp := ⟨0, 0, 0, 30000, progress, none, false⟩, stroke := { s.stroke with fm := 800 } }

theorem test_hyp_feed_moves : (moving false .running 0).FeedMoves := by
  intro _
  exact ⟨rfl, rfl, rfl, line false .blend 100000, rfl, rfl⟩

theorem test_hyp_feed_bounded : { moving false .running 0 with pending := [.frameBegin] }.FeedBounded := by
  unfold State.FeedBounded
  decide +kernel

theorem test_hyp_level_stops : (lev .hold (eng .held ready)).LevelStops := by
  intro _ _
  rfl

/-- With the automatic display; and a held part, and one with the host's display. -/
theorem test_hyp_outputs_follow : doorOpen.OutputsFollow ∧ doorOpen.startup.phase ≠ .held ∧ doorOpen.trip.green = .off ∧
    doorOpen.trip.amber = .off ∧ doorOpen.trip.red = .off ∧ (after .lineReset doorOpen).startup.phase = .held ∧
    (after (.lamps 3 0 2 1) ready).trip.amber = .blink := by
  unfold State.OutputsFollow
  decide +kernel

theorem test_hyp_ranges_and_timers :
    (stk .starting ready).GuardsStand ∧ (stk .starting ready).OverrideBounded ∧ (stk .starting ready).StrokeTimersSound ∧
    (stk .stopping ready).StrokeTimersSound := by
  unfold State.GuardsStand State.OverrideBounded State.StrokeTimersSound
  decide +kernel

theorem test_hyp_save_sound : ready.SaveSound := ⟨by decide +kernel, fun _ h => nomatch h⟩

/-- Step 2 of start-up in IDLE without an ENGINE_STATE record and with one, and after start-up. -/
theorem test_hyp_settings_load : State.reset.startup.phase = .loading ∧ ready.startup.phase ≠ .loading ∧
    State.reset.seq.engine = .idle ∧ State.reset.notice.engineState = none ∧
    (State.reset.noteIdle .held).notice.engineState ≠ none := by decide +kernel

/-- With the ENGINE_STATE class enabled and not; with a return awaited and not. -/
theorem test_hyp_host_reset :
    let s := after (.reset 4) { ready with link := { ready.link with transmitter := .free } }
    s.link.resetPending = true ∧ s.link.transmitter = .reply (frameBytes 0xBF 4 [0]) ∧ s.startup.phase = .started ∧
    s.notice.enables.getLsbD 1 = true ∧ { s.notice with enables := 0 }.enables.getLsbD 1 = false ∧
    s.bus.window = some ⟨.x, false⟩ ∧ s.bus.opening = none ∧ (after (ret 1 0) s).bus.window = some ⟨.x, true⟩ := by
  decide +kernel

/-- The slot mask of the working settings replaced. -/
def masked (m : BitVec 4) (s : State) : State :=
  { s with settings := { s.settings with params := { s.settings.params with slotMask := m } } }

/-- The state of slot X replaced. -/
def slotX (v : SlotState) (s : State) : State := { s with bus := { s.bus with x := v } }

/-- Before and after bus start; with X to be activated, carried on and, in IDLE with each of its flags true, deactivated. -/
theorem test_hyp_frame_begin :
    ready.bus.started = true ∧ State.reset.bus.started = false ∧
    (let off := slotX (SlotState.reset false) ready
     (off.bus.get .x).active = false ∧ off.settings.params.slotActive .x = true) ∧
    (ready.bus.get .x).active = true ∧ ready.settings.params.slotActive .x = true ∧
    (let s := masked 14 (slotX ⟨true, 3, some 5, true, true, true, true, 0, none, none⟩ ready)
     s.bus.started = true ∧ s.seq.engine = .idle ∧ s.stroke.state = .stopped ∧ (s.bus.get .x).active = true ∧
     s.settings.params.slotActive .x = false ∧ (s.bus.get .x).lost = true ∧ (s.bus.get .x).fault = true ∧
     (s.bus.get .x).following = true ∧ Slot.x.followSource = some 10 ∧
     ∀ j ∈ [Slot.y, .h, .s], (s.bus.get j).active = s.settings.params.slotActive j ∧ (s.bus.get j).following = false) := by
  decide +kernel

/-- A DWELL of 400 ms whose frame counts to 399 and to 400; the three timers at 2 and at 1. -/
theorem test_hyp_frame_counts :
    (let s := fun (n : Nat) => { eng .dwelling (recs [dwellRecord] ready) with
      seq := { (eng .dwelling ready).seq with dwellCount := n } }
     (s 398).bus.started = true ∧ (s 398).seq.engine = .dwelling ∧ (s 398).queue.records = [dwellRecord] ∧
     dwellRecord.body = .dwell 400 ∧ (s 398).seq.dwellCount + 1 < 400 ∧ 400 ≤ (s 399).seq.dwellCount + 1) ∧
    (let s := fun (n : Nat) => { eng .starved ready with seq := { (eng .starved ready).seq with starve := .running n } }
     (s 1).seq.engine = .starved ∧ (s 1).seq.starve = .running 1 ∧ (s 2).seq.starve = .running 2) ∧
    (stk .starting ready).stroke.state = .starting ∧ (stk .starting ready).stroke.startTimer = some 1500 ∧
    (stk .stopping ready).stroke.state = .stopping ∧ (stk .stopping ready).stroke.stopTimer = some 2000 := by decide +kernel

theorem test_hyp_stroke_undisturbed : (stk .starting ready).StrokeUndisturbed ∧ (stk .starting ready).NoExpiry := by
  have hs : (stk .starting ready).seq.engine = .idle := by decide +kernel
  have ht : (stk .starting ready).stroke.startTimer = some 1500 := by decide +kernel
  refine ⟨⟨by rw [hs]; decide, fun h => ?_, fun h => ?_, by decide +kernel, by decide +kernel⟩, fun h => ?_, fun h => ?_, ?_⟩
  case _ | _ | _ | _ => rw [hs] at h; cases h
  intro _ n hn
  rw [ht] at hn
  cases hn
  decide

/-- Both clauses, in PIVOTING and in HOLDING: PIVOT_RATE is 22. -/
theorem test_hyp_pivot_step :
    (pivotState 23 0).bus.started = true ∧ (pivotState 23 0).seq.engine = .pivoting ∧
    (pivotState 23 0).interp.turn = some ⟨true, 23⟩ ∧ (pivotState 22 0).interp.turn = some ⟨true, 22⟩ ∧
    (pivotState 22 0).settings.params.pivotRate = 22 ∧ (eng .holding (pivotState 22 0)).seq.engine = .holding ∧
    (eng .holding (pivotState 22 0)).interp.turn = some ⟨true, 22⟩ ∧ (pivotState 22 0).interp.feed = 0 := by decide +kernel

/-- On material with the stroke STARTING; and, for the allowance, a frame that stays on its record and one that carries. -/
theorem test_hyp_feed_rises :
    (moving true .starting 0).queue.records.head? = some (line true .blend 100000) ∧
    (moving true .starting 0).stroke.state ≠ .running ∧
    (let s := moving false .running 0
     s.bus.started = true ∧ s.seq.engine = .running ∧ s.interp.turn = none ∧ s.interp.turnPending = false ∧
     (after .frameBegin s).queue.records.head? = some (line false .blend 100000) ∧
     (after .frameBegin s).queue.records = s.queue.records ∧
     (line false .blend 100000).body = .moving (lineBody .blend 100000)) ∧
    (after .frameBegin carryStart).queue.records ≠ carryStart.queue.records ∧ carryStart.interp.turn = none ∧
    carryStart.interp.turnPending = false ∧ carryStart.seq.engine = .running := by decide +kernel

/-- A step within the line; one that carries 21,500 nm into a second line; and the same in HOLDING, where the feed falls. -/
theorem test_hyp_path_step :
    let a := line false .blend 100000
    let s := moving false .running 0
    let c := { recs [a, a] s with interp := ⟨99990, 0, 0, 30000, 99990000, none, false⟩ }
    s.bus.started = true ∧ s.seq.engine = .running ∧ s.interp.turn = none ∧ s.interp.turnPending = false ∧
    s.queue.records = [a] ∧ a.body = .moving (lineBody .blend 100000) ∧ s.stepFeed a (lineBody .blend 100000) = 31500 ∧
    s.interp.progress + 31500 < 100000 * 1000 ∧
    (eng .holding s).stepFeed a (lineBody .blend 100000) = 28500 ∧ c.stepFeed a (lineBody .blend 100000) = 31500 ∧
    0 < activeExit c.settings.params.rampStep c.queue.records ∧
    c.interp.progress + 31500 = 100000 * 1000 + 21500 ∧ 21500 < 100000 * 1000 ∧ c.interp.progress ≤ 100000 * 1000 ∧
    0 < min 31500 (allowance c.settings.params.rampStep (activeExit c.settings.params.rampStep [a]) 100000 21500) := by
  decide +kernel

/-- At the boundary the step reaches the end point exactly; behind it nothing, a DWELL, an END, a PIVOT record and a BLEND record of cap 0,
each of which gives the exit 0. -/
theorem test_hyp_landing :
    let a := line false .blend 100000
    let s := { moving false .running 99999000 with interp := ⟨99999, 0, 0, 1000, 99999000, none, false⟩ }
    let slow : Record := ⟨36, false, false, .moving { lineBody .blend 10 with cap := 0 }⟩
    s.bus.started = true ∧ s.seq.engine = .running ∧ s.interp.turn = none ∧ s.interp.turnPending = false ∧
    (∀ rest ∈ [[], [dwellRecord], [endRecord], [line false .pivot 10], [slow]],
      (recs (a :: rest) s).queue.records = a :: rest ∧ 0 < (recs (a :: rest) s).stepFeed a (lineBody .blend 100000) ∧
      100000 * 1000 ≤ s.interp.progress + (recs (a :: rest) s).stepFeed a (lineBody .blend 100000) ∧
      activeExit s.settings.params.rampStep (a :: rest) = 0) ∧
    (let h := eng .holding { s with interp := { s.interp with feed := 2600 } }
     0 < h.stepFeed a (lineBody .blend 100000) ∧ 100000 * 1000 ≤ h.interp.progress + h.stepFeed a (lineBody .blend 100000)) ∧
    0 < s.settings.params.starveTimeout := by decide +kernel

/-- At rest in HALTING on a DWELL and on a pending turn; and with a new feed of 0 on a line. -/
theorem test_hyp_rest :
    let s := eng .halting (recs [dwellRecord] ready)
    let z := { eng .halting (moving false .running 0) with interp := ⟨0, 0, 0, 1500, 0, none, false⟩ }
    s.bus.started = true ∧ s.seq.engine = .halting ∧ s.interp.turn = none ∧ s.interp.feed = 0 ∧ dwellRecord.moves = false ∧
    { s.interp with turnPending := true }.turnPending = true ∧ z.interp.turnPending = false ∧
    z.queue.records.head? = some (line false .blend 100000) ∧
    z.stepFeed (line false .blend 100000) (lineBody .blend 100000) = 0 := by decide +kernel

/-- With a STARVE_TIMEOUT of 0 a landing and a dwell's expiry on an empty queue stop the stroke (R85), and so does an END behind a DWELL
(R71). -/
theorem test_hyp_starve_at_once :
    let zero := fun (s : State) =>
      { s with settings := { s.settings with params := { s.settings.params with starveTimeout := 0 } } }
    let s := zero (moving false .running 99999000)
    let landed := after .frameBegin { s with interp := ⟨99999, 0, 0, 1000, 99999000, none, false⟩ }
    let dwelt := after .dwellExpiry (zero (stk .running (eng .dwelling (recs [dwellRecord] ready))))
    let ended := after .dwellExpiry (stk .running (eng .dwelling (recs [dwellRecord, endRecord] ready)))
    s.settings.params.starveTimeout = 0 ∧
    (∀ t ∈ [landed, dwelt], t.seq.engine = .starved ∧ t.seq.starve = .expired ∧ t.stroke.state = .stopping) ∧
    ended.seq.engine = .idle ∧ ended.stroke.state = .stopping := by decide +kernel

theorem test_hyp_quick_stop_enable :
    let s := { ready with bus := { ready.bus with level := .quickStop } }
    s.bus.started = true ∧ (after .frameBegin s).bus.window = some ⟨.x, false⟩ ∧
    (after .returnWindowClose s).bus.window = some ⟨.y, false⟩ := by decide +kernel

/-- Below QUICK_STOP with X adopted and not; S at the end of the frame; and Y, next after X, whose following flag stands and whose enable
goes off in ABORTED. -/
theorem test_hyp_setpoint_records :
    (after .frameBegin (adopted ready)).bus.window = some ⟨.x, false⟩ ∧
    (after .frameBegin (adopted ready)).EnableOn (adopted ready).bus.level .x ∧ ready.bus.x.adopted = false ∧
    ready.settings.params.slotActive .s = true ∧ ready.seq.engine = .idle ∧
    Slot.s.later.find? (fun j => (ready.bus.get j).active) = none ∧
    (let s := { eng .aborted (adopted ready) with bus := { (adopted ready).bus with
       window := some ⟨.x, true⟩, y := { (adopted ready).bus.y with following := true } } }
     s.bus.window = some ⟨.x, true⟩ ∧ Slot.x.later.find? (fun j => (s.bus.get j).active) = some .y ∧
     (s.bus.get .y).following = true ∧ ¬ s.EnableOn s.bus.level .y ∧ (eng .idle s).EnableOn s.bus.level .y) := by
  unfold State.EnableOn
  decide +kernel

/-- A slot lost at its third miss, with no following flag behind it. -/
theorem test_hyp_slot_lost :
    let s := slotX { ready.bus.x with misses := 2 } ready
    s.bus.window = some ⟨.x, false⟩ ∧ (s.bus.get .x).misses = 2 ∧ (s.bus.get .x).lost = false ∧
    ∀ j ∈ Slot.x.later, (s.bus.get j).following = false := by decide +kernel

theorem test_hyp_window_close :
    ready.bus.window = some ⟨.x, false⟩ ∧ (after (ret 1 0) ready).bus.window = some ⟨.x, true⟩ ∧
    crc8 ((1 : Byte) :: beWord 0) ≠ crc8 ((1 : Byte) :: beWord 0) + 1 ∧
    8000000 < (BitVec.ofInt 32 8000001).toInt := by decide +kernel

/-- The ends of the range of X and Y, and H; a window that has its return; and none open, with and without one held back. -/
theorem test_hyp_valid_return :
    ready.bus.window = some ⟨.x, false⟩ ∧ (BitVec.ofInt 32 (-8000000)).toInt = -8000000 ∧
    (BitVec.ofInt 32 8000000).toInt = 8000000 ∧
    (after .returnWindowClose (after .returnWindowClose ready)).bus.window = some ⟨.h, false⟩ ∧
    (after (ret 1 8000000) ready).bus.x.actual = some 8000000 ∧ (after (ret 1 8000001) ready).bus.x.misses = 1 ∧
    (after (ret 1 0) ready).bus.window = some ⟨.x, true⟩ ∧ State.reset.bus.window = none ∧ State.reset.bus.opening = none ∧
    ready.bus.holdWindow.window = none ∧ ready.bus.holdWindow.opening = some ⟨.x, 225⟩ := by decide +kernel

/-- A return of X on which no check is made, which clears the lost flag and sets the fault flag; an AT_REST return of S in STOPPING, with
both stroke conditions true. -/
theorem test_hyp_return_hands_on :
    (let s := slotX { ready.bus.x with lost := true, sentBefore := none } ready
     (s.bus.get .x).adopted = false ∧ (s.bus.get .x).lost = true ∧ (s.bus.get .x).fault ≠ (2 : Byte).getLsbD 1) ∧
    (let s := stk .stopping ready
     let r := { s with bus := { s.bus with window := some ⟨.s, false⟩ }
                       stroke := { s.stroke with stall := true }, classifier := { s.classifier with overload := true } }
     r.bus.window = some ⟨.s, false⟩ ∧ (4 : Byte).getLsbD 2 = true ∧ r.stroke.state = .stopping ∧ r.stroke.stall = true ∧
     r.classifier.overload = true) := by decide +kernel

theorem test_hyp_adoption :
    ready.bus.window = some ⟨.x, false⟩ ∧ ready.bus.x.adopted = false ∧ (1 : Byte).getLsbD 0 = true ∧
    ready.seq.engine ≠ .aborted ∧ ready.queue.records = [] ∧
    (recs [endRecord] ready).queue.records ≠ [] := by decide +kernel

theorem test_hyp_following :
    let s := fun (sent : Option SentRecord) (l : TripLevel) => { adopted ready with bus := { (adopted ready).bus with
      x := { (adopted ready).bus.x with sentBefore := sent }, level := l } }
    (s (some ⟨5, true⟩) .halt).bus.window = some ⟨.x, false⟩ ∧ (s (some ⟨5, true⟩) .halt).bus.x.adopted = true ∧
    (s (some ⟨5, true⟩) .halt).bus.x.sentBefore = some ⟨5, true⟩ ∧ (s (some ⟨5, true⟩) .halt).bus.level ≠ .quickStop ∧
    (s none .none).bus.x.sentBefore = none ∧ (s (some ⟨5, false⟩) .none).bus.x.sentBefore = some ⟨5, false⟩ ∧
    (s (some ⟨5, true⟩) .quickStop).bus.level = .quickStop := by decide +kernel

/-- FOLLOW_LIMIT_XY is 2000: an error of 2000 changes nothing, one of 2001 makes FOLLOW_X ACTIVE, and one within the limit then LATCHED. -/
theorem test_following_is_handed_on :
    let s := { adopted ready with bus := { (adopted ready).bus with
      x := { (adopted ready).bus.x with sentBefore := some ⟨5, true⟩ } } }
    let again := fun (t : State) => { t with bus := { t.bus with window := some ⟨.x, false⟩ } }
    let exceeding := after (ret 0 2006) s
    (after (ret 0 2005) s).trip.sources[10].state = .clear ∧ exceeding.trip.sources[10].state = .active ∧
    exceeding.trip.level = .quickStop ∧ (after (ret 0 2005) (again exceeding)).trip.sources[10].state = .latched := by decide +kernel

theorem test_hyp_rise_to_hold :
    (handed ⟨.none, .hold⟩ (eng .dwelling ready)).seq.changes = [⟨.none, .hold⟩] ∧
    (handed ⟨.none, .hold⟩ (eng .dwelling ready)).seq.engine = .dwelling ∧
    (handed ⟨.none, .hold⟩ (eng .starved ready)).seq.engine = .starved ∧
    (handed ⟨.none, .hold⟩ ready).seq.engine = .idle := by decide +kernel

theorem test_hyp_rise_to_halt :
    (handed ⟨.hold, .halt⟩ (eng .held ready)).seq.changes = [⟨.hold, .halt⟩] ∧
    (handed ⟨.none, .halt⟩ (eng .starved ready)).seq.changes = [⟨.none, .halt⟩] ∧
    ready.stroke.tareInFlight = false := by decide +kernel

theorem test_hyp_rise_to_quick_stop :
    (handed ⟨.halt, .quickStop⟩ (eng .running ready)).seq.changes = [⟨.halt, .quickStop⟩] ∧
    (handed ⟨.halt, .quickStop⟩ (eng .running ready)).seq.engine ≠ .aborted := by decide +kernel

theorem test_hyp_level_changes :
    (ready.setCondition 9 true).trip.level ≠ ready.trip.level ∧ (ready.setCondition 9 false).trip.level = ready.trip.level ∧
    (handed ⟨.halt, .hold⟩ ready).seq.changes = [⟨.halt, .hold⟩] ∧ TripLevel.hold.rank < TripLevel.halt.rank ∧
    (handed ⟨.halt, .hold⟩ ready).bus.changes = [⟨.halt, .hold⟩] := by decide +kernel

/-- One state for each kind of the record behind the DWELL, and for none. -/
theorem test_hyp_dwell_expiry :
    (∀ rest ∈ [[line false .blend 10], [line false .pivot 10], [dwellRecord], [endRecord], []],
      (eng .dwelling (recs (dwellRecord :: rest) ready)).queue.records = dwellRecord :: rest ∧
      (eng .dwelling (recs (dwellRecord :: rest) ready)).seq.engine = .dwelling) ∧
    dwellRecord.body = .dwell 400 ∧ 0 < ready.settings.params.starveTimeout := by decide +kernel

theorem test_hyp_starve_expiry :
    { stk .running (eng .starved ready) with
      seq := { (eng .starved ready).seq with starve := .running 1 } }.seq.starve = .running 1 ∧
    (stk .running ready).stroke.state = .running ∧ (stk .stopped ready).stroke.state = .stopped := by decide +kernel

theorem test_hyp_stroke_timers :
    (stk .starting ready).stroke.state = .starting ∧ (stk .starting ready).stroke.tareInFlight = false ∧
    (stk .starting ready).stroke.stall = false ∧ (stk .stopping ready).stroke.state = .stopping ∧
    { ready.stroke with stall := true }.stall = true ∧ { ready.classifier with overload := true }.overload = true := by
  decide +kernel

/-- The last count of P below the overflow, and the last pulse but one. -/
theorem test_hyp_index_pulse :
    ready.startup.phase ≠ .held ∧ ready.stroke.window = none ∧
    (inWindow .running 0 0 0 ready).stroke.window = some ⟨8, 7, 0, 0, 0, false, true, true⟩ ∧
    (0 + 16777215 < 16777216) ∧ (6 + 1 < 8) ∧ 8 ≤ 7 + 1 ∧ 1 ≤ 0 + 1 := by decide +kernel

/-- At f_set 500: 450 is good, 449 is neither, 250 is not slow, 249 is slow; each state has a window that the pulse completes. -/
theorem test_hyp_judgement :
    ready.stroke.fSet = 500 ∧ ready.stroke.tareInFlight = false ∧ (((450 : Nat) : Int) - 500).natAbs * 10 ≤ 500 ∧
    500 < (((449 : Nat) : Int) - 500).natAbs * 10 ∧ 500 ≤ 250 * 2 ∧ 249 * 2 < 500 ∧
    (inWindow .starting 0 0 0 ready).stroke.good = 0 ∧ (inWindow .starting 1 0 0 ready).stroke.good ≠ 0 ∧
    (inWindow .running 0 0 0 ready).stroke.slow = 0 ∧ (inWindow .running 0 1 0 ready).stroke.slow ≠ 0 ∧
    (inWindow .stalled 0 0 0 ready).stroke.state = .stalled ∧ (inWindow .stopped 0 0 0 ready).stroke.state = .stopped ∧
    (Window.figure ⟨8, 7, 0, 0, 0, false, true, true⟩ 1777777 = 450 ∧ Window.figure ⟨8, 7, 0, 0, 0, false, true, true⟩ 3212851 = 249) := by
  decide +kernel

theorem test_hyp_completes_window (k : StrokeState) :
    (inWindow k 0 0 0 ready).CompletesWindow ⟨8, 7, 0, 0, 0, false, true, true⟩ 1777777 := by
  unfold State.CompletesWindow
  cases k <;> decide +kernel

/-- A window of 8 qualifies from 800,000 nm on at CLASS_FLOOR 100; DF 200 is the ceiling of band 1, which stands as the material band, as the
candidate, and as neither. -/
theorem test_hyp_classification :
    let s := fun (m : Fin 8) (c : Option (Fin 8)) => { inWindow .running 0 0 0 ready with
      classifier := { ready.classifier with material := m, candidate := c } }
    (∀ d : Nat, (ready.settings.params.classFloor ≤ d / 1000 / 8 ↔ 800000 ≤ d)) ∧
    (s 0 none).startup.phase = .started ∧ (s 0 none).stroke.state = .running ∧
    (∀ j : Fin 8, j < 1 → (ready.classifier.bands[j]).ceiling < 200) ∧ 200 ≤ (ready.classifier.bands[1]).ceiling ∧
    (s 1 none).classifier.material = 1 ∧ (s 0 (some 1)).classifier.candidate = some 1 ∧
    (s 0 (some 2)).classifier.candidate ≠ some 1 := by
  have floor : ready.settings.params.classFloor = 100 := by decide +kernel
  refine ⟨fun d => ?_, ?_⟩
  · rw [floor]; omega
  · decide +kernel

theorem test_hyp_load_and_overflow :
    ready.startup.phase ≠ .held ∧ ready.stroke.window = none ∧
    (inWindow .starting 1 0 4194303 ready).stroke.window = some ⟨8, 7, 0, 4194303, 0, false, true, true⟩ ∧
    (inWindow .starting 1 0 0 ready).stroke.state = .starting ∧ (inWindow .running 1 0 0 ready).stroke.state = .running ∧
    (inWindow .stalled 1 0 0 ready).stroke.state = .stalled := by decide +kernel

/-- IN3 after a start-up with its pin high reads inactive: the source's polarity is ACTIVE_LOW by default. -/
theorem test_hyp_input_line :
    State.reset.startup.phase ≠ .started ∧ ready.startup.phase = .started ∧ (ready.trip.inputs[3]).line = false ∧
    (ready.trip.inputs[3]).debounce ≠ 0 ∧
    (after (.setTrip 1 3 2 1 0) ready).trip.inputs[3].debounce = 0 ∧
    ((after (.inputLineChange 3 false) ready).trip.inputs[3]).timer = some 0 := by decide +kernel

theorem test_hyp_debounce :
    let s := after (.inputLineChange 3 false) ready
    (s.trip.inputs[3]).timer = some 0 ∧ (s.trip.inputs[3]).line = true ∧ (s.trip.sources[3]).condition = false ∧
    (let t := after (.inputLineChange 3 true) (after (.debounceExpiry 3) s)
     (t.trip.inputs[3]).timer = some 0 ∧ (t.trip.inputs[3]).line = false ∧ (t.trip.sources[3]).condition = true ∧
     (t.trip.sources[3]).state = .active) := by decide +kernel

/-- The state that takes a request, with the least setting that is refused. -/
theorem test_hyp_requests : ready.takesRequests ∧ ready.startup.phase ≠ .held ∧ 2 < (3 : Byte).toNat := by decide +kernel

/-- Each state of the receiver, and the ends of the range of LEN. -/
theorem test_hyp_receiver :
    State.reset.link.receiver = .disabled ∧ ready.link.receiver = .hunt ∧
    (after (.linkByteReceived 0xC3) ready).link.receiver = .length ∧
    (after (.linkByteReceived 2) (after (.linkByteReceived 0xC3) ready)).link.receiver = .payload 2 [] ∧
    (([0xC3, 2, 2, 5] : List Byte).foldl (fun u b => after (.linkByteReceived b) u) ready).link.receiver =
      .crc 2 [2, 5] none ∧
    (([0xC3, 2, 2, 5, 9] : List Byte).foldl (fun u b => after (.linkByteReceived b) u) ready).link.receiver =
      .crc 2 [2, 5] (some 9) ∧
    (2 ≤ (2 : Byte).toNat ∧ (250 : Byte).toNat ≤ 250 ∧ (1 : Byte).toNat < 2 ∧ 250 < (251 : Byte).toNat) := by
  decide +kernel

/-- A frame at its last byte, with the inbox and the slot as given. -/
def atLastByte (inbox : List Request) (reply : Option (List Byte)) (kind : Byte) : State :=
  { ready with link := { ready.link with
    receiver := .crc 3 [kind, 5, 7] (some (byte ((crc16 [3, kind, 5, 7]).toNat / 256))), inbox := inbox, reply := reply } }

/-- Good and bad check sums; a full inbox, an occupied slot, both empty with a kind that is unknown and one of the wrong length, and the
frame of an OVERRIDE request. -/
theorem test_hyp_frame_received :
    (crc16 [3, 0x7F, 5, 7]).toNat = (byte ((crc16 [3, 0x7F, 5, 7]).toNat / 256)).toNat * 256 +
      (byte (crc16 [3, 0x7F, 5, 7]).toNat).toNat ∧
    (atLastByte (List.replicate 4 ⟨1, 1, []⟩) (some []) 1).link.inbox.length = 4 ∧
    (atLastByte [] (some []) 1).link.reply.isSome = true ∧ (atLastByte [] none 0x7F).link.inbox = [] ∧
    RequestKind.ofCode 0x7F = none ∧ RequestKind.ofCode 1 = some .ident ∧ RequestKind.ident.bodyLength = some 0 ∧
    (atLastByte [] none 0x15).startup.phase = .started ∧ requestOf (.override 5 7) = some ⟨0x15, 5, [7]⟩ ∧
    RequestKind.ofCode 0x15 = some .override ∧ RequestKind.override.bodyLength = some 1 := by
  decide +kernel

/-- A notice being sent; a reply being sent with an empty inbox, and with a HOLD behind it. -/
theorem test_hyp_transmit_end :
    ready.link.transmitter = .notice (frameBytes 0x61 0 (1 :: List.replicate 18 0)) ∧ requestOf (.hold 6) = some ⟨0x11, 6, []⟩ ∧
    (let s := after .transmitEnd (after (.status 5) ready)
     s.link.transmitter = .reply (frameBytes 0x82 5 ready.statusBody) ∧ s.link.resetPending = false ∧ s.link.inbox = [] ∧
     (after (.hold 6) s).link.inbox = [⟨0x11, 6, []⟩]) := by decide +kernel

/-- A free transmitter with a reply, with nothing, with a notice, and with a rise that waits; one that sends; and one before the end of
start-up. -/
theorem test_hyp_transmitter :
    let s := { ready with link := { ready.link with transmitter := .free } }
    s.startup.phase = .started ∧ s.link.transmitter = .free ∧ s.link.reply = none ∧ s.reactionWaits = false ∧
    s.notice.choose s.settings.params.rotating = none ∧
    { s with link := { s.link with reply := some [1] } }.link.reply = some [1] ∧
    (s.noteTrip ⟨0, .active, .quickStop, none⟩).chosenNotice = some .trip ∧
    (handed ⟨.none, .hold⟩ (eng .running s)).reactionWaits = true ∧ ready.link.transmitter ≠ .free ∧
    State.reset.startup.phase ≠ .started := by decide +kernel

/-- While a rise waits, with TRIP and BAND pending (R181, R183): with both classes of the rise disabled BAND goes; with both enabled the
choice waits in FIXED, and in ROTATING after TRIP, where ENGINE_STATE would go; after ENGINE_STATE BAND goes. -/
theorem test_choice_while_a_rise_waits :
    let s := fun (enables : BitVec 7) (last : NoticeClass) (rotating : Bool) =>
      let t := (handed ⟨.none, .hold⟩ (eng .running ready)).noteTrip ⟨0, .active, .hold, none⟩ |>.noteBand ⟨3, 7, 200⟩
      { t with notice := { t.notice with enables := enables, lastSent := last }
               settings := { t.settings with params := { t.settings.params with rotating := rotating } } }
    (s 16 .trip false).chosenNotice = some .band ∧ (s 19 .trip false).chosenNotice = none ∧
    (s 19 .trip true).chosenNotice = none ∧ (s 19 .engineState true).chosenNotice = some .band ∧
    (s 18 .trip false).chosenNotice = some .band := by decide +kernel

/-- The first and the last band, and the least index that names none. -/
theorem test_hyp_get_band : (7 : Byte).toNat < 8 ∧ 8 ≤ (8 : Byte).toNat := by decide +kernel

/-- Room for one record and for two; STARVED on an empty queue; a line to the corner of the box. -/
theorem test_hyp_segments :
    let s := fun (n : Nat) => recs (List.replicate n dwellRecord) (adopted ready)
    (s 127).takesRequests ∧ (s 127).seq.engine ≠ .aborted ∧ (s 127).seq.engine ≠ .starved ∧ (s 127).bus.allAdopted = true ∧
    (s 127).queue.records.length < 128 ∧ (s 126).queue.records.length < 127 ∧
    (eng .starved (adopted ready)).seq.engine = .starved ∧ (eng .starved (adopted ready)).queue.records = [] ∧
    (s 127).settings.params.softXMin ≤ (0 : Int) ∧
    (3200000 : Int) ≤ (s 127).settings.params.softXMax ∧ (s 127).queue.tail.x ≠ 3200000 := by decide +kernel

/-- The arc of 1.6 from (180,000, 200,000) round (180,000, 225,000) to (205,000, 225,000) passes every part of its check, on MATERIAL. -/
theorem test_hyp_arc_accepted :
    let p := ready.settings.params
    isqrt (0 * 0 + 25000 * 25000 : Int).toNat = 25000 ∧ p.minRadius ≤ 25000 ∧
    (((isqrt (4 * (25000 * 25000 + 0 * 0 : Int).toNat) + 1) / 2 : Nat) - (25000 : Int)).natAbs ≤ p.arcTol ∧
    sameDirection 0 (-25000) 25000 0 = false ∧
    (∀ d ∈ [((1 : Int), (0 : Int)), (0, 1), (-1, 0), (0, -1)], insideSweep 0 (-25000) 25000 0 d.1 d.2 = false) ∧
    1 ≤ floorFix (25000 * sweepFix 0 (-25000) 25000 0) one ∧ direction 0 (-25000) + 16384#16 = 0#16 := by decide +kernel

/-- Each refusal of a segment's geometry: a centre 16,000,001 away; a radius below MIN_RADIUS 2000; an end 21 off the circle at ARC_TOL 20; an
end in the start's direction; a full circle that leaves the box; a sweep shorter than 1 µm; a turn of 90.01 degrees at PIVOT_LIMIT 16384. -/
theorem test_hyp_segments_refused :
    let p := ready.settings.params
    SegmentKind.ofByte 5 = some .programEnd ∧ 0 + 4 < SegmentKind.dwell.length false ∧
    SegmentKind.programEnd.length false ≤ 0 + 4 ∧ (eng .aborted ready).seq.engine = .aborted ∧ ready.bus.allAdopted = false ∧
    128 ≤ (recs (List.replicate 128 dwellRecord) ready).queue.records.length ∧ p.softXMax < 3200001 ∧
    isqrt (1999 * 1999) < p.minRadius ∧ p.arcTol < (((isqrt (4 * (2021 * 2021)) + 1) / 2 : Nat) - (2000 : Int)).natAbs ∧
    sameDirection 0 (-2000) 0 (-2001) = true ∧ (2000 - 2001 < p.softXMin) ∧
    floorFix (2000 * sweepFix 0 (-2000) 1 (-2001)) one = 0 ∧ sameDirection 0 (-2000) 1 (-2001) = false ∧
    p.blendAngle < (16385#16).toInt.natAbs ∧ p.pivotLimit < (16385#16).toInt.natAbs := by decide +kernel

/-- Every check of START failing alone, and all passing with each kind of head. -/
theorem test_hyp_start :
    let s := recs [endRecord] (adopted ready)
    s.takesRequests ∧ s.seq.engine = .idle ∧ s.queue.records ≠ [] ∧ s.bus.allActive = true ∧ s.bus.allAdopted = true ∧
    s.trip.level = .none ∧ s.stroke.tareInFlight = false ∧ (eng .held s).seq.engine ≠ .idle ∧
    (recs [endRecord] ready).bus.allAdopted = false ∧ (lev .hold s).trip.level ≠ .none ∧
    { s.stroke with tareState := .waiting }.tareInFlight = true ∧
    (recs [line false .pivot 10] s).queue.records = [line false .pivot 10] := by decide +kernel

/-- Every engine state that HOLD, RESUME and CANCEL tell apart takes requests. -/
theorem test_hyp_program_requests :
    ∀ e ∈ [Engine.idle, .running, .pivoting, .dwelling, .starved, .holding, .held, .halting, .halted, .cancelling, .aborted],
      (eng e ready).takesRequests ∧ (eng e ready).seq.engine = e ∧ (eng e ready).trip.level = .none := by decide +kernel

/-- HOLDING with a turn record and without; HALTED and HELD on each kind of head and on an empty queue; a STARVE_TIMEOUT of 0. -/
theorem test_hyp_resume :
    let s := eng .holding ready
    { s with interp := { s.interp with turn := some ⟨true, 5⟩ } }.interp.turn.isSome = true ∧ s.interp.turn = none ∧
    s.queue.records = [] ∧ 0 < s.settings.params.starveTimeout ∧ (recs [dwellRecord] s).queue.records = [dwellRecord] ∧
    (recs [endRecord] (eng .halted ready)).queue.records = [endRecord] ∧ (eng .halted ready).seq.engine = .halted ∧
    (eng .halted ready).stroke.state = .stopped ∧ (stk .running (eng .held ready)).stroke.state = .running ∧
    { s.settings.params with starveTimeout := 0 }.starveTimeout = 0 ∧ (lev .hold s).trip.level ≠ .none := by decide +kernel

/-- RECOVER with a slot that has had no return, with one whose misses are 3, with all at 2, and under QUICK_STOP. -/
theorem test_hyp_recover :
    let good := fun (n : Nat) => { eng .aborted ready with bus := { ready.bus with
      x := { ready.bus.x with actual := some 1, misses := n }, y := { ready.bus.y with actual := some 2 }
      h := { ready.bus.h with actual := some 3 }, s := { ready.bus.s with actual := some 4 } } }
    (good 2).takesRequests ∧ (good 2).seq.engine = .aborted ∧ (good 2).bus.allRecent = true ∧
    (good 3).bus.x.active = true ∧ 3 ≤ (good 3).bus.x.misses ∧ (eng .aborted ready).bus.x.actual = none ∧
    (lev .quickStop (good 2)).trip.level = .quickStop ∧ (lev .halt (good 2)).trip.level ≠ .quickStop := by decide +kernel

theorem test_hyp_reset_request :
    (eng .running ready).seq.engine ∉ [Engine.idle, .halted, .aborted] ∧ ready.seq.engine ∈ [Engine.idle, .halted, .aborted] ∧
    { ready.settings with store := .saving }.store = .saving ∧ ready.settings.store ≠ .saving := by decide +kernel

/-- Numbers at each end of each clause: 0, 33, 1, 32; a parameter that waits for IDLE with its condition met and not met. -/
theorem test_hyp_set_param :
    ready.takesRequests ∧ (0 : Byte).toNat = 0 ∧ 32 < (33 : Byte).toNat ∧ 1 ≤ (1 : Byte).toNat ∧ (32 : Byte).toNat ≤ 32 ∧
    (26 : Byte).toNat ∈ [1, 2, 3, 4, 5, 6, 8, 9, 26] ∧ (eng .held ready).seq.engine ≠ .idle ∧
    (recs [endRecord] ready).queue.records ≠ [] ∧ ready.queue.records = [] ∧
    ready.settings.params.get 26 = some 15 := by decide +kernel

/-- Bands 0 and 7 have one neighbour each, whose ceilings are 60 and 560 and stand on either side. -/
theorem test_hyp_set_band :
    (∀ j : Fin 8, (0 : Fin 8).val + 1 = j.val → 1 < (ready.classifier.bands[j]).ceiling) ∧
    (∀ j : Fin 8, j.val + 1 = (7 : Fin 8).val → (ready.classifier.bands[j]).ceiling < 65535) ∧
    ¬ (∀ j : Fin 8, j.val + 1 = (7 : Fin 8).val → (ready.classifier.bands[j]).ceiling < 1) := by decide +kernel

theorem test_hyp_set_trip :
    15 ≤ (15 : Byte).toNat ∧ (byte 14).toNat = 14 ∧ (7 : Fin 15).val < 8 ∧ 8 ≤ (8 : Fin 15).val ∧ 10 ≤ (10 : Fin 15).val := by
  decide +kernel

/-- IN3 with its pin high: the polarity inverted starts its timer, or at 0 ms sets the condition at once, and inverted back stops it. With
20,000 cycles elapsed, 3 ms lets the timer run on and 2 ms ends it. -/
theorem test_set_trip_acts_on_debounce :
    let inverted := after (.setTrip 1 3 2 0 10) ready
    let idle := fun (t : State) => { t with link := { t.link with reply := none, transmitter := .notice [] } }
    let running := { idle inverted with trip := { inverted.trip with
      inputs := inverted.trip.inputs.set 3 { inverted.trip.inputs[3] with timer := some 20000 } } }
    inverted.trip.inputs[3].timer = some 0 ∧ inverted.trip.sources[3].condition = false ∧
    (after (.setTrip 1 3 2 0 0) ready).trip.sources[3].state = .active ∧
    (after (.setTrip 1 3 2 1 10) (idle inverted)).trip.inputs[3].timer = none ∧
    (after (.setTrip 1 3 2 0 3) running).trip.inputs[3].timer = some 20000 ∧
    (after (.setTrip 1 3 2 0 2) running).trip.inputs[3].timer = none ∧
    (after (.setTrip 1 3 2 0 2) running).trip.sources[3].condition = true := by decide +kernel

theorem test_hyp_tare :
    let air := eng .running (recs [line false .blend 10] ready)
    let cut := eng .running (recs [line true .blend 10] ready)
    (eng .starved ready).activeRecord = none ∧ cut.activeRecord = some (line true .blend 10) ∧
    air.activeRecord = some (line false .blend 10) ∧ (line false .blend 10).material = false ∧
    air.stroke.tareInFlight = false ∧ air.trip.level ∈ [TripLevel.none, .hold] ∧
    (lev .halt air).trip.level ∈ [TripLevel.halt, .quickStop] ∧
    { air.stroke with tareState := .measuring }.tareInFlight = true ∧
    (stk .stopping air).stroke.state ∈ [StrokeState.stopped, .stopping] := by decide +kernel

/-- A tare that waits, one that measures its fourth window, and one on a held MATERIAL record. -/
theorem test_hyp_tare_runs :
    let tare := fun (st : TareState) (n : Nat) (s : State) => { s with
      stroke := { s.stroke with tareState := st, tare := some ⟨true, n, 0, false⟩ } }
    (tare .waiting 0 (inWindow .starting 1 0 0 ready)).stroke.good ≠ 0 ∧
    (tare .waiting 0 (inWindow .starting 1 0 0 ready)).stroke.tareInFlight = true ∧
    (tare .measuring 3 (inWindow .running 0 1 0 ready)).stroke.tare = some ⟨true, 3, 0, false⟩ ∧
    (tare .measuring 3 (inWindow .running 0 1 0 ready)).stroke.slow ≠ 0 ∧
    (let held := eng .held (recs [line true .blend 10] (tare .measuring 0 (stk .running ready)))
     held.bus.started = true ∧ held.seq.engine ∈ [Engine.held, .halted] ∧
     held.queue.records.head? = some (line true .blend 10) ∧ held.stroke.tareInFlight = true) := by decide +kernel

theorem test_hyp_save :
    ready.seq.engine = .idle ∧ (eng .held ready).seq.engine ≠ .idle ∧ ready.settings.present = false ∧
    { ready.settings with present := true }.present = true ∧ ready.settings.save = none ∧
    { ready.settings with save := some ⟨[], 13⟩ }.save = some ⟨[], 13⟩ ∧ 13 < 14 := by decide +kernel

/-! ## What a reset and a choice leave (R141, R175, R184, R189, R190) -/

/-- A host RESET during the X window: the first frame sent is ENGINE_STATE with TAG 0, the return of the old frame is discarded, and the first
window then stands open; without that return it opens after 225 cycles. -/
theorem test_host_reset_discards_old_return :
    let s := after .transmitEnd (after (.reset 4) { ready with link := { ready.link with transmitter := .free } })
    s.link.transmitter = .notice (frameBytes 0x61 0 (1 :: List.replicate 18 0)) ∧ s.bus.window = none ∧
    s.bus.opening = some ⟨.x, 225⟩ ∧ (after (ret 1 7) s).bus.x.actual = none ∧
    (after (ret 1 7) s).bus.window = some ⟨.x, false⟩ ∧ (stepped s).bus.opening = some ⟨.x, 224⟩ := by decide +kernel

/-- A record set and chosen in one event leaves ATTN low; the model counts its fall. -/
theorem test_choice_releases_attention : State.reset.attnFalls = 0 ∧ ready.attnFalls = 1 ∧ ready.outputs.attn = false := by
  decide +kernel

/-- The read transfer of the load, and the first and the last page of a save. -/
theorem test_two_wire_line :
    State.reset.twoWire = [.start, .addressWrite, .sent 0, .sent 0, .start, .addressRead, .received 230, .stop] ∧
    ready.twoWire = [] ∧ (Save.transfer ⟨List.replicate 230 7, 0⟩).length = 2 + 2 + 16 + 3 ∧
    Save.transfer ⟨List.replicate 230 7, 14⟩ =
      [.start, .addressWrite, .sent 0, .sent 224] ++ List.replicate 6 (.sent 7) ++ [.stop, .start, .addressWrite] := by
  decide +kernel

end Sys2Proof.Tests
end

