-- ==== Sys2Proof/Proofs/RiseToHold.lean ====
section
/-! SUPPORT. A rise of the trip level to HOLD taken by the sequencer (R80): what the taking of a change is, what a hold does to each group
of engine states (R75), and the statement about LEVEL_RISE_HOLD assembled from them. -/

namespace Sys2Proof.Machine

/-- A change of the kind looked for, at the front, leaves the list before it acts (R154). -/
theorem State.takeChange_front {s : State} {c : LevelChange} {rest : List LevelChange} {k : LevelChange → Bool}
    (act : State → State) (hs : s.seq.changes = c :: rest) (hk : k c = true) :
    s.takeChange k act = act (s.setSeq { s.seq with changes := rest }) := by
  simp [State.takeChange, hs, hk]

/-- LEVEL_RISE_HOLD with a rise to HOLD at the front does what a hold with cause TRIP does, on the rest of the list (R80). -/
theorem exec_levelRiseHold_front {s : State} {rest : List LevelChange} (hs : s.seq.changes = ⟨.none, .hold⟩ :: rest) :
    exec .levelRiseHold s = .next ((s.setSeq { s.seq with changes := rest }).holdEffect .trip).commit := by
  have htake : s.takeRiseHold = (s.setSeq { s.seq with changes := rest }).holdEffect .trip :=
    State.takeChange_front _ hs (by decide)
  rw [← htake]
  rfl

/-- An entry into another engine state, as one update of the state (R87). -/
theorem State.enterEngine_of_ne {s : State} {e : Engine} (c : Cause) (part : Option Interrupted) (h : s.seq.engine ≠ e) :
    s.enterEngine e c part = { s with
      seq := { s.seq with engine := e }
      notice := { s.notice with
        engineState := Pending.coalesce s.notice.engineState ⟨e, s.seq.engine, c, part⟩ } } := by
  simp only [State.enterEngine, if_neg h]
  rfl

/-- A hold in RUNNING, PIVOTING or DWELLING enters HOLDING (R75) with the resume memory of R73. -/
theorem State.holdEffect_of_runsProgram {s : State} (c : Cause)
    (h : s.seq.engine = .running ∨ s.seq.engine = .pivoting ∨ s.seq.engine = .dwelling) :
    s.holdEffect c = { s with
      seq := { s.seq with
        engine := .holding
        resume := if s.seq.engine = .dwelling then some .dwelling else some .running }
      notice := { s.notice with
        engineState := Pending.coalesce s.notice.engineState ⟨.holding, s.seq.engine, c, none⟩ } } := by
  have hne : (s.setResume s.seq.engine.memory).seq.engine ≠ .holding := by
    obtain h | h | h := h <;> simp [State.setResume, h]
  have heff : s.holdEffect c = (s.setResume s.seq.engine.memory).enterEngine .holding c none := by
    obtain h | h | h := h <;> simp [State.holdEffect, h]
  have hmem : s.seq.engine.memory = if s.seq.engine = .dwelling then some .dwelling else some .running := by
    obtain h | h | h := h <;> simp [Engine.memory, h]
  rw [heff, State.enterEngine_of_ne c none hne, hmem]
  rfl

/-- A hold in STARVED enters HELD (R75) with memory STARVED (R73) and the starve timer stopped (R85). -/
theorem State.holdEffect_of_starved {s : State} (c : Cause) (h : s.seq.engine = .starved) :
    s.holdEffect c = { s with
      seq := { s.seq with engine := .held, resume := some .starved, starve := .stopped }
      notice := { s.notice with
        engineState := Pending.coalesce s.notice.engineState ⟨.held, .starved, c, none⟩ } } := by
  have hne : ((s.setResume (some .starved)).setStarve .stopped).seq.engine ≠ .held := by
    simp [State.setResume, State.setStarve, h]
  have heff : s.holdEffect c = ((s.setResume (some .starved)).setStarve .stopped).enterEngine .held c none := by
    simp only [State.holdEffect, h]
  rw [heff, State.enterEngine_of_ne c none hne, ← h]
  rfl

/-- A hold leaves the state as it is where the engine neither runs the program nor starves (R75). -/
theorem State.holdEffect_eq_self {s : State} (c : Cause)
    (h : s.seq.engine ∈ [Engine.idle, .holding, .held, .halting, .halted, .cancelling, .aborted]) :
    s.holdEffect c = s := by
  simp only [List.mem_cons, List.not_mem_nil, or_false] at h
  obtain h | h | h | h | h | h | h := h <;> simp only [State.holdEffect, h]

/-- Settles O26, group by group of the engine states that a hold distinguishes. -/
theorem riseToHoldHoldsEngine : Obligations.RiseToHoldHoldsEngine := by
  intro s rest hs
  rw [exec_levelRiseHold_front hs]
  refine ⟨fun hrun => ?_, fun hstarved => ?_, fun hother => ?_⟩
  · rw [State.holdEffect_of_runsProgram .trip (by simpa using hrun)]
    rfl
  · rw [State.holdEffect_of_starved .trip (by simpa using hstarved)]
    rfl
  · rw [State.holdEffect_eq_self .trip (by simpa using hother)]
    rfl

end Sys2Proof.Machine
end

