-- ==== Sys2Proof/Proofs/MissedReturn.lean ====
section
/-! SUPPORT. A missed return (R133): what the bus operations of a return window do to the slots and to the trip unit, and the
statement about RETURN_WINDOW_CLOSE and a damaged DRIVE_RETURN assembled from them. -/

namespace Sys2Proof.Machine

/-! ## The slots after the operations of a return window -/

theorem State.putSlot_get_self (s : State) (k : Slot) (v : SlotState) : (s.putSlot k v).bus.get k = v := by
  simp [State.putSlot]

theorem State.putSlot_get_other (s : State) {k j : Slot} (v : SlotState) (h : j ≠ k) :
    (s.putSlot k v).bus.get j = s.bus.get j := by
  simp [State.putSlot, Bus.get_put_other _ _ _ _ h]

/-- The slots stand when the trip unit takes a condition. -/
theorem State.setCondition_get (s : State) (i : Fin 15) (b : Bool) (j : Slot) :
    (s.setCondition i b).bus.get j = s.bus.get j := by
  cases j <;> simp [Bus.get]

/-- The slots stand when the set of lost slots is handed on. -/
theorem State.setLostSet_get (s : State) (m : BitVec 4) (j : Slot) : (s.setLostSet m).bus.get j = s.bus.get j := by
  cases j <;> simp [Bus.get]

/-- Of its own slot a lost flag set changes that flag alone (R134). -/
theorem State.setLost_get_self (s : State) (k : Slot) (b : Bool) :
    (s.setLost k b).bus.get k = { s.bus.get k with lost := b } := by
  by_cases h : (s.bus.get k).lost = b
  · rw [State.setLost, if_pos h, ← h]
  · simp only [State.setLost, if_neg h, State.setLostSet_get, State.putSlot_get_self]

theorem State.setLost_get_other (s : State) {k j : Slot} (b : Bool) (h : j ≠ k) :
    (s.setLost k b).bus.get j = s.bus.get j := by
  simp only [State.setLost]
  split
  · rfl
  · rw [State.setLostSet_get, State.putSlot_get_other _ _ h]

/-- Of its own slot a following flag set changes at most that flag (R137). -/
theorem State.setFollowing_get_self (s : State) (k : Slot) (b : Bool) :
    ∃ f, (s.setFollowing k b).bus.get k = { s.bus.get k with following := f } := by
  simp only [State.setFollowing]
  split
  · exact ⟨_, rfl⟩
  · split
    · exact ⟨_, rfl⟩
    · exact ⟨b, by rw [State.setCondition_get, State.putSlot_get_self]⟩

theorem State.setFollowing_get_other (s : State) {k j : Slot} (b : Bool) (h : j ≠ k) :
    (s.setFollowing k b).bus.get j = s.bus.get j := by
  simp only [State.setFollowing]
  split
  · rfl
  · split
    · rfl
    · rw [State.setCondition_get, State.putSlot_get_other _ _ h]

/-- The set of lost slots depends on the activity and the lost flag of each slot (R134). -/
theorem Bus.lostSlots_congr {b c : Bus} (h : ∀ j, (b.get j).active = (c.get j).active ∧ (b.get j).lost = (c.get j).lost) :
    b.lostSlots = c.lostSlots := by
  obtain ⟨hxa, hxl⟩ := h .x
  obtain ⟨hya, hyl⟩ := h .y
  obtain ⟨hha, hhl⟩ := h .h
  obtain ⟨hsa, hsl⟩ := h .s
  simp only [Bus.get] at hxa hxl hya hyl hha hhl hsa hsl
  simp only [Bus.lostSlots, hxa, hxl, hya, hyl, hha, hhl, hsa, hsl]

/-! ## Effects on the trip unit that follow one another -/

/-- A slot set taken after steps that leave the trip unit alone. -/
theorem State.slotSetTaken_of_stands {s v u : State} {i : Fin 15} {c : Prop} {m : BitVec 4} (h : s.TripStands v)
    (ht : v.SlotSetTaken u i c m) : s.SlotSetTaken u i c m := by
  obtain ⟨htrip, hseq, hbus, hnotice⟩ := h
  simpa only [State.SlotSetTaken, State.ConditionTaken, State.TripStands, htrip, hseq, hbus, hnotice] using ht

/-- A slot set taken before steps that leave the trip unit alone. -/
theorem State.slotSetTaken_stands {s v u : State} {i : Fin 15} {c : Prop} {m : BitVec 4} (ht : s.SlotSetTaken v i c m)
    (h : v.TripStands u) : s.SlotSetTaken u i c m := by
  obtain ⟨htrip, hseq, hbus, hnotice⟩ := h
  simpa only [State.SlotSetTaken, State.ConditionTaken, State.TripStands, htrip, hseq, hbus, hnotice] using ht

/-- Where the set did not change, nothing is handed on. -/
theorem State.slotSetTaken_of_not {s u : State} {i : Fin 15} {c : Prop} {m : BitVec 4} (hc : ¬ c) (h : s.TripStands u) :
    s.SlotSetTaken u i c m :=
  ⟨fun hc' => (hc hc').elim, fun _ => h⟩

/-! ## The next setpoint record -/

/-- A setpoint record sent opens its slot's window (R127). -/
theorem State.sendSlot_window (s : State) (k : Slot) : (s.sendSlot k).bus.window = some ⟨k, false⟩ := by
  simp only [State.sendSlot]
  split <;> simp

/-- The slots stand when bytes are put on the line and a window is opened. -/
theorem Bus.get_line_window (b : Bus) (line : List Byte) (w : Option ReturnWindow) (j : Slot) :
    Bus.get { b with line := line, window := w } j = b.get j := by
  cases j <;> rfl

/-- Of its own slot a setpoint record sent changes at most the record sent and the following flag (R130, R137). -/
theorem State.sendSlot_get_self (s : State) (k : Slot) :
    ∃ f r, (s.sendSlot k).bus.get k = { s.bus.get k with following := f, sentNow := r } := by
  simp only [State.sendSlot]
  split
  · exact ⟨_, _, by rw [State.setBus_bus, Bus.get_line_window, Bus.get_put]⟩
  · obtain ⟨f, hf⟩ := State.setFollowing_get_self (s.setBus _) k false
    exact ⟨f, _, by rw [hf, State.setBus_bus, Bus.get_line_window, Bus.get_put]⟩

theorem State.sendSlot_get_other (s : State) {k j : Slot} (h : j ≠ k) : (s.sendSlot k).bus.get j = s.bus.get j := by
  have hbus : ∀ (v : SlotState) (line : List Byte) (w : Option ReturnWindow),
      Bus.get { s.bus.put k v with line := line, window := w } j = s.bus.get j := fun v line w => by
    rw [Bus.get_line_window, Bus.get_put_other _ _ _ _ h]
  simp only [State.sendSlot]
  split
  · exact hbus _ _ _
  · exact (State.setFollowing_get_other _ _ h).trans (hbus _ _ _)

/-- A setpoint record sent leaves the set of lost slots as it was. -/
theorem State.sendSlot_lostSlots (s : State) (k : Slot) : (s.sendSlot k).bus.lostSlots = s.bus.lostSlots := by
  refine Bus.lostSlots_congr fun j => ?_
  by_cases h : j = k
  · obtain ⟨f, r, hk⟩ := s.sendSlot_get_self k
    rw [h, hk]
    exact ⟨rfl, rfl⟩
  · rw [s.sendSlot_get_other h]
    exact ⟨rfl, rfl⟩

/-- The record of a slot whose following flag is clear hands nothing on (R137). -/
theorem State.sendSlot_tripStands {s : State} {k : Slot} (h : (s.bus.get k).following = false) :
    s.TripStands (s.sendSlot k) := by
  simp only [State.sendSlot]
  split
  · cases k <;> exact ⟨rfl, rfl, rfl, rfl⟩
  · rw [(State.setFollowing_taken _ k false).2 (.inr (by rw [State.setBus_bus, Bus.get_line_window, Bus.get_put]; exact h))]
    cases k <;> exact ⟨rfl, rfl, rfl, rfl⟩

/-- The first active slot of a list has its window opened, or none stands open (R127). -/
theorem State.sendFirstOf_window (ks : List Slot) (s : State) :
    (State.sendFirstOf ks s).bus.window = (ks.find? fun j => (s.bus.get j).active).map (⟨·, false⟩) := by
  induction ks with
  | nil => rfl
  | cons k rest ih =>
    cases ha : (s.bus.get k).active
    · simpa [State.sendFirstOf, ha] using ih
    · simp [State.sendFirstOf, ha, State.sendSlot_window]

/-- A slot outside the list stands. -/
theorem State.sendFirstOf_get {ks : List Slot} {j : Slot} (s : State) (h : j ∉ ks) :
    (State.sendFirstOf ks s).bus.get j = s.bus.get j := by
  induction ks with
  | nil => cases j <;> rfl
  | cons k rest ih =>
    obtain ⟨hk, hrest⟩ := List.ne_and_not_mem_of_not_mem_cons h
    simp only [State.sendFirstOf]
    split
    · exact s.sendSlot_get_other hk
    · exact ih hrest

theorem State.sendFirstOf_lostSlots (ks : List Slot) (s : State) :
    (State.sendFirstOf ks s).bus.lostSlots = s.bus.lostSlots := by
  induction ks with
  | nil => rfl
  | cons k rest ih =>
    simp only [State.sendFirstOf]
    split
    · exact s.sendSlot_lostSlots k
    · exact ih

/-- Where no slot of the list has its following flag set, nothing is handed on. -/
theorem State.sendFirstOf_tripStands {ks : List Slot} {s : State} (h : ∀ j ∈ ks, (s.bus.get j).following = false) :
    s.TripStands (State.sendFirstOf ks s) := by
  induction ks with
  | nil => exact ⟨rfl, rfl, rfl, rfl⟩
  | cons k rest ih =>
    obtain ⟨hk, hrest⟩ := List.forall_mem_cons.mp h
    simp only [State.sendFirstOf]
    split
    · exact State.sendSlot_tripStands hk
    · exact ih hrest

theorem Slot.not_mem_later (k : Slot) : k ∉ k.later := by
  cases k <;> decide

/-! ## A missed return -/

/-- A count that saturates at 255 reaches 3 from 2 alone. -/
theorem saturate_eq_three {n : Nat} : saturate 255 n = 3 ↔ n = 2 := by
  simp only [saturate]
  omega

/-- What a missed return does to its slot (R133). -/
theorem State.missReturn_get_self (s : State) (k : Slot) :
    (s.missReturn k).bus.get k = { s.bus.get k with
      misses := min ((s.bus.get k).misses + 1) 255
      lost := if (s.bus.get k).misses = 2 then true else (s.bus.get k).lost } := by
  simp only [State.missReturn, saturate_eq_three]
  split
  · rw [State.setLost_get_self, State.putSlot_get_self]
    rfl
  · rw [State.putSlot_get_self]
    rfl

theorem State.missReturn_get_other (s : State) {k j : Slot} (h : j ≠ k) :
    (s.missReturn k).bus.get j = s.bus.get j := by
  simp only [State.missReturn]
  split
  · rw [State.setLost_get_other _ _ h, State.putSlot_get_other _ _ h]
  · exact s.putSlot_get_other _ h

theorem State.missReturn_active (s : State) (k j : Slot) :
    ((s.missReturn k).bus.get j).active = (s.bus.get j).active := by
  by_cases h : j = k
  · rw [h, s.missReturn_get_self]
  · rw [s.missReturn_get_other h]

/-- A slot that a missed return makes lost is handed on with the set of lost slots (R134, R152). -/
theorem State.missReturn_taken (s : State) (k : Slot) :
    s.SlotSetTaken (s.missReturn k) 14 ((s.bus.get k).misses = 2 ∧ (s.bus.get k).lost = false)
      (s.missReturn k).bus.lostSlots := by
  simp only [State.missReturn, saturate_eq_three]
  split
  · rename_i h
    have hchanged : ((s.bus.get k).misses = 2 ∧ (s.bus.get k).lost = false) ↔ (s.bus.get k).lost ≠ true := by
      simp [h]
    have hlost := State.setLost_taken
      (s.putSlot k { s.bus.get k with misses := saturate 255 (s.bus.get k).misses }) k true
    rw [State.putSlot_get_self] at hlost
    rw [hchanged]
    exact State.slotSetTaken_of_stands (s.putSlot_tripStands k _) hlost
  · rename_i h
    exact State.slotSetTaken_of_not (fun hc => h hc.1) (s.putSlot_tripStands k _)

/-! ## The two events -/

theorem exec_returnWindowClose (s : State) : exec .returnWindowClose s = .next s.closeWindow.commit := rfl

theorem exec_driveReturn (s : State) (status : Byte) (actual : Word) (crc : Byte) :
    exec (.driveReturn status actual crc) s = .next (s.takeReturn status actual crc).commit := rfl

/-- An open window that closes: a missed return where it was not answered, then the next active slot (R127, R131). -/
theorem State.closeWindow_of_window {s : State} {k : Slot} {answered : Bool} (h : s.bus.window = some ⟨k, answered⟩) :
    s.closeWindow = State.sendFirstOf k.later (if answered then s else s.missReturn k) := by
  have hheld : s.setBus s.bus.openHeld = s := by
    simp only [Bus.openHeld, h]
    rfl
  simp only [State.closeWindow, hheld, h]

/-- A return that fails the test of its CRC-8 or of its actual is a missed one, and the window is answered (R131). -/
theorem State.takeReturn_of_damaged {s : State} {k : Slot} {status : Byte} {actual : Word} {crc : Byte}
    (h : s.bus.window = some ⟨k, false⟩)
    (hbad : crc8 (status :: beWord actual) ≠ crc ∨
      (k = .x ∨ k = .y) ∧ (actual.toInt < -8000000 ∨ 8000000 < actual.toInt)) :
    s.takeReturn status actual crc = (s.setBus { s.bus with window := some ⟨k, true⟩ }).missReturn k := by
  have htest : (returnCrcGood status actual crc && actualInRange k actual) = false := by
    rw [Bool.and_eq_false_iff]
    refine hbad.imp (fun hcrc => by simpa [returnCrcGood] using hcrc) ?_
    rintro ⟨rfl | rfl, hrange⟩ <;> simp only [actualInRange, decide_eq_false_iff_not] <;> omega
  simp only [State.takeReturn, h, htest, Bool.false_eq_true, if_false]

/-- The window that stands open does not touch the slots. -/
theorem State.setWindow_get (s : State) (w : Option ReturnWindow) (j : Slot) :
    (s.setBus { s.bus with window := w }).bus.get j = s.bus.get j := by
  cases j <;> rfl

/-- RETURN_WINDOW_CLOSE where a window stands open (R127, R131, R133). -/
theorem State.closeWindow_counts_miss (s : State) (k : Slot) (answered : Bool) (h : s.bus.window = some ⟨k, answered⟩) :
    (s.closeWindow.bus.get k) = { s.bus.get k with
      misses := if answered then (s.bus.get k).misses else min ((s.bus.get k).misses + 1) 255
      lost := if answered = false ∧ (s.bus.get k).misses = 2 then true else (s.bus.get k).lost } ∧
    s.closeWindow.bus.window = (k.later.find? fun j => (s.bus.get j).active).map (⟨·, false⟩) ∧
    ((∀ j ∈ k.later, (s.bus.get j).following = false) →
      s.SlotSetTaken s.closeWindow 14 (answered = false ∧ (s.bus.get k).misses = 2 ∧ (s.bus.get k).lost = false)
        s.closeWindow.bus.lostSlots) := by
  rw [State.closeWindow_of_window h, State.sendFirstOf_get _ k.not_mem_later, State.sendFirstOf_window,
    State.sendFirstOf_lostSlots]
  cases answered with
  | true =>
    simp only [if_true, Bool.true_eq_false, false_and, if_false, true_and]
    exact fun hclear => State.slotSetTaken_of_not id (State.sendFirstOf_tripStands hclear)
  | false =>
    simp only [Bool.false_eq_true, if_false, true_and, State.missReturn_active, State.missReturn_get_self]
    intro hclear
    refine State.slotSetTaken_stands (s.missReturn_taken k) (State.sendFirstOf_tripStands fun j hj => ?_)
    rw [s.missReturn_get_other (fun e : j = k => k.not_mem_later (e ▸ hj))]
    exact hclear j hj

/-- Settles O22: the window that closes by `State.closeWindow_counts_miss`, the damaged return by the lemmas on a missed one. -/
theorem missedReturnIsCounted : Obligations.MissedReturnIsCounted := by
  refine ⟨fun s k answered h => ?_, fun s k status actual crc h hbad => ?_⟩
  · obtain ⟨hslot, hwindow, htaken⟩ := State.closeWindow_counts_miss s k answered h
    refine ⟨s.closeWindow, exec_returnWindowClose s, ?_⟩
    rw [hslot]
    exact ⟨rfl, rfl, rfl, rfl, rfl, rfl, hwindow, htaken, by simp⟩
  · have htaken := State.missReturn_taken (s.setBus { s.bus with window := some ⟨k, true⟩ }) k
    have hothers : ∀ j, j ≠ k →
        ((s.setBus { s.bus with window := some ⟨k, true⟩ }).missReturn k).bus.get j = s.bus.get j := fun j hj => by
      rw [State.missReturn_get_other _ hj, State.setWindow_get]
    rw [State.setWindow_get] at htaken
    refine ⟨_, exec_driveReturn s status actual crc, ?_⟩
    rw [State.takeReturn_of_damaged h hbad, State.missReturn_get_self, State.setWindow_get]
    exact ⟨rfl, rfl, rfl, rfl, rfl, rfl, hothers, by simp,
      State.slotSetTaken_of_stands ⟨rfl, rfl, rfl, rfl⟩ htaken, by simp⟩

end Sys2Proof.Machine
end

section
/-! SUPPORT. Every command as an effect on the state followed by the end of its event: the 30 events by their operations, the 21 requests
by the arrival of their frame. -/

namespace Sys2Proof.Machine

/-- What a command does to the state before the end of its event. -/
def State.effect (s : State) : Instr → State
  | .powerOnReset lrate safeN => s.por lrate safeN
  | .lineReset => s.lineReset
  | .lineResetRelease => s.releaseLine
  | .settingsLoad acked image => if s.startup.phase = .loading then s.endLoad acked image else s
  | .frameBegin => if s.bus.started then s.beginFrame else s
  | .dwellExpiry =>
    if s.seq.engine = .dwelling then
      match s.headDwell with
      | none => s
      | some d => (s.setDwell d).dwellExpire
    else s
  | .starveTimerExpiry =>
    match s.seq.starve with
    | .running _ => s.starveExpire
    | .stopped => s
    | .expired => s
  | .returnWindowClose => s.closeWindow
  | .driveReturn status actual crc => s.takeReturn status actual crc
  | .startTimerExpiry => if s.stroke.state = .starting then s.strokeStalls else s
  | .stopTimerExpiry => if s.stroke.state = .stopping then s.strokeStopped else s
  | .sidxPulse cycles => if s.startup.phase = .held then s else s.indexPulse cycles
  | .lfqPulse => if s.startup.phase = .held then s else s.loadPulse
  | .windowOverflow => if s.stroke.window.isSome then s.overflowWindow else s
  | .inputLineChange i high =>
    if s.startup.phase = .started then (s.setPins (s.pins.set i.val high)).deriveLine i
    else s.setPins (s.pins.set i.val high)
  | .debounceExpiry i => if (s.trip.inputs[i]).timer.isSome then s.takeLine i else s
  | .levelRiseHold => s.takeRiseHold
  | .levelRiseHalt => s.takeRiseHalt
  | .levelRiseQuickStop => s.takeRiseQuickStop
  | .levelFall => s.takeFall
  | .busLevelChange => s.takeBusLevel
  | .frameReceived crcLow =>
    match s.link.receiver with
    | .crc len bytes (some first) => s.judgeFrame len bytes first crcLow
    | .crc _ _ none => s
    | .payload _ _ => s
    | .length => s
    | .hunt => s
    | .disabled => s
  | .lengthByteRefused len => if s.link.receiver = .length ∧ lenRefused len then s.receiveByte len else s
  | .gapTimeout => s.gapExpire
  | .transmitEnd => s.frameSent
  | .blinkToggle => if s.startup.phase = .held then s else s.toggleBlink
  | .savePageWritten => s.pageWritten
  | .savePollTimeout => s.saveFails
  | .saveByteRefused => s.saveFails
  | .linkByteReceived b => s.receiveByte b
  | c =>
    match requestOf c with
    | none => s
    | some r => s.arrive r

/-- A command is its effect and the end of its event. -/
theorem exec_eq_effect (c : Instr) (s : State) : exec c s = .next (s.effect c).commit := by
  cases c <;> rfl

/-- A request command is the arrival of its frame. -/
theorem State.effect_of_request {c : Instr} {r : Request} (s : State) (h : requestOf c = some r) : s.effect c = s.arrive r := by
  cases c <;> first | (cases h; rfl) | cases h

/-- What an event keeps, every command keeps: the operations behind the events, one by one. -/
structure KeptByEvents (P : State → Prop) : Prop where
  por : ∀ s l f, P s → P (s.por l f)
  lineReset : ∀ s, P s → P s.lineReset
  releaseLine : ∀ s, P s → P s.releaseLine
  endLoad : ∀ s acked image, P s → s.startup.phase = .loading → P (s.endLoad acked image)
  beginFrame : ∀ s, P s → P s.beginFrame
  dwellExpire : ∀ s d, P s → s.seq.engine = .dwelling → P (s.setDwell d).dwellExpire
  starveExpire : ∀ s, P s → P s.starveExpire
  closeWindow : ∀ s, P s → P s.closeWindow
  takeReturn : ∀ s st a c, P s → P (s.takeReturn st a c)
  strokeStalls : ∀ s, P s → s.stroke.state = .starting → P s.strokeStalls
  strokeStopped : ∀ s, P s → s.stroke.state = .stopping → P s.strokeStopped
  indexPulse : ∀ s n, P s → P (s.indexPulse n)
  loadPulse : ∀ s, P s → P s.loadPulse
  overflowWindow : ∀ s, P s → P s.overflowWindow
  setPins : ∀ s v, P s → P (s.setPins v)
  deriveLine : ∀ s i, P s → P (s.deriveLine i)
  takeLine : ∀ s i, P s → P (s.takeLine i)
  takeRiseHold : ∀ s, P s → P s.takeRiseHold
  takeRiseHalt : ∀ s, P s → P s.takeRiseHalt
  takeRiseQuickStop : ∀ s, P s → P s.takeRiseQuickStop
  takeFall : ∀ s, P s → P s.takeFall
  takeBusLevel : ∀ s, P s → P s.takeBusLevel
  setReceiver : ∀ s r, P s → P (s.setReceiver r)
  countLink : ∀ s a b c d, P s →
    P (s.setLink { s.link with lengthCount := a, gapCount := b, crcCount := c, inboxCount := d })
  toInbox : ∀ s r, P s → P (s.toInbox r)
  frameSent : ∀ s, P s → P s.frameSent
  toggleBlink : ∀ s, P s → P s.toggleBlink
  pageWritten : ∀ s, P s → P s.pageWritten
  saveFails : ∀ s, P s → P s.saveFails

variable {P : State → Prop}

theorem KeptByEvents.judgeFrame (h : KeptByEvents P) {s : State} (len : Byte) (bytes : List Byte) (a b : Byte) (hs : P s) :
    P (s.judgeFrame len bytes a b) := by
  simp only [State.judgeFrame]
  split
  · exact h.toInbox _ _ (h.setReceiver _ _ hs)
  · exact h.countLink _ _ _ _ _ (h.setReceiver _ _ hs)

theorem KeptByEvents.receiveByte (h : KeptByEvents P) {s : State} (b : Byte) (hs : P s) : P (s.receiveByte b) := by
  simp only [State.receiveByte]
  split
  · exact hs
  · split
    · exact h.setReceiver _ _ hs
    · exact hs
  · split
    · exact h.countLink _ _ _ _ _ (h.setReceiver _ _ hs)
    · exact h.setReceiver _ _ hs
  · split <;> exact h.setReceiver _ _ hs
  · exact h.setReceiver _ _ hs
  · exact h.judgeFrame _ _ _ _ hs

theorem KeptByEvents.gapExpire (h : KeptByEvents P) {s : State} (hs : P s) : P s.gapExpire := by
  simp only [State.gapExpire]
  split
  · exact h.countLink _ _ _ _ _ (h.setReceiver _ _ hs)
  · exact hs

theorem KeptByEvents.arrive (h : KeptByEvents P) {s : State} (r : Request) (hs : P s) : P (s.arrive r) := by
  simp only [State.arrive]
  split
  · exact h.toInbox _ _ hs
  · exact hs

/-- What the operations behind the events keep, every command's effect keeps. -/
theorem KeptByEvents.effect (h : KeptByEvents P) {s : State} (c : Instr) (hs : P s) : P (s.effect c) := by
  cases hr : requestOf c with
  | some r => rw [s.effect_of_request hr]; exact h.arrive r hs
  | none =>
    rw [requestOf.eq_def] at hr
    cases c <;> dsimp only at hr <;> (try contradiction) <;> dsimp only [State.effect]
    case powerOnReset l f => exact h.por _ _ _ hs
    case lineReset => exact h.lineReset _ hs
    case lineResetRelease => exact h.releaseLine _ hs
    case settingsLoad acked image => split; exacts [h.endLoad _ _ _ hs ‹_›, hs]
    case frameBegin => split; exacts [h.beginFrame _ hs, hs]
    case dwellExpiry =>
      split
      · split; exacts [hs, h.dwellExpire _ _ hs ‹_›]
      · exact hs
    case starveTimerExpiry => split; exacts [h.starveExpire _ hs, hs, hs]
    case returnWindowClose => exact h.closeWindow _ hs
    case driveReturn => exact h.takeReturn _ _ _ _ hs
    case startTimerExpiry => split; exacts [h.strokeStalls _ hs ‹_›, hs]
    case stopTimerExpiry => split; exacts [h.strokeStopped _ hs ‹_›, hs]
    case sidxPulse => split; exacts [hs, h.indexPulse _ _ hs]
    case lfqPulse => split; exacts [hs, h.loadPulse _ hs]
    case windowOverflow => split; exacts [h.overflowWindow _ hs, hs]
    case inputLineChange => split; exacts [h.deriveLine _ _ (h.setPins _ _ hs), h.setPins _ _ hs]
    case debounceExpiry => split; exacts [h.takeLine _ _ hs, hs]
    case levelRiseHold => exact h.takeRiseHold _ hs
    case levelRiseHalt => exact h.takeRiseHalt _ hs
    case levelRiseQuickStop => exact h.takeRiseQuickStop _ hs
    case levelFall => exact h.takeFall _ hs
    case busLevelChange => exact h.takeBusLevel _ hs
    case frameReceived => split; exacts [h.judgeFrame _ _ _ _ hs, hs, hs, hs, hs, hs]
    case lengthByteRefused => split; exacts [h.receiveByte _ hs, hs]
    case gapTimeout => exact h.gapExpire hs
    case transmitEnd => exact h.frameSent _ hs
    case blinkToggle => split; exacts [hs, h.toggleBlink _ hs]
    case savePageWritten => exact h.pageWritten _ hs
    case savePollTimeout => exact h.saveFails _ hs
    case saveByteRefused => exact h.saveFails _ hs
    case linkByteReceived => exact h.receiveByte _ hs

/-- A step keeps what the operations behind the events keep, where the end of an event, a cycle of the reference and the queue of
commands keep it too. -/
theorem KeptByEvents.step (h : KeptByEvents P) (hcommit : ∀ s, P s → P s.commit) (htick : ∀ s, P s → P s.tick)
    (hpending : ∀ s cs, P s → P { s with pending := cs }) {s t : State} (hs : P s) (ht : step s = .next t) : P t := by
  simp only [Machine.step] at ht
  split at ht
  · cases ht; exact htick _ hs
  · rw [exec_eq_effect] at ht
    cases ht
    exact hcommit _ (h.effect _ (hpending _ _ hs))

/-! ## Requests, for what does not depend on the link port -/

section
variable (hlink : ∀ s l, P s → P (s.setLink l)) (hserve : ∀ s k body, P s → P (s.serve k body).1)
include hlink hserve

theorem keeps_takeNext {s : State} (hs : P s) : P s.takeNext := by
  simp only [State.takeNext]
  split
  · exact hs
  · split
    · exact hs
    · refine hlink _ _ ?_
      simp only [State.answerBody]
      split
      · exact hlink _ _ hs
      · split
        · exact hserve _ _ _ (hlink _ _ hs)
        · exact hlink _ _ hs

theorem keeps_toInbox {s : State} (r : Request) (hs : P s) : P (s.toInbox r) := by
  simp only [State.toInbox]
  split
  · exact keeps_takeNext hlink hserve (hlink _ _ hs)
  · exact hlink _ _ hs

theorem keeps_frameSent (hreset : ∀ s, P s → P s.reqReset) {s : State} (hs : P s) : P s.frameSent := by
  simp only [State.frameSent]
  split
  · exact hs
  · exact hlink _ _ hs
  · split
    · exact hreset _ (hlink _ _ hs)
    · exact keeps_takeNext hlink hserve (hlink _ _ hs)

end

end Sys2Proof.Machine
end

section
/-! SUPPORT. What the trip unit makes of the conditions handed to it: the actions stand, the level agrees where it agreed (R153), and a level
that rises from NONE leaves a rise waiting for the sequencer (R154). One lemma for each shared operation that hands conditions on. -/

namespace Sys2Proof.Machine

/-- From `s` to `u` at most conditions have been handed to the trip unit. -/
structure State.Handed (s u : State) : Prop where
  actions : ∀ i : Fin 15, (u.trip.sources[i]).action = (s.trip.sources[i]).action
  agrees : s.LevelAgrees → u.LevelAgrees
  waits : s.riseWaits → u.riseWaits
  rises : s.trip.level = .none → u.trip.level ≠ .none → u.riseWaits

theorem State.Handed.trans {s u v : State} (h : s.Handed u) (k : u.Handed v) : s.Handed v where
  actions i := (k.actions i).trans (h.actions i)
  agrees ha := k.agrees (h.agrees ha)
  waits hw := k.waits (h.waits hw)
  rises hs hv := by
    by_cases hu : u.trip.level = .none
    · exact k.rises hu hv
    · exact k.waits (h.rises hs hu)

/-- Nothing is handed on where sources, level and the changes handed to the sequencer stand. -/
theorem State.Handed.of_eq {s u : State} (hs : u.trip.sources = s.trip.sources) (hl : u.trip.level = s.trip.level)
    (hc : u.seq.changes = s.seq.changes) : s.Handed u where
  actions i := by rw [hs]
  agrees := by simp only [State.LevelAgrees, hs, hl]; exact id
  waits := by simp only [State.riseWaits, hc]; exact id
  rises h h' := absurd (hl.trans h) h'

/-- What is handed on behind a step that leaves sources, level and changes. -/
theorem State.Handed.after {s u v : State} (k : u.Handed v) (hs : u.trip.sources = s.trip.sources)
    (hl : u.trip.level = s.trip.level) (hc : u.seq.changes = s.seq.changes) : s.Handed v :=
  (State.Handed.of_eq hs hl hc).trans k

/-- What is handed on before a step that leaves sources, level and changes. -/
theorem State.Handed.before {s u v : State} (h : s.Handed u) (hs : v.trip.sources = u.trip.sources)
    (hl : v.trip.level = u.trip.level) (hc : v.seq.changes = u.seq.changes) : s.Handed v :=
  h.trans (State.Handed.of_eq hs hl hc)

theorem State.Handed.refl (s : State) : s.Handed s := .of_eq rfl rfl rfl

/-- NONE is the lowest level. -/
theorem TripLevel.rank_pos {l : TripLevel} (h : l ≠ .none) : TripLevel.none.rank < l.rank := by
  cases l <;> first | exact absurd rfl h | decide

/-- A condition handed on (R150, R151, R153, R154). -/
theorem State.setCondition_handed (s : State) (i : Fin 15) (b : Bool) : s.Handed (s.setCondition i b) := by
  obtain ⟨hself, hothers, -, hlevel, ⟨hseq, -⟩, -⟩ := s.setCondition_taken i b
  have hact : ∀ j : Fin 15, ((s.setCondition i b).trip.sources[j]).action = (s.trip.sources[j]).action := fun j => by
    by_cases hj : j = i
    · rw [hj, hself]
    · rw [hothers j hj]
  refine ⟨hact, fun ha => ?_, fun ⟨c, hc, hr⟩ => ⟨c, ?_, hr⟩, fun hn hu => ?_⟩
  · by_cases hm : (s.trip.sources[i]).condition ≠ b ∧ (b = true ∨ (s.trip.sources[i]).state = .active)
    · rw [State.LevelAgrees, hlevel, if_pos hm]
    · rw [if_neg hm] at hself hlevel
      have hlev : ∀ j : Fin 15, ((s.setCondition i b).trip.sources[j]).level = (s.trip.sources[j]).level := fun j => by
        by_cases hj : j = i
        · rw [hj, hself]; simp only [Source.level]
        · rw [hothers j hj]
      have hlist : (s.setCondition i b).trip.sources.toList.map Source.level = s.trip.sources.toList.map Source.level := by
        refine List.ext_getElem (by simp) fun n h1 h2 => ?_
        simpa using hlev ⟨n, by simpa using h1⟩
      have hfold : ∀ v : Vector Source 15, levelOf v = (v.toList.map Source.level).foldl TripLevel.worse .none :=
        fun v => by rw [levelOf, List.foldl_map]
      rw [State.LevelAgrees, hlevel, ha, hfold, hfold, hlist]
  · rw [hseq]; exact List.mem_append_left _ hc
  · rw [hn] at hseq
    refine ⟨⟨.none, (s.setCondition i b).trip.level⟩, ?_, TripLevel.rank_pos hu⟩
    rw [hseq, if_neg hu]
    exact List.mem_append_right _ (List.mem_singleton_self _)

/-! ## The trip unit's own operations -/

theorem State.setFaultSet_handed (s : State) (m : BitVec 4) : s.Handed (s.setFaultSet m) := by
  simp only [State.setFaultSet]
  split
  · exact s.setCondition_handed 13 false
  · exact (State.setCondition_handed _ 13 true).after rfl rfl rfl

theorem State.setLostSet_handed (s : State) (m : BitVec 4) : s.Handed (s.setLostSet m) := by
  simp only [State.setLostSet]
  split
  · exact s.setCondition_handed 14 false
  · exact (State.setCondition_handed _ 14 true).after rfl rfl rfl

theorem State.takeLine_handed (s : State) (i : Fin 8) : s.Handed (s.takeLine i) :=
  (State.setCondition_handed _ _ _).after rfl rfl rfl

theorem State.lineBecomes_handed (s : State) (i : Fin 8) (b : Bool) : s.Handed (s.lineBecomes i b) := by
  simp only [State.lineBecomes]
  split
  · exact .of_eq rfl rfl rfl
  · split
    · exact (State.takeLine_handed _ i).after rfl rfl rfl
    · exact .of_eq rfl rfl rfl

theorem State.deriveLine_handed (s : State) (i : Fin 8) : s.Handed (s.deriveLine i) := by
  simp only [State.deriveLine]
  split
  · exact .refl s
  · exact s.lineBecomes_handed i _

/-- A run of operations each of which hands conditions on. -/
theorem State.foldl_handed {α : Type} {f : State → α → State} (hf : ∀ (s : State) (a : α), s.Handed (f s a)) (l : List α) (s : State) :
    s.Handed (l.foldl f s) := by
  induction l generalizing s with
  | nil => exact .refl s
  | cons a rest ih => exact (hf s a).trans (ih (f s a))

theorem State.readInputs_handed (s : State) : s.Handed s.readInputs :=
  State.foldl_handed (fun t i => t.deriveLine_handed i) _ s

theorem State.writeInput_handed (s : State) (i : Fin 8) (p : Polarity) (d : Nat) : s.Handed (s.writeInput i p d) := by
  have hderive := State.Handed.trans
    (.of_eq rfl rfl rfl : s.Handed (s.setTrip (s.trip.putInput i { s.trip.inputs[i] with polarity := p, debounce := d })))
    (State.deriveLine_handed _ i)
  simp only [State.writeInput]
  split
  · exact hderive.trans (State.takeLine_handed _ i)
  · exact hderive

/-! ## The stroke unit and the classifier -/

theorem State.setStall_handed (s : State) (b : Bool) : s.Handed (s.setStall b) := by
  simp only [State.setStall]
  split
  · exact .refl s
  · exact (State.setCondition_handed _ 9 b).after rfl rfl rfl

theorem State.setOverload_handed (s : State) (b : Bool) : s.Handed (s.setOverload b) := by
  simp only [State.setOverload]
  split
  · exact .refl s
  · exact (State.setCondition_handed _ 8 b).after rfl rfl rfl

theorem State.failTare_handed (s : State) : s.Handed s.failTare := .of_eq (by simp) (by simp) (by simp)

theorem State.strokeStart_handed (s : State) : s.Handed s.strokeStart := by
  simp only [State.strokeStart]
  split
  · exact .of_eq rfl rfl rfl
  · exact (State.setStall_handed _ false).after rfl rfl rfl
  all_goals exact .refl s

theorem State.strokeStopped_handed (s : State) : s.Handed s.strokeStopped := by
  refine .trans ?_ (State.setOverload_handed _ false)
  exact (State.setStall_handed _ false).after rfl rfl rfl

theorem State.strokeStalls_handed (s : State) : s.Handed s.strokeStalls := by
  refine .trans ?_ (State.failTare_handed _)
  exact (State.setStall_handed _ true).after rfl rfl rfl

theorem State.strokeRuns_handed (s : State) : s.Handed s.strokeRuns := by
  have hstall := State.Handed.trans
    (.of_eq rfl rfl rfl : s.Handed (s.setStroke { s.stroke with state := .running, slow := 0 }))
    (State.setStall_handed _ false)
  simp only [State.strokeRuns]
  split
  · exact hstall.trans (.of_eq rfl rfl rfl)
  · exact hstall

theorem State.judge_handed (s : State) (fm : Nat) : s.Handed (s.judge fm) := by
  simp only [State.judge]
  repeat' split
  all_goals first
    | exact .refl s
    | exact .of_eq rfl rfl rfl
    | exact s.strokeStalls_handed
    | exact s.strokeRuns_handed
    | exact (State.strokeRuns_handed _).after rfl rfl rfl

theorem State.tareWindow_handed (s : State) (lf : Nat) : s.Handed (s.tareWindow lf) :=
  .of_eq (by simp) (by simp) (by simp)

theorem State.takeWindowRecord_handed (s : State) (r : WindowRecord) : s.Handed (s.takeWindowRecord r) := by
  have hload : s.Handed (if r.runningAtCompletion
      then s.setOverload (decide (s.params.overloadCeiling ≤ cuttingLoad r.lf s.params.airFigure)) else s) := by
    split
    · exact s.setOverload_handed _
    · exact .refl s
  simp only [State.takeWindowRecord]
  split
  · exact hload.trans (.of_eq (by simp) (by simp) (by simp))
  · exact hload

theorem State.completeWindow_handed (s : State) (w : Window) : s.Handed (s.completeWindow w) := by
  have hjudge : ∀ fm lf, s.Handed (State.judge (s.setStroke { s.stroke with fm := fm, lf := lf, window := none }) fm) :=
    fun fm lf => (State.judge_handed _ fm).after rfl rfl rfl
  simp only [State.completeWindow]
  refine .trans ?_ ((State.tareWindow_handed _ _).trans (.of_eq rfl rfl rfl))
  split
  · exact (hjudge _ _).trans (State.takeWindowRecord_handed _ _)
  · exact hjudge _ _

theorem State.overflowWindow_handed (s : State) : s.Handed s.overflowWindow := by
  simp only [State.overflowWindow]
  split
  · exact .of_eq rfl rfl rfl
  · exact (State.strokeStalls_handed _).after rfl rfl rfl
  all_goals exact .of_eq rfl rfl rfl

theorem State.indexPulse_handed (s : State) (n : Nat) : s.Handed (s.indexPulse n) := by
  simp only [State.indexPulse]
  split
  · exact .of_eq rfl rfl rfl
  · split
    · exact s.overflowWindow_handed.trans (.of_eq rfl rfl rfl)
    · simp only [State.pulseInWindow]
      split
      · exact s.completeWindow_handed _
      · exact .of_eq rfl rfl rfl

/-! ## The sequencer -/

theorem State.enterProgram_handed (s : State) (e : Engine) (c : Cause) : s.Handed (s.enterProgram e c) := by
  have hstart : s.Handed (if s.seq.engine.runsProgram then s else s.strokeStart) := by
    split
    · exact .refl s
    · exact s.strokeStart_handed
  exact hstart.before (by simp [State.enterProgram]) (by simp [State.enterProgram]) (by simp [State.enterProgram])

theorem State.dispatch_handed (s : State) (c : Cause) (keep : Bool) : s.Handed (s.dispatch c keep) := by
  simp only [State.dispatch]
  split
  · exact .of_eq (by simp) (by simp) (by simp)
  · split
    · split
      · exact s.enterProgram_handed _ _
      · exact (State.enterProgram_handed _ _ _).after rfl rfl rfl
    · exact .of_eq (by simp) (by simp) (by simp)
    · split
      · exact (State.enterProgram_handed _ _ _).after rfl rfl rfl
      · exact s.enterProgram_handed _ _

theorem State.dwellExpire_handed (s : State) : s.Handed s.dwellExpire :=
  .trans (.of_eq (by simp) (by simp) (by simp)) (State.dispatch_handed _ _ _)

theorem State.arrival_handed (s : State) : s.Handed s.arrival := by
  simp only [State.arrival]
  split
  · exact (State.dispatch_handed _ _ _).after rfl rfl rfl
  · exact .refl s

/-! ## The drive bus -/

theorem State.setLost_handed (s : State) (k : Slot) (b : Bool) : s.Handed (s.setLost k b) := by
  simp only [State.setLost]
  split
  · exact .refl s
  · exact (State.setLostSet_handed _ _).after rfl rfl rfl

theorem State.setFault_handed (s : State) (k : Slot) (b : Bool) : s.Handed (s.setFault k b) := by
  simp only [State.setFault]
  split
  · exact .refl s
  · exact (State.setFaultSet_handed _ _).after rfl rfl rfl

theorem State.setFollowing_handed (s : State) (k : Slot) (b : Bool) : s.Handed (s.setFollowing k b) := by
  simp only [State.setFollowing]
  split
  · exact .refl s
  · split
    · exact .refl s
    · exact (State.setCondition_handed _ _ _).after rfl rfl rfl

theorem State.deactivateSlot_handed (s : State) (k : Slot) : s.Handed (s.deactivateSlot k) := by
  simp only [State.deactivateSlot]
  refine .before ?_ (u := State.setFollowing _ k false) rfl rfl rfl
  refine .trans ?_ (State.setFollowing_handed _ k false)
  exact (s.setLost_handed k false).trans (State.setFault_handed _ k false)

theorem State.openSlot_handed (s : State) (k : Slot) : s.Handed (s.openSlot k) := by
  simp only [State.openSlot]
  split
  · split <;> exact .of_eq rfl rfl rfl
  · split
    · exact s.deactivateSlot_handed k
    · exact .refl s

theorem State.openFrame_handed (s : State) : s.Handed s.openFrame := by
  refine .trans ?_ (State.openSlot_handed _ .s)
  refine .trans ?_ (State.openSlot_handed _ .h)
  refine .trans ?_ (State.openSlot_handed _ .y)
  exact (State.openSlot_handed _ .x).after rfl rfl rfl

theorem State.sendSlot_handed (s : State) (k : Slot) : s.Handed (s.sendSlot k) := by
  simp only [State.sendSlot]
  split
  · exact .of_eq rfl rfl rfl
  · exact (State.setFollowing_handed _ _ _).after rfl rfl rfl

theorem State.sendFirstOf_handed (ks : List Slot) (s : State) : s.Handed (State.sendFirstOf ks s) := by
  induction ks with
  | nil => exact .of_eq rfl rfl rfl
  | cons k rest ih =>
    simp only [State.sendFirstOf]
    split
    · exact s.sendSlot_handed k
    · exact ih

theorem State.missReturn_handed (s : State) (k : Slot) : s.Handed (s.missReturn k) := by
  simp only [State.missReturn]
  split
  · exact (State.setLost_handed _ _ _).after rfl rfl rfl
  · exact .of_eq rfl rfl rfl

theorem State.adoptStage_handed (s : State) (k : Slot) (b : Bool) (a : Int) : s.Handed (s.adoptStage k b a) :=
  .of_eq (by simp) (by simp) (by simp)

theorem State.followStage_handed (s : State) (k : Slot) (b : Bool) (a : Int) : s.Handed (s.followStage k b a) := by
  simp only [State.followStage]
  split
  · exact .refl s
  · split
    · exact s.setFollowing_handed _ _
    · exact .refl s

theorem State.restStage_handed (s : State) (k : Slot) (b : Bool) : s.Handed (s.restStage k b) := by
  simp only [State.restStage]
  repeat' split
  all_goals first
    | exact .refl s
    | exact s.strokeStopped_handed

theorem State.validReturn_handed (s : State) (k : Slot) (status : Byte) (a : Int) : s.Handed (s.validReturn k status a) := by
  simp only [State.validReturn]
  refine .trans ?_ (State.restStage_handed _ _ _)
  refine .trans ?_ (State.followStage_handed _ _ _ _)
  refine .trans ?_ (State.adoptStage_handed _ _ _ _)
  refine .trans ?_ (State.setFault_handed _ _ _)
  refine .before ?_ (u := State.setLost _ _ _) rfl rfl rfl
  exact (State.setLost_handed _ _ _).after rfl rfl rfl

theorem State.takeReturn_handed (s : State) (status : Byte) (actual : Word) (crc : Byte) :
    s.Handed (s.takeReturn status actual crc) := by
  simp only [State.takeReturn]
  split
  · exact .of_eq rfl rfl rfl
  · split
    · exact .refl s
    · split
      · exact (State.validReturn_handed _ _ _ _).after rfl rfl rfl
      · exact (State.missReturn_handed _ _).after rfl rfl rfl

theorem State.closeWindow_handed (s : State) : s.Handed s.closeWindow := by
  simp only [State.closeWindow]
  split
  · exact .of_eq rfl rfl rfl
  · refine .trans ?_ (State.sendFirstOf_handed _ _)
    split
    · exact .of_eq rfl rfl rfl
    · exact (State.missReturn_handed _ _).after rfl rfl rfl

/-! ## The frame -/

theorem State.countTimers_handed (s : State) (e : Engine) (st : StrokeState) : s.Handed (s.countTimers e st) := by
  have hdwell : ∀ t : State, t.Handed t.countDwell := fun t => by
    simp only [State.countDwell]
    split
    · exact .refl t
    · split
      · exact (State.dwellExpire_handed _).after rfl rfl rfl
      · exact .of_eq rfl rfl rfl
  have hstarve : ∀ t : State, t.Handed t.countStarve := fun t => .of_eq (by simp) (by simp) (by simp)
  have hstart : ∀ t : State, t.Handed t.countStart := fun t => by
    simp only [State.countStart]
    split
    · exact .refl t
    · split
      · exact t.strokeStalls_handed
      · exact .of_eq rfl rfl rfl
  have hstop : ∀ t : State, t.Handed t.countStop := fun t => by
    simp only [State.countStop]
    split
    · exact .refl t
    · split
      · exact t.strokeStopped_handed
      · exact .of_eq rfl rfl rfl
  have hif : ∀ (p : Prop) [Decidable p] (f : State → State) (t : State), (∀ t : State, t.Handed (f t)) →
      t.Handed (if p then f t else t) := fun p _ f t hf => by
    split
    · exact hf t
    · exact .refl t
  simp only [State.countTimers]
  exact (((hif _ _ s hdwell).trans (hif _ _ _ hstarve)).trans (hif _ _ _ hstart)).trans (hif _ _ _ hstop)

theorem State.afterWork_handed (s : State) (w : FrameWork) : s.Handed (s.afterWork w) := by
  simp only [State.afterWork]
  split
  · exact s.dispatch_handed _ _
  · split
    · exact s.enterProgram_handed _ _
    · exact .refl s

theorem State.restTest_handed (s : State) : s.Handed s.restTest := .of_eq (by simp) (by simp) (by simp)

theorem State.frameWork_handed (s : State) : s.Handed s.frameWork := by
  simp only [State.frameWork]
  refine .before ?_ (u := State.restTest _) rfl rfl rfl
  refine .trans ?_ (State.restTest_handed _)
  refine .trans ?_ (State.afterWork_handed _ _)
  exact s.openFrame_handed.trans (.of_eq (by simp) (by simp) (by simp))

theorem State.sendFrame_handed (s : State) : s.Handed s.sendFrame :=
  (State.sendFirstOf_handed _ _).after rfl rfl rfl

theorem State.beginFrame_handed (s : State) : s.Handed s.beginFrame :=
  (s.frameWork_handed.trans (State.countTimers_handed _ _ _)).trans (State.sendFrame_handed _)

theorem State.busStart_handed (s : State) : s.Handed s.busStart :=
  (State.beginFrame_handed _).after rfl rfl rfl

/-! ## Requests -/

theorem State.serveTare_handed (s : State) : s.Handed s.serveTare.1 := by
  simp only [State.serveTare]
  repeat' split
  all_goals first
    | exact .refl s
    | exact .of_eq rfl rfl rfl
    | exact (State.strokeStart_handed _).after rfl rfl rfl

theorem State.serveStart_handed (s : State) : s.Handed s.serveStart.1 := by
  simp only [State.serveStart]
  repeat' split
  all_goals first
    | exact .refl s
    | exact s.dispatch_handed _ _

theorem State.actOnMemory_handed (s : State) : s.Handed s.actOnMemory :=
  (State.dispatch_handed _ _ _).after rfl rfl rfl

theorem State.serveResume_handed (s : State) : s.Handed s.serveResume.1 := by
  simp only [State.serveResume]
  repeat' split
  all_goals first
    | exact .refl s
    | exact s.actOnMemory_handed
    | exact s.strokeStart_handed.trans (State.actOnMemory_handed _)
    | exact (State.enterProgram_handed _ _ _).after rfl rfl rfl

theorem State.serveSegments_handed (s : State) (body : List Byte) : s.Handed (s.serveSegments body).1 := by
  have hbody : s.Handed (s.takeBody body).1 := .of_eq (by simp) (by simp) (by simp)
  simp only [State.serveSegments]
  split
  · exact hbody
  · exact hbody.trans (State.arrival_handed _)

end Sys2Proof.Machine
end

section
/-! SUPPORT. The trip level agrees with the sources (R153), the guards stand at HALT or above (R145), and the engine does not move on under a
trip level whose rise has been taken (R68): what each of the events keeps. -/

namespace Sys2Proof.Machine

/-! ## Sources that stand CLEAR after a reset -/

/-- Sources of which none is ACTIVE or LATCHED give the level NONE. -/
theorem levelOf_eq_none {v : Vector Source 15} (h : ∀ i : Fin 15, (v[i]).state = .clear) : levelOf v = .none := by
  have hall : ∀ src ∈ v.toList, src.level = .none := fun src hsrc => by
    obtain ⟨n, hn, rfl⟩ := List.getElem_of_mem hsrc
    have := h ⟨n, by simpa using hn⟩
    simp only [Fin.getElem_fin] at this
    simp [Source.level, this]
  have hfold : ∀ l : List Source, (∀ src ∈ l, src.level = .none) →
      l.foldl (fun (l : TripLevel) src => l.worse src.level) .none = .none := fun l => by
    induction l with
    | nil => exact fun _ => rfl
    | cons src rest ih =>
      intro hl
      obtain ⟨hsrc, hrest⟩ := List.forall_mem_cons.mp hl
      rw [List.foldl_cons, hsrc]
      exact ih hrest
  exact hfold _ hall

/-- A state whose sources are CLEAR and whose level is NONE agrees. -/
theorem State.levelAgrees_of_clear {s : State} (h : ∀ i : Fin 15, (s.trip.sources[i]).state = .clear)
    (hl : s.trip.level = .none) : s.LevelAgrees :=
  hl.trans (levelOf_eq_none h).symm

theorem State.resetBlocks_source (s : State) (i : Fin 15) :
    s.resetBlocks.trip.sources[i] = Source.fresh (s.trip.sources[i]).action := by
  simp [State.resetBlocks, TripUnit.reset]

theorem State.por_source (s : State) (l f : Bool) (i : Fin 15) :
    (s.por l f).trip.sources[i] = Source.fresh (romActions[i]) := by
  simp [State.por, State.resetBlocks, TripUnit.reset, TripUnit.rom, romSources, Source.fresh]

/-- The sources of an image stand CLEAR under its actions. -/
theorem imageSources_get (image : List Byte) (i : Fin 15) :
    (imageSources image)[i] = Source.fresh (Action.ofCode (readByte image (181 + i.val)).toNat) := by
  have hindex : ∀ i : Fin 15, (#v[0, 1, 2, 3, 4, 5, 6, 7, 8, 9, 10, 11, 12, 13, 14] : Vector Nat 15)[i] = i.val := by decide
  simp only [imageSources, Fin.getElem_fin, Vector.getElem_map]
  exact congrArg (fun n => Source.fresh (Action.ofCode (readByte image (181 + n)).toNat)) (hindex i)

/-- The sources that the settings load leaves before the inputs are read (R144, R190). -/
theorem State.fillWorkingSet_source (s : State) (acked : Nat) (image : List Byte) (i : Fin 15) :
    (s.fillWorkingSet acked image).trip.sources[i] =
      Source.fresh (if loadSource s.startup.safeNHigh acked image = .stored
        then Action.ofCode (readByte image (181 + i.val)).toNat else romActions[i]) := by
  by_cases h : loadSource s.startup.safeNHigh acked image = .stored
  · simp only [State.fillWorkingSet, h, if_true, State.setTrip_trip, imageSources_get]
  · simp [State.fillWorkingSet, h, romSources]

/-- The settings load ends in conditions handed on from sources that stand CLEAR under NONE. -/
theorem State.endLoad_handed (s : State) (acked : Nat) (image : List Byte) :
    ((s.fillWorkingSet acked image).takeWorkingSet).Handed (s.endLoad acked image) := by
  have hlink : ∀ t : State, t.Handed t.enableLink := fun t => .of_eq (by simp) (by simp) (by simp)
  refine .trans ?_ (hlink _)
  exact (State.readInputs_handed _).trans (State.busStart_handed _)

/-- A host RESET up to the reading of the lines: the blocks after REQ, with its report (R175, R193). -/
def State.reqCleared (s : State) : State :=
  (((s.resetBlocks.setNotice s.notice.cleared).setLink { s.link with
    receiver := .hunt, gap := 0, inbox := [], reply := none, transmitter := .free, sequence := 0
    resetPending := false }).noteIdle s.seq.engine).offerTransmit

theorem State.reqReset_eq (s : State) :
    s.reqReset = if s.bus.returnAwaited
      then s.reqCleared.readInputs.busStart.setBus s.reqCleared.readInputs.busStart.bus.holdWindow
      else s.reqCleared.readInputs.busStart := by
  rfl

theorem State.reqCleared_trip (s : State) : s.reqCleared.trip = s.resetBlocks.trip := by
  simp [State.reqCleared]

theorem State.reqCleared_seq (s : State) : s.reqCleared.seq = s.resetBlocks.seq := by
  simp [State.reqCleared]

theorem State.setBus_handed (s : State) (b : Bus) : s.Handed (s.setBus b) :=
  .of_eq (by simp) (by simp) (by simp)

/-- A host RESET ends in conditions handed on from sources that stand CLEAR under NONE. -/
theorem State.reqReset_handed (s : State) : s.resetBlocks.Handed s.reqReset := by
  have hread : s.reqCleared.Handed s.reqCleared.readInputs.busStart :=
    (State.readInputs_handed _).trans (State.busStart_handed _)
  have hstart : s.resetBlocks.Handed s.reqCleared.readInputs.busStart :=
    hread.after (by rw [s.reqCleared_trip]) (by rw [s.reqCleared_trip]) (by rw [s.reqCleared_seq])
  rw [State.reqReset_eq]
  split
  · exact hstart.trans (State.setBus_handed _ _)
  · exact hstart

/-! ## The two requests that write the trip unit -/

/-- A recomputation keeps the rises that wait, and a level that rises from NONE leaves one waiting. -/
theorem State.recompute_rises (s : State) :
    (s.riseWaits → s.recompute.riseWaits) ∧
    (s.trip.level = .none → s.recompute.trip.level ≠ .none → s.recompute.riseWaits) := by
  obtain ⟨hlevel, hsame, hchanged⟩ := s.recompute_spec
  by_cases h : levelOf s.trip.sources = s.trip.level
  · rw [hsame h]
    exact ⟨id, fun hn hu => absurd hn hu⟩
  · obtain ⟨hc, -⟩ := hchanged h
    refine ⟨fun ⟨c, hm, hr⟩ => ⟨c, ?_, hr⟩, fun hn hu => ⟨⟨.none, levelOf s.trip.sources⟩, ?_, ?_⟩⟩
    · rw [hc]; exact List.mem_append_left _ hm
    · rw [hc, hn]; exact List.mem_append_right _ (List.mem_singleton_self _)
    · exact TripLevel.rank_pos (hlevel ▸ hu)

/-- A change of action recomputes the level (R155). -/
theorem State.writeAction_eq (s : State) (i : Fin 15) (a : Action) :
    let u := (s.setTrip (s.trip.putSource i { s.trip.sources[i] with action := a })).recompute
    (s.writeAction i a).trip = u.trip ∧ (s.writeAction i a).seq = u.seq ∧ (s.writeAction i a).bus = u.bus := by
  simp only [State.writeAction]
  split <;> simp

theorem State.writeAction_agrees (s : State) (i : Fin 15) (a : Action) : (s.writeAction i a).LevelAgrees := by
  rw [State.LevelAgrees, (s.writeAction_eq i a).1, (State.recompute_spec _).1]
  simp

/-- The action that SET_TRIP stores on a guard is HALT or QUICK_STOP (R145, R155). -/
theorem storedAction_guard {i : Fin 15} (h : 10 ≤ i.val) (code : Byte) :
    storedAction i code = .halt ∨ storedAction i code = .quickStop := by
  simp only [storedAction, lowestAction, if_pos h]
  cases Action.ofCode code.toNat <;> simp [Action.rank]

theorem State.writeAction_guards {s : State} (h : s.GuardsStand) (i : Fin 15) (code : Byte) :
    (s.writeAction i (storedAction i code)).GuardsStand := fun j hj => by
  rw [(s.writeAction_eq i _).1]
  by_cases hij : j = i
  · subst hij
    simpa using storedAction_guard hj code
  · have hne : i.val ≠ j.val := fun e => hij (Fin.ext e.symm)
    simpa [Vector.getElem_set_ne _ _ hne] using h j hj

/-- SET_TRIP writes the action, and of an input then polarity and debounce time (R155). -/
theorem State.serveSetTrip_handed (s : State) (index action polarity debounce : Byte) :
    (s.serveSetTrip index action polarity debounce).1 = s ∨
      ∃ i : Fin 15, (s.writeAction i (storedAction i action)).Handed (s.serveSetTrip index action polarity debounce).1 := by
  simp only [State.serveSetTrip]
  split
  · refine .inr ⟨⟨index.toNat, ‹_›⟩, ?_⟩
    split
    · exact .refl _
    · exact State.writeInput_handed _ _ _ _
  · exact .inl rfl

/-- CLEAR_TRIPS recomputes the level once over the sources cleared (R157). -/
theorem State.clearTrips_recomputes (s : State) :
    ∃ t : TripUnit, t.sources = s.trip.sources.map Source.cleared ∧ t.level = s.trip.level ∧
      s.clearTrips.trip = (s.setTrip t).recompute.trip ∧ s.clearTrips.seq = (s.setTrip t).recompute.seq := by
  refine ⟨{ s.trip with
    sources := s.trip.sources.map Source.cleared
    faultSet := if s.trip.sources[13].state = .latched then 0 else s.trip.faultSet
    lostSet := if s.trip.sources[14].state = .latched then 0 else s.trip.lostSet }, rfl, rfl, ?_, ?_⟩ <;>
  simp [State.clearTrips]

theorem Source.cleared_action (src : Source) : src.cleared.action = src.action := by
  simp only [Source.cleared]
  split <;> rfl

/-- Every other request at most hands conditions on. -/
theorem State.serve_handed (s : State) (k : RequestKind) (body : List Byte) (ht : k ≠ .setTrip) (hc : k ≠ .clearTrips) :
    s.Handed (s.serve k body).1 := by
  cases k <;> simp only [State.serve, resultBody]
  case setTrip => exact absurd rfl ht
  case clearTrips => exact absurd rfl hc
  case segments => exact s.serveSegments_handed body
  case start => exact s.serveStart_handed
  case resume => exact s.serveResume_handed
  case tare => exact s.serveTare_handed
  all_goals exact .of_eq (by simp) (by simp) (by simp)

/-! ## The level agrees (R153) -/

theorem State.serve_agrees {s : State} (h : s.LevelAgrees) (k : RequestKind) (body : List Byte) :
    (s.serve k body).1.LevelAgrees := by
  by_cases ht : k = .setTrip
  · subst ht
    obtain he | ⟨i, hi⟩ := s.serveSetTrip_handed (readByte body 0) (readByte body 1) (readByte body 2) (readByte body 3)
    · simp only [State.serve, he, h]
    · exact hi.agrees (s.writeAction_agrees i _)
  by_cases hc : k = .clearTrips
  · subst hc
    obtain ⟨t, -, -, htrip, -⟩ := s.clearTrips_recomputes
    simp [State.serve, State.serveClearTrips, State.LevelAgrees, htrip, (State.recompute_spec _).1]
  exact (s.serve_handed k body ht hc).agrees h

/-- A condition handed on keeps the agreement, so do the reactions of the sequencer, which leave the trip unit. -/
theorem levelAgrees_kept : KeptByEvents State.LevelAgrees where
  por s l f _ := State.levelAgrees_of_clear (fun i => by rw [s.por_source]; rfl) rfl
  lineReset s _ := State.levelAgrees_of_clear (s := s.resetBlocks) (fun i => by rw [s.resetBlocks_source]; rfl) rfl
  releaseLine s h := by simpa [State.LevelAgrees] using h
  endLoad s acked image _ _ := (s.endLoad_handed acked image).agrees <|
    State.levelAgrees_of_clear (s := s.fillWorkingSet acked image) (fun i => by rw [s.fillWorkingSet_source]; rfl) rfl
  beginFrame s h := s.beginFrame_handed.agrees h
  dwellExpire s d h _ := (State.dwellExpire_handed _).agrees h
  starveExpire s h := by simpa [State.LevelAgrees] using h
  closeWindow s h := s.closeWindow_handed.agrees h
  takeReturn s st a c h := (s.takeReturn_handed st a c).agrees h
  strokeStalls s h _ := s.strokeStalls_handed.agrees h
  strokeStopped s h _ := s.strokeStopped_handed.agrees h
  indexPulse s n h := (s.indexPulse_handed n).agrees h
  loadPulse s h := by simpa [State.LevelAgrees] using h
  overflowWindow s h := s.overflowWindow_handed.agrees h
  setPins s v h := h
  deriveLine s i h := (s.deriveLine_handed i).agrees h
  takeLine s i h := (s.takeLine_handed i).agrees h
  takeRiseHold s h := by simpa [State.LevelAgrees] using h
  takeRiseHalt s h := by simpa [State.LevelAgrees] using h
  takeRiseQuickStop s h := by simpa [State.LevelAgrees] using h
  takeFall s h := by simpa [State.LevelAgrees] using h
  takeBusLevel s h := by simpa [State.LevelAgrees] using h
  setReceiver s r h := h
  countLink s a b c d h := h
  toInbox s r h := keeps_toInbox (P := State.LevelAgrees) (fun _ _ => id) (fun _ k body h => State.serve_agrees h k body) r h
  frameSent s h := keeps_frameSent (P := State.LevelAgrees) (fun _ _ => id) (fun _ k body h => State.serve_agrees h k body)
    (fun t _ => t.reqReset_handed.agrees <|
      State.levelAgrees_of_clear (fun i => by rw [t.resetBlocks_source]; rfl) rfl) h
  toggleBlink s h := by simpa [State.LevelAgrees] using h
  pageWritten s h := by simpa [State.LevelAgrees] using h
  saveFails s h := by simpa [State.LevelAgrees] using h

/-- Settles O4, by what each event makes of the trip unit. -/
theorem tripLevelAgreesKept : Obligations.TripLevelAgreesKept := fun _ _ hs ht =>
  levelAgrees_kept.step (fun s h => by simpa [State.LevelAgrees] using h) (fun s h => by simpa [State.LevelAgrees] using h)
    (fun _ _ h => h) hs ht

/-! ## The guards stand (R145) -/

theorem State.Handed.guards {s u : State} (h : s.Handed u) (hg : s.GuardsStand) : u.GuardsStand := fun i hi => by
  rw [h.actions i]
  exact hg i hi

/-- The default actions of the guards are QUICK_STOP. -/
theorem romActions_guard {i : Fin 15} (h : 10 ≤ i.val) : romActions[i] = .quickStop := by
  revert i
  decide

theorem State.serve_guards {s : State} (h : s.GuardsStand) (k : RequestKind) (body : List Byte) :
    (s.serve k body).1.GuardsStand := by
  by_cases ht : k = .setTrip
  · subst ht
    obtain he | ⟨i, hi⟩ := s.serveSetTrip_handed (readByte body 0) (readByte body 1) (readByte body 2) (readByte body 3)
    · simp only [State.serve, he, h]
    · exact hi.guards (State.writeAction_guards h i _)
  by_cases hc : k = .clearTrips
  · subst hc
    obtain ⟨t, hsources, -, htrip, -⟩ := s.clearTrips_recomputes
    intro i hi
    simpa [State.serve, State.serveClearTrips, htrip, hsources, Source.cleared_action] using h i hi
  exact (s.serve_handed k body ht hc).guards h

theorem State.resetBlocks_guards {s : State} (h : s.GuardsStand) : s.resetBlocks.GuardsStand := fun i hi => by
  rw [s.resetBlocks_source]
  exact h i hi

/-- The source is STORED only where none of the grounds for a default lies in the image (R190). -/
theorem imageGood_of_stored {safe : Bool} {acked : Nat} {image : List Byte} (h : loadSource safe acked image = .stored) :
    ImageGood image := by
  rw [← imageGood_iff]
  simp only [loadSource] at h
  repeat' split at h
  all_goals simp_all

/-- The load stores an image only where its guards stand at HALT or above (R190). -/
theorem State.fillWorkingSet_guards (s : State) (acked : Nat) (image : List Byte) :
    (s.fillWorkingSet acked image).GuardsStand := fun i hi => by
  rw [s.fillWorkingSet_source]
  by_cases hsource : loadSource s.startup.safeNHigh acked image = .stored
  · have hgood := imageGood_of_stored hsource
    obtain ⟨-, -, -, -, -, -, -, -, -, hactions, -⟩ := hgood
    obtain ⟨htop, hbottom⟩ := hactions i.val i.isLt
    have hcode : (readByte image (181 + i.val)).toNat = 3 ∨ (readByte image (181 + i.val)).toNat = 4 := by
      have := hbottom hi
      omega
    rw [if_pos hsource]
    obtain hcode | hcode := hcode <;> simp [hcode, Source.fresh, Action.ofCode]
  · rw [if_neg hsource]
    exact .inr (romActions_guard hi)

theorem State.GuardsStand.of_eq {s u : State} (h : s.GuardsStand) (hs : u.trip.sources = s.trip.sources) :
    u.GuardsStand := by
  simpa only [State.GuardsStand, hs] using h

theorem guardsStand_kept : KeptByEvents State.GuardsStand where
  por s l f _ i hi := by rw [s.por_source]; exact .inr (romActions_guard hi)
  lineReset s h := (State.resetBlocks_guards h).of_eq rfl
  releaseLine s h := h.of_eq (by simp)
  endLoad s acked image _ _ := (s.endLoad_handed acked image).guards ((s.fillWorkingSet_guards acked image).of_eq rfl)
  beginFrame s h := s.beginFrame_handed.guards h
  dwellExpire s d h _ := (State.dwellExpire_handed _).guards h
  starveExpire s h := h.of_eq (by simp)
  closeWindow s h := s.closeWindow_handed.guards h
  takeReturn s st a c h := (s.takeReturn_handed st a c).guards h
  strokeStalls s h _ := s.strokeStalls_handed.guards h
  strokeStopped s h _ := s.strokeStopped_handed.guards h
  indexPulse s n h := (s.indexPulse_handed n).guards h
  loadPulse s h := h.of_eq (by simp)
  overflowWindow s h := s.overflowWindow_handed.guards h
  setPins s v h := h
  deriveLine s i h := (s.deriveLine_handed i).guards h
  takeLine s i h := (s.takeLine_handed i).guards h
  takeRiseHold s h := h.of_eq (by simp)
  takeRiseHalt s h := h.of_eq (by simp)
  takeRiseQuickStop s h := h.of_eq (by simp)
  takeFall s h := h.of_eq (by simp)
  takeBusLevel s h := h.of_eq (by simp)
  setReceiver s r h := h
  countLink s a b c d h := h
  toInbox s r h := keeps_toInbox (P := State.GuardsStand) (fun _ _ => id) (fun _ k body h => State.serve_guards h k body) r h
  frameSent s h := keeps_frameSent (P := State.GuardsStand) (fun _ _ => id) (fun _ k body h => State.serve_guards h k body)
    (fun t h => t.reqReset_handed.guards (State.resetBlocks_guards h)) h
  toggleBlink s h := h.of_eq (by simp)
  pageWritten s h := h.of_eq (by simp)
  saveFails s h := h.of_eq (by simp)

/-- Every step keeps the guards at HALT or above. -/
theorem State.GuardsStand.step {s t : State} (hs : s.GuardsStand) (ht : Machine.step s = .next t) : t.GuardsStand :=
  guardsStand_kept.step (fun _ h => h.of_eq (by simp)) (fun _ h => h.of_eq (by simp)) (fun _ _ h => h) hs ht

end Sys2Proof.Machine
end


section
/-! SUPPORT. The engine state that each operation of the sequencer leads to (R70 to R82), and the law that a trip level stops the program
(R68). -/

namespace Sys2Proof.Machine

/-! ## The engine state after each operation -/

@[simp] theorem State.enterEngine_engine (s : State) (e : Engine) (c : Cause) (p : Option Interrupted) :
    (s.enterEngine e c p).seq.engine = e := by rw [(s.enterEngine_spec e c p).1]

@[simp] theorem State.enterProgram_engine (s : State) (e : Engine) (c : Cause) : (s.enterProgram e c).seq.engine = e :=
  (s.enterProgram_spec e c).1

@[simp] theorem State.enterStarved_engine (s : State) : s.enterStarved.seq.engine = .starved := s.enterStarved_spec.1

@[simp] theorem State.cancelFlush_engine (s : State) (c : Cause) : (s.cancelFlush c).seq.engine = .idle := by
  rw [(s.cancelFlush_spec c).1]

@[simp] theorem State.recoverEffect_engine (s : State) : s.recoverEffect.seq.engine = .idle := by
  simp [State.recoverEffect]

/-- The rest test leads to HELD, HALTED or IDLE, or leaves the engine state (R69). -/
theorem State.restTest_movesOn {s : State} (h : s.restTest.seq.engine.movesOn) : s.seq.engine.movesOn := by
  revert h
  simp only [State.restTest]
  split
  · split <;> simp [Engine.movesOn]
  · exact id

theorem State.afterWork_movesOn {s : State} {w : FrameWork} (h : (s.afterWork w).seq.engine.movesOn) :
    s.seq.engine.movesOn := by
  revert h
  simp only [State.afterWork, Bool.and_eq_true, beq_iff_eq]
  split
  · intro; simp [*, Engine.movesOn]
  · split
    · intro; simp [*, Engine.movesOn]
    · exact id

theorem State.countTimers_movesOn {s : State} {e : Engine} {st : StrokeState} (h : (s.countTimers e st).seq.engine.movesOn) :
    s.seq.engine.movesOn := by
  by_cases hd : e = .dwelling ∧ s.seq.engine = .dwelling
  · rw [hd.2]; rfl
  · have hsame : (s.countTimers e st).seq.engine = s.seq.engine := by
      simp only [State.countTimers, if_neg hd]
      split_ifs <;> simp
    rwa [hsame] at h

/-- A frame begin leads into none of the four program states from outside them. -/
theorem State.beginFrame_movesOn {s : State} (h : s.beginFrame.seq.engine.movesOn) : s.seq.engine.movesOn := by
  have hsend : s.beginFrame.seq.engine = (s.frameWork.countTimers s.seq.engine s.stroke.state).seq.engine := by
    simp [State.beginFrame]
  rw [hsend] at h
  have hwork := State.countTimers_movesOn h
  simp only [State.frameWork, State.takeSetpoints_frame, State.deriveFSet_frame] at hwork
  simpa using State.afterWork_movesOn (State.restTest_movesOn hwork)

/-! ## What a rise, a hold and the program requests lead to -/

theorem State.holdEffect_stops (s : State) (c : Cause) : (s.holdEffect c).seq.engine.movesOn = false := by
  simp only [State.holdEffect]
  split <;> simp [*, Engine.movesOn]

theorem State.haltEffect_stops (s : State) : s.haltEffect.seq.engine.movesOn = false := by
  simp only [State.haltEffect]
  split <;> simp [*, Engine.movesOn]

theorem State.quickStopEffect_stops (s : State) : s.quickStopEffect.seq.engine.movesOn = false := by
  simp only [State.quickStopEffect]
  split <;> simp [*, Engine.movesOn, State.quickStop]

/-- HOLD, CANCEL and RECOVER lead into none of the four program states from outside them. -/
theorem State.serveHold_movesOn {s : State} (h : s.serveHold.1.seq.engine.movesOn) : s.seq.engine.movesOn := by
  revert h
  simp only [State.serveHold]
  split <;> simp [State.holdEffect_stops]

theorem State.serveCancel_movesOn {s : State} (h : s.serveCancel.1.seq.engine.movesOn) : s.seq.engine.movesOn := by
  revert h
  simp only [State.serveCancel]
  split <;> simp [*, Engine.movesOn]

theorem State.serveRecover_movesOn {s : State} (h : s.serveRecover.1.seq.engine.movesOn) : s.seq.engine.movesOn := by
  revert h
  simp only [State.serveRecover]
  split_ifs <;> simp [Engine.movesOn]

/-- The arrival of a segment leads out of STARVED alone (R86). -/
theorem State.serveSegments_movesOn {s : State} {body : List Byte} (h : (s.serveSegments body).1.seq.engine.movesOn) :
    s.seq.engine.movesOn := by
  revert h
  simp only [State.serveSegments, State.arrival]
  split_ifs <;> simp_all [Engine.movesOn]

/-- START and RESUME change nothing under a trip level (R74, R76). -/
theorem State.serveStart_of_level {s : State} (h : s.trip.level ≠ .none) : s.serveStart.1 = s := by
  simp only [State.serveStart]
  split_ifs <;> rfl

theorem State.serveResume_of_level {s : State} (h : s.trip.level ≠ .none) : s.serveResume.1 = s := by
  simp only [State.serveResume, if_pos h]
  split <;> rfl

/-! ## The law of the trip level (R68) -/

/-- Whatever hands its conditions on keeps the law, unless it leads into the program from outside it under a level. -/
theorem State.LevelStops.handed {s u : State} (h : s.LevelStops) (k : s.Handed u)
    (hm : s.trip.level ≠ .none → u.seq.engine.movesOn → s.seq.engine.movesOn) : u.LevelStops := fun hlevel hwait => by
  have hs : s.trip.level ≠ .none := fun hn => hwait (k.rises hn hlevel)
  have hstop := h hs fun hw => hwait (k.waits hw)
  exact Bool.eq_false_iff.2 fun hu => absurd (hm hs hu) (by simp [hstop])

theorem State.LevelStops.of_none {u : State} (h : u.trip.level = .none) : u.LevelStops := fun hl => absurd h hl

theorem State.LevelStops.of_stopped {u : State} (h : u.seq.engine.movesOn = false) : u.LevelStops := fun _ _ => h

theorem State.LevelStops.of_eq {s u : State} (h : s.LevelStops) (ht : u.trip.level = s.trip.level) (hq : u.seq = s.seq) :
    u.LevelStops := by
  simpa only [State.LevelStops, State.riseWaits, ht, hq] using h

/-- A recomputation of the level keeps the law: a level that leaves NONE leaves a rise waiting. -/
theorem State.LevelStops.recompute {s u : State} (h : s.LevelStops) (t : State) (hl : t.trip.level = s.trip.level)
    (hq : t.seq = s.seq) (hu : u.trip.level = t.recompute.trip.level) (hs : u.seq = t.recompute.seq) : u.LevelStops := by
  obtain ⟨hwaits, hrises⟩ := t.recompute_rises
  have ht : t.LevelStops := h.of_eq hl hq
  refine fun hlevel hwait => ?_
  have hno : ¬ t.recompute.riseWaits := fun ⟨c, hc, hr⟩ => hwait ⟨c, hs ▸ hc, hr⟩
  have hstop := ht (fun hn => hno (hrises hn (hu ▸ hlevel))) fun hw => hno (hwaits hw)
  rw [hs]
  simpa using hstop

/-- The taking of a change by what stops the program, or of one that is no rise. -/
theorem State.LevelStops.takeChange {s : State} (h : s.LevelStops) (k : LevelChange → Bool) (act : State → State)
    (hact : ∀ t, (act t).seq.engine.movesOn = false) : (s.takeChange k act).LevelStops := by
  simp only [State.takeChange]
  split
  · exact h
  · split
    · exact .of_stopped (hact _)
    · exact h

theorem State.LevelStops.takeFall {s : State} (h : s.LevelStops) : s.takeFall.LevelStops := by
  simp only [State.takeFall, State.takeChange]
  split
  · exact h
  · rename_i c rest hc
    split
    · rename_i hfall
      have hfall : c.after.rank < c.before.rank := by simpa [LevelChange.falls] using hfall
      refine fun hlevel hwait => h hlevel fun ⟨d, hd, hr⟩ => hwait ⟨d, ?_, hr⟩
      rw [hc] at hd
      obtain hd | hd := List.mem_cons.1 hd
      · subst hd; omega
      · exact hd
    · exact h

theorem State.serveSetTrip_levelStops {s : State} (h : s.LevelStops) (a b c d : Byte) :
    (s.serveSetTrip a b c d).1.LevelStops := by
  obtain he | ⟨i, hi⟩ := s.serveSetTrip_handed a b c d
  · rwa [he]
  · obtain ⟨htrip, hseq, -⟩ := s.writeAction_eq i (storedAction i b)
    have hw : (s.writeAction i (storedAction i b)).LevelStops := by
      refine h.recompute _ ?_ ?_ (by rw [htrip]) (by rw [hseq]) <;> rfl
    exact hw.handed hi fun _ hm => by simpa using hm

theorem State.serve_levelStops {s : State} (h : s.LevelStops) (k : RequestKind) (body : List Byte) :
    (s.serve k body).1.LevelStops := by
  by_cases hset : k = .setTrip
  · subst hset
    exact State.serveSetTrip_levelStops h _ _ _ _
  by_cases hclear : k = .clearTrips
  · subst hclear
    obtain ⟨t, -, hlevel, htrip, hseq⟩ := s.clearTrips_recomputes
    exact h.recompute (s.setTrip t) hlevel rfl (by simp [State.serve, State.serveClearTrips, htrip])
      (by simp [State.serve, State.serveClearTrips, hseq])
  refine h.handed (s.serve_handed k body hset hclear) fun hlevel hm => ?_
  cases k <;> simp only [State.serve, resultBody] at hm
  case start => rwa [State.serveStart_of_level hlevel] at hm
  case resume => rwa [State.serveResume_of_level hlevel] at hm
  case hold => exact State.serveHold_movesOn hm
  case cancel => exact State.serveCancel_movesOn hm
  case recover => exact State.serveRecover_movesOn hm
  case segments => exact State.serveSegments_movesOn hm
  all_goals simpa using hm

theorem levelStops_kept : KeptByEvents State.LevelStops where
  por s l f _ := .of_none rfl
  lineReset s _ := .of_none rfl
  releaseLine s h := h.of_eq (by simp) (by simp)
  endLoad s acked image _ _ := by
    have hnone : ((s.fillWorkingSet acked image).takeWorkingSet).trip.level = .none := rfl
    have hk := s.endLoad_handed acked image
    exact (State.LevelStops.of_none hnone).handed hk fun hn => absurd hnone hn
  beginFrame s h := h.handed s.beginFrame_handed fun _ => State.beginFrame_movesOn
  dwellExpire s d h he := State.LevelStops.handed (s := s.setDwell d) h (State.dwellExpire_handed _) fun _ _ => by
    simp [he, Engine.movesOn]
  starveExpire s h := h.handed (.of_eq (by simp) (by simp) (by simp)) (by simp)
  closeWindow s h := h.handed s.closeWindow_handed (by simp)
  takeReturn s st a c h := h.handed (s.takeReturn_handed st a c) (by simp)
  strokeStalls s h _ := h.handed s.strokeStalls_handed (by simp)
  strokeStopped s h _ := h.handed s.strokeStopped_handed (by simp)
  indexPulse s n h := h.handed (s.indexPulse_handed n) (by simp)
  loadPulse s h := h.of_eq (by simp) (by simp)
  overflowWindow s h := h.handed s.overflowWindow_handed (by simp)
  setPins s v h := h
  deriveLine s i h := h.handed (s.deriveLine_handed i) (by simp)
  takeLine s i h := h.handed (s.takeLine_handed i) (by simp)
  takeRiseHold s h := h.takeChange _ _ fun t => t.holdEffect_stops _
  takeRiseHalt s h := h.takeChange _ _ fun t => by simpa using t.haltEffect_stops
  takeRiseQuickStop s h := h.takeChange _ _ fun t => by simpa using t.quickStopEffect_stops
  takeFall s h := h.takeFall
  takeBusLevel s h := h.of_eq (by simp) (by simp)
  setReceiver s r h := h
  countLink s a b c d h := h
  toInbox s r h := keeps_toInbox (P := State.LevelStops) (fun _ _ => id) (fun _ k body h => State.serve_levelStops h k body) r h
  frameSent s h := keeps_frameSent (P := State.LevelStops) (fun _ _ => id) (fun _ k body h => State.serve_levelStops h k body)
    (fun t _ => (State.LevelStops.of_none (u := t.resetBlocks) rfl).handed t.reqReset_handed fun hn => absurd rfl hn) h
  toggleBlink s h := h.of_eq (by simp) (by simp)
  pageWritten s h := h.of_eq (by simp) (by simp)
  saveFails s h := h.of_eq (by simp) (by simp)

/-- Settles O8: a level that leaves NONE leaves a rise waiting, and only a rise taken removes one. -/
theorem tripLevelStopsEngineKept : Obligations.TripLevelStopsEngineKept := fun _ _ hs ht =>
  levelStops_kept.step (fun _ h => h.of_eq (by simp) (by simp)) (fun _ h => h.of_eq (by simp) (by simp)) (fun _ _ h => h) hs ht

end Sys2Proof.Machine
end


section
/-! SUPPORT. The travel of a path step over the records of the queue (R39 to R41, R54 to R56), and the law that the feed is 0 at rest
(R68). -/

namespace Sys2Proof.Machine

/-! ## The travel -/

/-- An exit above 0 lies between two moving records with no turn between them (R27, R29). -/
theorem activeExit_pos {d : Nat} {r : Record} {rest : List Record} (h : activeExit d (r :: rest) ≠ 0) :
    ∃ next later, rest = next :: later ∧ r.moves = true ∧ next.moves = true ∧ next.turns = false := by
  cases rest with
  | nil => exact absurd rfl h
  | cons next later =>
    refine ⟨next, later, rfl, ?_⟩
    simp only [activeExit, List.take_succ_cons, exitSpeed, junctionSpeed] at h
    by_contra hno
    have hj : (r.moves && next.moves && !next.turns) = false := by
      cases hr : r.moves <;> cases hn : next.moves <;> cases ht : next.turns <;> simp_all
    simp [hj] at h

/-- The records completed and those left are the records of the queue (R56). -/
theorem travel_split (d : Nat) (rs : List Record) (p dist : Nat) :
    (travel d rs p dist).completed ++ (travel d rs p dist).left = rs := by
  induction rs generalizing p dist with
  | nil => rfl
  | cons r rest ih =>
    simp only [travel]
    split
    · rfl
    · split
      · rfl
      · exact congrArg (r :: ·) (ih 0 _)

/-- A travel that does not land stops on a record, which after a carry moves and makes no turn (R40, R41). -/
theorem travel_stop {d : Nat} {rs : List Record} {p dist : Nat} (h : (travel d rs p dist).landed = false) :
    ∃ r rest, (travel d rs p dist).left = r :: rest ∧
      ((travel d rs p dist).completed ≠ [] → r.moves = true ∧ r.turns = false) := by
  induction rs generalizing p dist with
  | nil => cases h
  | cons r rest ih =>
    rw [travel] at h ⊢
    simp only at h ⊢
    split
    · exact ⟨r, rest, rfl, fun hc => absurd rfl hc⟩
    · rename_i hlong
      rw [if_neg hlong] at h
      split
      · rename_i hexit
        rw [if_pos hexit] at h
        cases h
      · rename_i hexit
        rw [if_neg hexit] at h
        obtain ⟨next, later, hrest, -, hmoves, hturns⟩ := activeExit_pos hexit
        obtain ⟨r', rest', hleft, hcarried⟩ := ih h
        refine ⟨r', rest', hleft, fun _ => ?_⟩
        by_cases hc : (travel d rest 0 (dist - (r.length * 1000 - p))).completed = []
        · have hsplit := travel_split d rest 0 (dist - (r.length * 1000 - p))
          rw [hc, hleft, hrest, List.nil_append, List.cons.injEq] at hsplit
          rw [hsplit.1]
          exact ⟨hmoves, hturns⟩
        · exact hcarried hc

/-- A travel over a record that lands completes a record (R41). -/
theorem travel_landed {d : Nat} {r : Record} {rest : List Record} {p dist : Nat}
    (h : (travel d (r :: rest) p dist).landed = true) : (travel d (r :: rest) p dist).completed ≠ [] := by
  rw [travel] at h ⊢
  simp only at h ⊢
  split
  · rename_i hshort
    simp [if_pos hshort] at h
  · split <;> simp

/-- The interpolator once records have completed: at the start of the new head, its turn pending where it makes one (R49, R55). -/
def Interpolator.onto (i : Interpolator) (left : List Record) : Interpolator :=
  { i with progress := 0, turnPending := (left.head?.map Record.turns).getD false }

/-- The records completed leave the queue in order (R19, R56). -/
theorem State.completeAll_spec {cs left : List Record} {s : State} (h : s.queue.records = cs ++ left) :
    (State.completeAll cs s).queue = ⟨left, s.queue.tail⟩ ∧
    (State.completeAll cs s).interp = if cs = [] then s.interp else s.interp.onto left := by
  induction cs generalizing s with
  | nil => exact ⟨by rw [State.completeAll, ← show s.queue.records = left from h], rfl⟩
  | cons c rest ih =>
    obtain ⟨hqueue, hinterp, -⟩ := s.completeHead_spec c (rest ++ left) h
    obtain ⟨ihqueue, ihinterp⟩ := ih (s := s.completeHead) (by rw [hqueue])
    refine ⟨by rw [State.completeAll, ihqueue, hqueue], ?_⟩
    rw [State.completeAll, ihinterp, hinterp, if_neg (List.cons_ne_nil c rest)]
    split
    · rename_i hnil
      rw [hnil, List.nil_append]
      rfl
    · rfl

/-! ## The feed and the moving record (R68) -/

theorem Record.moves_of_body {r : Record} {m : Moving} (h : r.body = .moving m) : r.moves = true := by
  simp [Record.moves, h]

theorem Record.body_of_moves {r : Record} (h : r.moves = true) : ∃ m, r.body = .moving m := by
  revert h
  simp only [Record.moves]
  split
  · exact fun _ => ⟨_, ‹_›⟩
  all_goals exact fun h => nomatch h

theorem State.FeedMoves.of_rest {s : State} (h : s.interp.feed = 0) : s.FeedMoves := fun hf => absurd h hf

theorem State.FeedMoves.of_eq {s u : State} (h : s.FeedMoves) (he : u.seq.engine = s.seq.engine)
    (hf : u.interp.feed = s.interp.feed) (ht : u.interp.turn = s.interp.turn)
    (hp : u.interp.turnPending = s.interp.turnPending) (hq : u.queue.records = s.queue.records) : u.FeedMoves := by
  simpa only [State.FeedMoves, he, hf, ht, hp, hq] using h

/-- Where the engine neither steps nor carries on a step, the feed is 0. -/
theorem State.FeedMoves.feed_eq {s : State} (h : s.FeedMoves) (he : s.seq.engine.steps = false) : s.interp.feed = 0 := by
  by_contra hf
  have := (h hf).1
  simp [he] at this

theorem State.FeedMoves.feed_of_turn {s : State} (h : s.FeedMoves) {turn : Turn} (ht : s.interp.turn = some turn) :
    s.interp.feed = 0 := by
  by_contra hf
  obtain ⟨-, hnone, -⟩ := h hf
  simp [ht] at hnone

theorem State.landOn_feed (s : State) (r : Record) : (s.landOn r).interp.feed = 0 := by
  simp only [State.landOn]
  split <;> simp

/-- A path step leaves a feed above 0 only on a moving record whose turn is made, and a landing leaves it at 0 (R41, R55). -/
theorem State.pathStep_moves {s : State} {r : Record} {rest : List Record} {m : Moving} (hq : s.queue.records = r :: rest)
    (hb : r.body = .moving m) (hsteps : s.seq.engine.steps = true) (hturn : s.interp.turn = none)
    (hpend : s.interp.turnPending = false) :
    (s.pathStep r m).1.FeedMoves ∧ ((s.pathStep r m).2.landed = true → (s.pathStep r m).1.interp.feed = 0) := by
  simp only [State.pathStep]
  split
  · exact ⟨.of_rest (by simp), by simp⟩
  rename_i hv
  have hsplit := travel_split s.params.rampStep s.queue.records s.interp.progress (s.newFeed r m)
  have hstop := travel_stop (d := s.params.rampStep) (rs := s.queue.records) (p := s.interp.progress) (dist := s.newFeed r m)
  have hland := travel_landed (d := s.params.rampStep) (r := r) (rest := rest) (p := s.interp.progress)
    (dist := s.newFeed r m)
  rw [← hq] at hland
  generalize travel s.params.rampStep s.queue.records s.interp.progress (s.newFeed r m) = t at *
  obtain ⟨hqueue, hinterp⟩ := s.completeAll_spec hsplit.symm
  split
  · rename_i hl
    obtain ⟨last, hlast⟩ : ∃ last, t.completed.getLast? = some last :=
      ⟨_, List.getLast?_eq_some_getLast (hland hl)⟩
    have hfeed : ∀ u : State, (match t.completed.getLast? with | none => u | some last => u.landOn last).interp.feed = 0 :=
      fun u => by rw [hlast]; exact u.landOn_feed last
    exact ⟨.of_rest (hfeed _), fun _ => hfeed _⟩
  · rename_i hl
    obtain ⟨r', rest', hleft, hcarried⟩ := hstop (Bool.eq_false_iff.2 hl)
    refine ⟨fun _ => ?_, by simp⟩
    refine ⟨by simpa using hsteps, by simpa using hturn, ?_, r', by simp [hqueue, hleft], ?_⟩
    · simp only [State.stopWithin_frame, hinterp]
      split
      · exact hpend
      · rename_i hc
        simp [Interpolator.onto, hleft, (hcarried hc).2]
    · by_cases hc : t.completed = []
      · rw [hc, hleft, List.nil_append, hq, List.cons.injEq] at hsplit
        rw [hsplit.1]
        exact Record.moves_of_body hb
      · exact (hcarried hc).1

end Sys2Proof.Machine
end


section
/-! SUPPORT. The law that the feed is 0 in the seven states at rest (R68), operation by operation. -/

namespace Sys2Proof.Machine

/-! ## A feed of 0 stays at 0 -/

theorem State.dispatch_feed_zero {s : State} (h : s.interp.feed = 0) (c : Cause) (keep : Bool) :
    (s.dispatch c keep).interp.feed = 0 := by
  simp only [State.dispatch, State.endReached, State.pivotStart]
  repeat' split
  all_goals simp [h]

theorem State.pathStep_pivotEnded (s : State) (r : Record) (m : Moving) : (s.pathStep r m).2.pivotEnded = false := by
  simp only [State.pathStep]
  split_ifs <;> rfl

/-- The interpolator's work leaves a feed above 0 only on a moving record whose turn is made. -/
theorem State.interpolate_moves {s : State} (h : s.FeedMoves) : s.interpolate.1.FeedMoves ∧
    (s.interpolate.2.landed = true ∨ s.interpolate.2.pivotEnded = true → s.interpolate.1.interp.feed = 0) := by
  simp only [State.interpolate]
  split
  · rename_i turn ht
    have hfeed := h.feed_of_turn ht
    split
    · have hstep : (s.pivotStep turn s.restFlag).1.interp.feed = 0 := by simp [hfeed]
      exact ⟨.of_rest hstep, fun _ => hstep⟩
    · exact ⟨h, by simp⟩
  · rename_i hnone
    split
    · rename_i hstep
      obtain ⟨hsteps, hpend⟩ : s.seq.engine.steps = true ∧ s.interp.turnPending = false := by simpa using hstep
      split
      · exact ⟨h, by simp⟩
      · rename_i hq
        split
        · rename_i hb
          obtain ⟨hmoves, hlanded⟩ := State.pathStep_moves hq hb hsteps hnone hpend
          exact ⟨hmoves, fun hor => hlanded (by simpa [State.pathStep_pivotEnded] using hor)⟩
        all_goals exact ⟨h, by simp⟩
    · exact ⟨h, by simp⟩

theorem State.afterWork_moves {s : State} {w : FrameWork} (h : s.FeedMoves)
    (hw : w.landed = true ∨ w.pivotEnded = true → s.interp.feed = 0) : (s.afterWork w).FeedMoves := by
  simp only [State.afterWork, Bool.and_eq_true]
  split
  · rename_i hl
    exact .of_rest (State.dispatch_feed_zero (hw (.inl hl.1)) _ _)
  · split
    · rename_i hp
      exact .of_rest (by simp [hw (.inr hp.1)])
    · exact h

theorem State.restTest_moves {s : State} (h : s.FeedMoves) : s.restTest.FeedMoves := by
  simp only [State.restTest, Bool.and_eq_true, beq_iff_eq]
  split
  · rename_i hrest
    split <;> first | exact h | exact .of_rest (by simp [hrest.2])
  · exact h

theorem State.countTimers_moves {s : State} (h : s.FeedMoves) (e : Engine) (st : StrokeState) :
    (s.countTimers e st).FeedMoves := by
  by_cases hd : e = .dwelling ∧ s.seq.engine = .dwelling
  · have hfeed : s.countDwell.interp.feed = 0 := by
      have hs := h.feed_eq (by rw [hd.2]; rfl)
      simp only [State.countDwell, State.dwellExpire]
      repeat' split
      · exact hs
      · exact State.dispatch_feed_zero (by simpa using hs) _ _
      · exact hs
    refine .of_rest ?_
    simp only [State.countTimers, if_pos hd]
    split_ifs <;> simp [hfeed]
  · simp only [State.countTimers, if_neg hd]
    refine h.of_eq ?_ ?_ ?_ ?_ ?_ <;> split_ifs <;> simp

theorem State.beginFrame_moves {s : State} (h : s.FeedMoves) : s.beginFrame.FeedMoves := by
  have hopen : s.openFrame.FeedMoves := h.of_eq (by simp) (by simp) (by simp) (by simp) (by simp)
  obtain ⟨hwork, hended⟩ := State.interpolate_moves hopen
  have hreport : (s.openFrame.interpolate.1.frameReport s.openFrame.interpolate.2.advance
      s.openFrame.interpolate.2.material).FeedMoves :=
    hwork.of_eq (by simp) (by simp) (by simp) (by simp) (by simp)
  have hrest := State.restTest_moves (State.afterWork_moves hreport (by simpa using hended))
  have hframe : s.frameWork.FeedMoves := hrest.of_eq (by simp [State.frameWork]) (by simp [State.frameWork])
    (by simp [State.frameWork]) (by simp [State.frameWork]) (by simp [State.frameWork])
  exact (State.countTimers_moves hframe s.seq.engine s.stroke.state).of_eq (by simp [State.beginFrame])
    (by simp [State.beginFrame]) (by simp [State.beginFrame]) (by simp [State.beginFrame]) (by simp [State.beginFrame])

/-! ## Reactions and requests -/

theorem State.holdEffect_moves {s : State} (h : s.FeedMoves) (c : Cause) : (s.holdEffect c).FeedMoves := by
  by_cases he : s.seq.engine = .running
  · exact fun hf => ⟨by simp [State.holdEffect, he, Engine.steps], by simpa using (h (by simpa using hf)).2⟩
  · simp only [State.holdEffect]
    split <;> first
      | exact h
      | contradiction
      | exact .of_rest (by simpa using h.feed_eq (by simp [*, Engine.steps]))

theorem State.haltEffect_moves {s : State} (h : s.FeedMoves) : s.haltEffect.FeedMoves := by
  by_cases he : s.seq.engine = .running ∨ s.seq.engine = .holding
  · refine fun hf => ⟨?_, by simpa using (h (by simpa using hf)).2⟩
    obtain he | he := he <;> simp [State.haltEffect, he, Engine.steps]
  · simp only [not_or] at he
    simp only [State.haltEffect]
    split <;> first
      | exact h
      | exact absurd ‹_› he.1
      | exact absurd ‹_› he.2
      | exact .of_rest (by simpa using h.feed_eq (by simp [*, Engine.steps]))

theorem State.quickStopEffect_moves {s : State} (h : s.FeedMoves) : s.quickStopEffect.FeedMoves := by
  simp only [State.quickStopEffect]
  split
  · exact h
  · exact .of_rest (by simp [State.quickStop])

theorem State.FeedMoves.takeChange {s : State} (h : s.FeedMoves) (k : LevelChange → Bool) (act : State → State)
    (hact : ∀ t : State, t.FeedMoves → (act t).FeedMoves) : (s.takeChange k act).FeedMoves := by
  simp only [State.takeChange]
  split
  · exact h
  · split
    · exact hact _ h
    · exact h

/-- A dispatch carries a feed above 0 only into RUNNING, on a moving record whose turn is made (R70). -/
theorem State.dispatch_moves {s : State} (h : s.FeedMoves) (c : Cause) (keep : Bool) : (s.dispatch c keep).FeedMoves := by
  by_cases hf : s.interp.feed = 0
  · exact .of_rest (State.dispatch_feed_zero hf _ _)
  · obtain ⟨-, hturn, hpend, r, hr, hmoves⟩ := h hf
    obtain ⟨rest, hq⟩ : ∃ rest, s.queue.records = r :: rest := ⟨_, List.eq_cons_of_mem_head? hr⟩
    obtain ⟨m, hb⟩ := Record.body_of_moves hmoves
    rw [s.dispatch_running c keep r rest m hq hb hpend]
    exact fun _ => ⟨by simp [Engine.steps], by simpa using hturn, by simpa using hpend, r, by simpa using hr, hmoves⟩

theorem State.actOnMemory_moves {s : State} (h : s.FeedMoves) : s.actOnMemory.FeedMoves :=
  State.dispatch_moves (s := s.setResume none) h _ _

theorem State.serveStart_moves {s : State} (h : s.FeedMoves) : s.serveStart.1.FeedMoves := by
  simp only [State.serveStart]
  split_ifs <;> first | exact h | exact State.dispatch_moves h _ _

theorem State.serveHold_moves {s : State} (h : s.FeedMoves) : s.serveHold.1.FeedMoves := by
  simp only [State.serveHold]
  split <;> first | exact h | exact State.holdEffect_moves h _

theorem State.serveResume_moves {s : State} (h : s.FeedMoves) : s.serveResume.1.FeedMoves := by
  have hstart : s.strokeStart.FeedMoves := h.of_eq (by simp) (by simp) (by simp) (by simp) (by simp)
  simp only [State.serveResume]
  repeat' split
  all_goals first
    | exact h
    | exact State.actOnMemory_moves h
    | exact State.actOnMemory_moves hstart
    | skip
  rename_i hturn
  obtain ⟨turn, ht⟩ := Option.isSome_iff_exists.1 hturn
  exact .of_rest (by simpa using h.feed_of_turn ht)

theorem State.serveCancel_moves {s : State} (h : s.FeedMoves) : s.serveCancel.1.FeedMoves := by
  simp only [State.serveCancel]
  split <;> first
    | exact h
    | exact fun hf => ⟨by simp [Engine.steps], by simpa using (h (by simpa using hf)).2⟩
    | exact .of_rest (by simpa using h.feed_eq (by simp [*, Engine.steps]))

theorem State.serveRecover_moves {s : State} (h : s.FeedMoves) : s.serveRecover.1.FeedMoves := by
  simp only [State.serveRecover]
  split_ifs <;> first | exact h | exact .of_rest (by simp [State.recoverEffect])

theorem State.append_moves {s : State} (h : s.FeedMoves) (r : Record) : (s.append r).FeedMoves := fun hf => by
  obtain ⟨hsteps, hturn, hpend, head, hr, hmoves⟩ := h (by simpa using hf)
  have hne : s.queue.records ≠ [] := fun he => by simp [he] at hr
  refine ⟨by simpa using hsteps, by simpa using hturn, ?_, head, ?_, hmoves⟩ <;>
    simp [State.append, hne, hpend, hr]

theorem State.takeSegments_moves (fuel : Nat) (body : List Byte) (b : Batch) {s : State} (h : s.FeedMoves) :
    (State.takeSegments fuel body b s).1.FeedMoves := by
  induction fuel generalizing body b s with
  | zero => exact h
  | succ n ih =>
    simp only [State.takeSegments]
    repeat' split
    all_goals first
      | exact h
      | exact ih _ _ (State.append_moves (s := s.setDraws (s.examine body).draws) h _)

theorem State.serveSegments_moves {s : State} (h : s.FeedMoves) (body : List Byte) : (s.serveSegments body).1.FeedMoves := by
  have hbody : (s.takeBody body).1.FeedMoves := by
    simp only [State.takeBody]
    split <;> first | exact h | exact State.takeSegments_moves _ _ _ h
  have harrival : ∀ t : State, t.FeedMoves → t.arrival.FeedMoves := fun t ht => by
    simp only [State.arrival]
    split
    · exact State.dispatch_moves (s := t.setStarve .stopped) ht _ _
    · exact ht
  simp only [State.serveSegments]
  split
  · exact hbody
  · exact harrival _ hbody

theorem State.serve_moves {s : State} (h : s.FeedMoves) (k : RequestKind) (body : List Byte) : (s.serve k body).1.FeedMoves := by
  cases k <;> simp only [State.serve, resultBody]
  case start => exact State.serveStart_moves h
  case resume => exact State.serveResume_moves h
  case hold => exact State.serveHold_moves h
  case cancel => exact State.serveCancel_moves h
  case recover => exact State.serveRecover_moves h
  case segments => exact State.serveSegments_moves h _
  all_goals exact h.of_eq (by simp) (by simp) (by simp) (by simp) (by simp)

theorem State.reqReset_moves (s : State) : s.reqReset.FeedMoves := by
  have hread : (s.reqCleared.readInputs).startBus.FeedMoves := .of_rest (by simp [State.reqCleared, State.resetBlocks, Interpolator.reset])
  have hstart : s.reqCleared.readInputs.busStart.FeedMoves := State.beginFrame_moves hread
  rw [State.reqReset_eq]
  split
  · exact hstart.of_eq (by simp) (by simp) (by simp) (by simp) (by simp)
  · exact hstart

theorem feedMoves_kept : KeptByEvents State.FeedMoves where
  por s l f _ := .of_rest rfl
  lineReset s _ := .of_rest rfl
  releaseLine s h := h.of_eq (by simp) (by simp) (by simp) (by simp) (by simp)
  endLoad s acked image h _ := by
    have hread : (((s.fillWorkingSet acked image).takeWorkingSet).readInputs).startBus.FeedMoves :=
      h.of_eq (by simp) (by simp) (by simp) (by simp) (by simp)
    exact (State.beginFrame_moves hread).of_eq (by simp [State.endLoad, State.busStart]) (by simp [State.endLoad, State.busStart])
      (by simp [State.endLoad, State.busStart]) (by simp [State.endLoad, State.busStart])
      (by simp [State.endLoad, State.busStart])
  beginFrame s h := State.beginFrame_moves h
  dwellExpire s d h he := .of_rest <| State.dispatch_feed_zero (by simpa using h.feed_eq (by rw [he]; rfl)) _ _
  starveExpire s h := h.of_eq (by simp) (by simp) (by simp) (by simp) (by simp)
  closeWindow s h := h.of_eq (by simp) (by simp) (by simp) (by simp) (by simp)
  takeReturn s st a c h := h.of_eq (by simp) (by simp) (by simp) (by simp) (by simp)
  strokeStalls s h _ := h.of_eq (by simp) (by simp) (by simp) (by simp) (by simp)
  strokeStopped s h _ := h.of_eq (by simp) (by simp) (by simp) (by simp) (by simp)
  indexPulse s n h := h.of_eq (by simp) (by simp) (by simp) (by simp) (by simp)
  loadPulse s h := h.of_eq (by simp) (by simp) (by simp) (by simp) (by simp)
  overflowWindow s h := h.of_eq (by simp) (by simp) (by simp) (by simp) (by simp)
  setPins s v h := h
  deriveLine s i h := h.of_eq (by simp) (by simp) (by simp) (by simp) (by simp)
  takeLine s i h := h.of_eq (by simp) (by simp) (by simp) (by simp) (by simp)
  takeRiseHold s h := h.takeChange _ _ fun _ ht => State.holdEffect_moves ht _
  takeRiseHalt s h := h.takeChange _ _ fun _ ht =>
    (State.haltEffect_moves ht).of_eq (by simp) (by simp) (by simp) (by simp) (by simp)
  takeRiseQuickStop s h := h.takeChange _ _ fun _ ht =>
    (State.quickStopEffect_moves ht).of_eq (by simp) (by simp) (by simp) (by simp) (by simp)
  takeFall s h := h.takeChange _ _ fun _ => id
  takeBusLevel s h := h.of_eq (by simp) (by simp) (by simp) (by simp) (by simp)
  setReceiver s r h := h
  countLink s a b c d h := h
  toInbox s r h := keeps_toInbox (P := State.FeedMoves) (fun _ _ => id) (fun _ k body h => State.serve_moves h k body) r h
  frameSent s h := keeps_frameSent (P := State.FeedMoves) (fun _ _ => id) (fun _ k body h => State.serve_moves h k body)
    (fun t _ => t.reqReset_moves) h
  toggleBlink s h := h.of_eq (by simp) (by simp) (by simp) (by simp) (by simp)
  pageWritten s h := h.of_eq (by simp) (by simp) (by simp) (by simp) (by simp)
  saveFails s h := h.of_eq (by simp) (by simp) (by simp) (by simp) (by simp)

/-- What the law rests on gives the law: none of the seven states steps. -/
theorem State.FeedMoves.atRest {s : State} (h : s.FeedMoves) : s.FeedAtRest := fun he => h.feed_eq <| by
  simp only [List.mem_cons, List.not_mem_nil, or_false] at he
  obtain he | he | he | he | he | he | he := he <;> rw [he] <;> rfl

/-- Settles O7: a feed above 0 stands only in a state that steps, on a moving record whose turn is made. -/
theorem feedAtRestKept : Obligations.FeedAtRestKept := fun _ t hs ht => by
  have hkept : t.FeedMoves := feedMoves_kept.step
    (fun _ h => h.of_eq (by simp) (by simp) (by simp) (by simp) (by simp))
    (fun _ h => h.of_eq (by simp) (by simp) (by simp) (by simp) (by simp)) (fun _ _ h => h) hs ht
  exact ⟨hkept, hkept.atRest⟩

end Sys2Proof.Machine
end


section
/-! SUPPORT. The ceilings ascend (R114), and the bounds of the cut queue and of the inbox (R17, R162, R168). -/

namespace Sys2Proof.Machine

/-! ## The ceilings (R114, R115) -/

/-- The eight ceilings ascend where each lies below the next. -/
theorem ascend_of_next {f : Nat → Nat} (h : ∀ i, i < 7 → f i < f (i + 1)) : ∀ i j : Fin 8, i < j → f i < f j := by
  have hstep : ∀ n i, i + n + 1 < 8 → f i < f (i + n + 1) := fun n => by
    induction n with
    | zero => exact fun i hi => h i (by omega)
    | succ n ih => exact fun i hi => (ih i (by omega)).trans (h _ (by omega))
  intro i j hij
  have hlt : i.val < j.val := hij
  simpa [show i.val + (j.val - i.val - 1) + 1 = j.val by omega] using hstep (j.val - i.val - 1) i (by omega)

/-- A ceiling between those of its neighbours (R115). -/
theorem bandOrdered_iff (b : Vector BandEntry 8) (i : Fin 8) (c : Nat) : bandOrdered b i c = true ↔
    (∀ h : 0 < i.val, (b[i.val - 1]'(by omega)).ceiling < c) ∧
    (∀ h : i.val < 7, c < (b[i.val + 1]'(by omega)).ceiling) := by
  obtain ⟨i, hi⟩ := i
  have hlast : i + 1 < 8 ↔ i < 7 := by omega
  simp only [bandOrdered, Bool.and_eq_true, Bool.or_eq_true, decide_eq_true_eq]
  refine and_congr ⟨fun h h0 => ?_, fun h => ?_⟩ ⟨fun h h7 => ?_, fun h => ?_⟩
  · simpa [show i - 1 < 8 by omega, show i ≠ 0 by omega] using h
  · by_cases h0 : i = 0
    · exact .inl h0
    · exact .inr (by simpa [show i - 1 < 8 by omega] using h (by omega))
  · simpa [show i + 1 < 8 by omega, show i ≠ 7 by omega] using h
  · by_cases h7 : i = 7
    · exact .inl h7
    · exact .inr (by simpa [show i + 1 < 8 by omega] using h (by omega))

theorem State.CeilingsAscend.of_eq {s u : State} (h : s.CeilingsAscend) (hb : u.classifier.bands = s.classifier.bands) :
    u.CeilingsAscend := by
  simpa only [State.CeilingsAscend, hb] using h

theorem romBands_ascend : ∀ i j : Fin 8, i < j → (romBands[i]).ceiling < (romBands[j]).ceiling := by decide

/-- SET_BAND stores a ceiling only between its neighbours' (R115). -/
theorem State.serveSetBand_ascend {s : State} (h : s.CeilingsAscend) (index : Byte) (e : BandEntry) :
    (s.serveSetBand index e).1.CeilingsAscend := by
  simp only [State.serveSetBand]
  split
  · rename_i hi
    split
    · rename_i hord
      obtain ⟨hbelow, habove⟩ := (bandOrdered_iff _ _ _).1 hord
      intro a b hab
      have hab' : a.val < b.val := hab
      simp only [State.setClassifier_classifier, Fin.getElem_fin, Vector.getElem_set]
      split_ifs with ha hb hb
      · omega
      · refine lt_of_lt_of_le (habove (by simp only; omega)) ?_
        rcases Nat.lt_or_ge (index.toNat + 1) b.val with hlt | hge
        · exact (h ⟨index.toNat + 1, by omega⟩ b hlt).le
        · simp only [show b.val = index.toNat + 1 by omega]; exact le_refl _
      · refine lt_of_le_of_lt ?_ (hbelow (by simp only; omega))
        rcases Nat.lt_or_ge a.val (index.toNat - 1) with hlt | hge
        · exact (h a ⟨index.toNat - 1, by omega⟩ hlt).le
        · simp only [show a.val = index.toNat - 1 by omega]; exact le_refl _
      · exact h a b hab
    · exact h
  · exact h

theorem State.serve_ascend {s : State} (h : s.CeilingsAscend) (k : RequestKind) (body : List Byte) :
    (s.serve k body).1.CeilingsAscend := by
  cases k <;> simp only [State.serve, resultBody]
  case setBand => exact State.serveSetBand_ascend h _ _
  all_goals exact h.of_eq (by simp)

/-- The settings load fills the table with ascending ceilings (R114, R190). -/
theorem State.fillWorkingSet_ascend (s : State) (acked : Nat) (image : List Byte) :
    (s.fillWorkingSet acked image).CeilingsAscend := by
  have hbands : (s.fillWorkingSet acked image).classifier.bands =
      if loadSource s.startup.safeNHigh acked image = .stored then imageBands image else romBands := rfl
  simp only [State.CeilingsAscend, hbands]
  split
  · rename_i hsource
    obtain ⟨-, -, -, -, -, -, -, -, hascend, -⟩ := imageGood_of_stored hsource
    have hget : ∀ i : Fin 8, ((imageBands image)[i]).ceiling = readNat image (117 + 8 * i.val) 2 := by
      intro i
      fin_cases i <;> rfl
    simp only [hget]
    exact ascend_of_next (f := fun i => readNat image (117 + 8 * i) 2) fun i hi => by simpa using hascend i hi
  · exact romBands_ascend

theorem ceilingsAscend_kept : KeptByEvents State.CeilingsAscend where
  por s l f _ := romBands_ascend
  lineReset s h := h.of_eq rfl
  releaseLine s h := h.of_eq (by simp)
  endLoad s acked image _ _ := (s.fillWorkingSet_ascend acked image).of_eq (by simp [State.endLoad])
  beginFrame s h := h.of_eq (by simp)
  dwellExpire s d h _ := h.of_eq (by simp)
  starveExpire s h := h.of_eq (by simp)
  closeWindow s h := h.of_eq (by simp)
  takeReturn s st a c h := h.of_eq (by simp)
  strokeStalls s h _ := h.of_eq (by simp)
  strokeStopped s h _ := h.of_eq (by simp)
  indexPulse s n h := h.of_eq (by simp)
  loadPulse s h := h.of_eq (by simp)
  overflowWindow s h := h.of_eq (by simp)
  setPins s v h := h
  deriveLine s i h := h.of_eq (by simp)
  takeLine s i h := h.of_eq (by simp)
  takeRiseHold s h := h.of_eq (by simp)
  takeRiseHalt s h := h.of_eq (by simp)
  takeRiseQuickStop s h := h.of_eq (by simp)
  takeFall s h := h.of_eq (by simp)
  takeBusLevel s h := h.of_eq (by simp)
  setReceiver s r h := h
  countLink s a b c d h := h
  toInbox s r h := keeps_toInbox (P := State.CeilingsAscend) (fun _ _ => id) (fun _ k body h => State.serve_ascend h k body) r h
  frameSent s h := keeps_frameSent (P := State.CeilingsAscend) (fun _ _ => id) (fun _ k body h => State.serve_ascend h k body)
    (fun t h => State.CeilingsAscend.of_eq h (by
      have hcleared : t.reqCleared.classifier.bands = t.classifier.bands := by
        simp [State.reqCleared, State.resetBlocks, Classifier.reset]
      rw [State.reqReset_eq]
      split <;> simp [hcleared])) h
  toggleBlink s h := h.of_eq (by simp)
  pageWritten s h := h.of_eq (by simp)
  saveFails s h := h.of_eq (by simp)

/-- Settles O5: SET_BAND and the settings load write the table, and each only with ascending ceilings. -/
theorem ceilingsAscendKept : Obligations.CeilingsAscendKept := fun _ _ hs ht =>
  ceilingsAscend_kept.step (fun _ h => h.of_eq (by simp)) (fun _ h => h.of_eq (by simp)) (fun _ _ h => h) hs ht

end Sys2Proof.Machine
end


section
/-! SUPPORT. What leaves the cut queue and what enters it (R16 to R21), and the bounds of the queue and of the inbox (R17, R162,
R168). -/

namespace Sys2Proof.Machine

/-! ## The queue loses records from its head, and only SEGMENTS appends -/

theorem State.completeHead_records (s : State) : s.completeHead.queue.records = s.queue.records.tail := by
  cases hq : s.queue.records with
  | nil => simp [State.completeHead, hq]
  | cons r rest => rw [(s.completeHead_spec r rest hq).1]; rfl

theorem State.pathStep_suffix (s : State) (r : Record) (m : Moving) :
    (s.pathStep r m).1.queue.records <:+ s.queue.records := by
  simp only [State.pathStep]
  split
  · exact List.suffix_refl _
  · have hsplit := travel_split s.params.rampStep s.queue.records s.interp.progress (s.newFeed r m)
    generalize travel s.params.rampStep s.queue.records s.interp.progress (s.newFeed r m) = t at *
    obtain ⟨hqueue, -⟩ := s.completeAll_spec hsplit.symm
    have hleft : (State.completeAll t.completed s).queue.records <:+ s.queue.records := by
      rw [hqueue]
      exact ⟨t.completed, hsplit⟩
    split
    · split <;> simpa using hleft
    · simpa using hleft

theorem State.interpolate_suffix (s : State) : s.interpolate.1.queue.records <:+ s.queue.records := by
  simp only [State.interpolate]
  repeat' split
  all_goals first
    | exact s.pathStep_suffix _ _
    | exact List.suffix_refl _
    | simp

theorem State.dispatch_suffix (s : State) (c : Cause) (keep : Bool) :
    (s.dispatch c keep).queue.records <:+ s.queue.records := by
  simp only [State.dispatch, State.endReached]
  repeat' split
  all_goals first
    | exact List.suffix_refl _
    | simp [State.completeHead_records, List.tail_suffix]

theorem State.restTest_suffix (s : State) : s.restTest.queue.records <:+ s.queue.records := by
  simp only [State.restTest]
  split
  · split <;> simp [State.cancelFlush_spec]
  · exact List.suffix_refl _

theorem State.dwellExpire_suffix (s : State) : s.dwellExpire.queue.records <:+ s.queue.records := by
  refine (State.dispatch_suffix _ _ _).trans ?_
  simpa [State.completeHead_records] using List.tail_suffix _

theorem State.countTimers_suffix (s : State) (e : Engine) (st : StrokeState) :
    (s.countTimers e st).queue.records <:+ s.queue.records := by
  have hdwell : s.countDwell.queue.records <:+ s.queue.records := by
    simp only [State.countDwell]
    repeat' split
    · exact List.suffix_refl _
    · exact State.dwellExpire_suffix (s.setDwell _)
    · exact List.suffix_refl _
  simp only [State.countTimers]
  split_ifs <;> simp [hdwell]

theorem State.frameWork_suffix (s : State) : s.frameWork.queue.records <:+ s.queue.records := by
  have hwork := State.interpolate_suffix s.openFrame
  have hafter : ∀ (t : State) (w : FrameWork), (t.afterWork w).queue.records <:+ t.queue.records := fun t w => by
    simp only [State.afterWork]
    split_ifs
    · exact t.dispatch_suffix _ _
    · simp
    · exact List.suffix_refl _
  have hrest := (State.restTest_suffix _).trans (hafter (s.openFrame.interpolate.1.frameReport
    s.openFrame.interpolate.2.advance s.openFrame.interpolate.2.material) s.openFrame.interpolate.2)
  simpa [State.frameWork] using hrest.trans (by simpa using hwork)

theorem State.beginFrame_suffix (s : State) : s.beginFrame.queue.records <:+ s.queue.records := by
  simpa [State.beginFrame] using (State.countTimers_suffix _ _ _).trans s.frameWork_suffix

theorem State.quickStopEffect_suffix (s : State) : s.quickStopEffect.queue.records <:+ s.queue.records := by
  simp only [State.quickStopEffect]
  split
  · exact List.suffix_refl _
  · simp [State.quickStop, State.flush]

theorem State.takeRiseQuickStop_suffix (s : State) : s.takeRiseQuickStop.queue.records <:+ s.queue.records := by
  simp only [State.takeRiseQuickStop, State.takeChange]
  repeat' split
  · exact List.suffix_refl _
  · simpa using State.quickStopEffect_suffix (s.setSeq _)
  · exact List.suffix_refl _

theorem State.reqReset_records (s : State) : s.reqReset.queue.records = [] := by
  have hcleared : s.reqCleared.queue.records = [] := by
    simp [State.reqCleared, State.resetBlocks, CutQueue.reset]
  have hstart := State.beginFrame_suffix s.reqCleared.readInputs.startBus
  have hnil : s.reqCleared.readInputs.busStart.queue.records = [] := by
    simpa [hcleared, State.busStart] using hstart
  rw [State.reqReset_eq]
  split <;> simp [hnil]

theorem State.endLoad_suffix (s : State) (acked : Nat) (image : List Byte) :
    (s.endLoad acked image).queue.records <:+ s.queue.records := by
  simpa [State.endLoad, State.busStart] using
    State.beginFrame_suffix (((s.fillWorkingSet acked image).takeWorkingSet).readInputs).startBus

theorem State.serve_suffix (s : State) (k : RequestKind) (body : List Byte) (h : k ≠ .segments) :
    (s.serve k body).1.queue.records <:+ s.queue.records := by
  cases k <;> simp only [State.serve, resultBody]
  case segments => exact absurd rfl h
  case start =>
    simp only [State.serveStart]
    split_ifs <;> first | exact s.dispatch_suffix _ _ | exact List.suffix_refl _
  case resume =>
    simp only [State.serveResume]
    repeat' split
    all_goals first
      | exact List.suffix_refl _
      | exact State.dispatch_suffix (s.setResume none) _ _
      | exact (State.dispatch_suffix (s.strokeStart.setResume none) _ _).trans (by simp)
      | simp
  case cancel =>
    simp only [State.serveCancel]
    split <;> simp [State.cancelFlush_spec, State.flush]
  all_goals simp

/-- A property of the records that the appending of SEGMENTS and the loss of records keep, every event keeps. -/
theorem queue_kept {Q : List Record → Prop} (hsuffix : ∀ l l', l' <:+ l → Q l → Q l')
    (hsegments : ∀ (s : State) (body : List Byte), Q s.queue.records → Q (s.serveSegments body).1.queue.records) :
    KeptByEvents fun s => Q s.queue.records where
  por s l f h := hsuffix _ _ (List.nil_suffix) h
  lineReset s h := hsuffix _ _ (List.nil_suffix) h
  releaseLine s h := by simpa using h
  endLoad s acked image h _ := hsuffix _ _ (s.endLoad_suffix acked image) h
  beginFrame s h := hsuffix _ _ s.beginFrame_suffix h
  dwellExpire s d h _ := hsuffix _ _ (State.dwellExpire_suffix (s.setDwell d)) h
  starveExpire s h := by simpa using h
  closeWindow s h := by simpa using h
  takeReturn s st a c h := by simpa using h
  strokeStalls s h _ := by simpa using h
  strokeStopped s h _ := by simpa using h
  indexPulse s n h := by simpa using h
  loadPulse s h := by simpa using h
  overflowWindow s h := by simpa using h
  setPins s v h := h
  deriveLine s i h := by simpa using h
  takeLine s i h := by simpa using h
  takeRiseHold s h := by simpa using h
  takeRiseHalt s h := by simpa using h
  takeRiseQuickStop s h := hsuffix _ _ s.takeRiseQuickStop_suffix h
  takeFall s h := by simpa using h
  takeBusLevel s h := by simpa using h
  setReceiver s r h := h
  countLink s a b c d h := h
  toInbox s r h := keeps_toInbox (P := fun s => Q s.queue.records) (fun _ _ => id) (fun s k body h => by
    by_cases hk : k = .segments
    · subst hk; exact hsegments s body h
    · exact hsuffix _ _ (s.serve_suffix k body hk) h) r h
  frameSent s h := keeps_frameSent (P := fun s => Q s.queue.records) (fun _ _ => id) (fun s k body h => by
    by_cases hk : k = .segments
    · subst hk; exact hsegments s body h
    · exact hsuffix _ _ (s.serve_suffix k body hk) h) (fun t h => hsuffix _ _ (by rw [t.reqReset_records]; exact List.nil_suffix) h) h
  toggleBlink s h := by simpa using h
  pageWritten s h := by simpa using h
  saveFails s h := by simpa using h

/-! ## The bound of the queue (R17) -/

theorem State.append_records (s : State) (r : Record) : (s.append r).queue.records = s.queue.records ++ [r] := by
  simp only [State.append]
  split <;> simp

/-- A record is accepted only where fewer than 128 are held (R7). -/
theorem State.examine_accepted {s : State} {body : List Byte} {r : Record} {clamped : Bool}
    (h : (s.examine body).verdict = .accepted r clamped) : s.checkMachine = none := by
  revert h
  simp only [State.examine]
  repeat' split
  all_goals simp_all

theorem State.checkMachine_room {s : State} (h : s.checkMachine = none) : s.queue.records.length < 128 := by
  revert h
  simp only [State.checkMachine]
  split_ifs <;> simp_all
  
theorem State.takeSegments_bounded (fuel : Nat) (body : List Byte) (b : Batch) {s : State}
    (h : s.queue.records.length ≤ 128) : (State.takeSegments fuel body b s).1.queue.records.length ≤ 128 := by
  induction fuel generalizing body b s with
  | zero => exact h
  | succ n ih =>
    simp only [State.takeSegments]
    split
    · exact h
    · split
      · exact h
      · rename_i hv
        have hroom := State.checkMachine_room (State.examine_accepted hv)
        exact ih _ _ (by simp [State.append_records]; omega)

theorem State.serveSegments_bounded {s : State} (h : s.queue.records.length ≤ 128) (body : List Byte) :
    (s.serveSegments body).1.queue.records.length ≤ 128 := by
  have hbody : (s.takeBody body).1.queue.records.length ≤ 128 := by
    simp only [State.takeBody]
    split <;> first | exact h | exact State.takeSegments_bounded _ _ _ h
  have harrival : ∀ t : State, t.arrival.queue.records <:+ t.queue.records := fun t => by
    simp only [State.arrival]
    split
    · exact State.dispatch_suffix (t.setStarve .stopped) _ _
    · exact List.suffix_refl _
  simp only [State.serveSegments]
  split
  · exact hbody
  · exact (harrival _).length_le.trans hbody

/-! ## The inbox (R162, R168) -/

theorem State.InboxServed.of_eq {s u : State} (h : s.InboxServed) (hi : u.link.inbox = s.link.inbox)
    (hr : u.link.reply = s.link.reply) : u.InboxServed := by
  simpa only [State.InboxServed, hi, hr] using h

theorem State.InboxServed.of_empty {u : State} (h : u.link.inbox = []) : u.InboxServed := by
  simp [State.InboxServed, h]

/-- The next request is taken where the reply slot is empty (R168). -/
theorem State.takeNext_served {s : State} (h : s.link.inbox.length ≤ 4) : s.takeNext.InboxServed := by
  simp only [State.takeNext]
  split
  · rename_i hr
    exact ⟨h, fun _ => by simp [hr]⟩
  · split
    · rename_i hi
      exact .of_empty hi
    · rename_i hi
      rw [hi, List.length_cons] at h
      refine ⟨?_, fun _ => ?_⟩
      · simpa [State.answer] using by omega
      · simp [State.answer]

theorem State.toInbox_served {s : State} (h : s.InboxServed) (r : Request) : (s.toInbox r).InboxServed := by
  simp only [State.toInbox]
  split
  · exact State.takeNext_served (by simp; omega)
  · exact h.of_eq rfl rfl

theorem State.reqReset_served (s : State) : s.reqReset.InboxServed := by
  refine .of_empty ?_
  have hcleared : s.reqCleared.link.inbox = [] := by simp [State.reqCleared]
  rw [State.reqReset_eq]
  split <;> simp [hcleared]

theorem State.frameSent_served {s : State} (h : s.InboxServed) : s.frameSent.InboxServed := by
  simp only [State.frameSent]
  split
  · exact h
  · exact h.of_eq rfl rfl
  · split
    · exact State.reqReset_served _
    · exact State.takeNext_served h.1

theorem inboxServed_kept : KeptByEvents State.InboxServed where
  por s l f _ := .of_empty rfl
  lineReset s _ := .of_empty rfl
  releaseLine s h := h.of_eq (by simp) (by simp)
  endLoad s acked image h _ := h.of_eq (by simp [State.endLoad]) (by simp [State.endLoad])
  beginFrame s h := h.of_eq (by simp) (by simp)
  dwellExpire s d h _ := h.of_eq (by simp) (by simp)
  starveExpire s h := h.of_eq (by simp) (by simp)
  closeWindow s h := h.of_eq (by simp) (by simp)
  takeReturn s st a c h := h.of_eq (by simp) (by simp)
  strokeStalls s h _ := h.of_eq (by simp) (by simp)
  strokeStopped s h _ := h.of_eq (by simp) (by simp)
  indexPulse s n h := h.of_eq (by simp) (by simp)
  loadPulse s h := h.of_eq (by simp) (by simp)
  overflowWindow s h := h.of_eq (by simp) (by simp)
  setPins s v h := h
  deriveLine s i h := h.of_eq (by simp) (by simp)
  takeLine s i h := h.of_eq (by simp) (by simp)
  takeRiseHold s h := h.of_eq (by simp) (by simp)
  takeRiseHalt s h := h.of_eq (by simp) (by simp)
  takeRiseQuickStop s h := h.of_eq (by simp) (by simp)
  takeFall s h := h.of_eq (by simp) (by simp)
  takeBusLevel s h := h.of_eq (by simp) (by simp)
  setReceiver s r h := h
  countLink s a b c d h := h
  toInbox s r h := State.toInbox_served h r
  frameSent s h := State.frameSent_served h
  toggleBlink s h := h.of_eq (by simp) (by simp)
  pageWritten s h := h.of_eq (by simp) (by simp)
  saveFails s h := h.of_eq (by simp) (by simp)

/-- Settles O6: only SEGMENTS appends, and only where a record has room; the inbox is served at each arrival and each reply's end. -/
theorem queueAndInboxBoundsKept : Obligations.QueueAndInboxBoundsKept := fun _ _ ht => by
  have hqueue := queue_kept (Q := fun l => l.length ≤ 128) (fun _ _ hs h => hs.length_le.trans h)
    fun _ body h => State.serveSegments_bounded h body
  exact ⟨fun hs => hqueue.step (fun _ h => by simpa using h) (fun _ h => by simpa using h) (fun _ _ h => h) hs ht,
    fun hs => inboxServed_kept.step (fun _ h => h.of_eq (by simp) (by simp)) (fun _ h => h.of_eq (by simp) (by simp))
      (fun _ _ h => h) hs ht⟩

end Sys2Proof.Machine
end


section
/-! SUPPORT. The stroke's timers run in their states (R89, R92 to R99), the override stays in its range (R43), and the store is SAVING
exactly during a save (R188, R189). -/

namespace Sys2Proof.Machine

/-! ## The stroke's timers (R89) -/

theorem State.StrokeTimersSound.of_eq {s u : State} (h : s.StrokeTimersSound) (hs : u.stroke.state = s.stroke.state)
    (ha : u.stroke.startTimer = s.stroke.startTimer) (hp : u.stroke.stopTimer = s.stroke.stopTimer) : u.StrokeTimersSound := by
  simpa only [State.StrokeTimersSound, hs, ha, hp] using h

theorem State.StrokeTimersSound.startTimer_eq {s : State} (h : s.StrokeTimersSound) (hs : s.stroke.state ≠ .starting) :
    s.stroke.startTimer = none := by
  have := mt h.1.1 hs
  simpa using this

theorem State.StrokeTimersSound.stopTimer_eq {s : State} (h : s.StrokeTimersSound) (hs : s.stroke.state ≠ .stopping) :
    s.stroke.stopTimer = none := by
  have := mt h.2.1 hs
  simpa using this

/-- In STOPPED, RUNNING and STALLED neither timer runs. -/
theorem State.StrokeTimersSound.of_untimed {u : State} (hs : u.stroke.state ≠ .starting) (hp : u.stroke.state ≠ .stopping)
    (ha : u.stroke.startTimer = none) (hb : u.stroke.stopTimer = none) : u.StrokeTimersSound := by
  simp [State.StrokeTimersSound, hs, hp, ha, hb]

theorem State.enterStopping_timers (s : State) : s.enterStopping.StrokeTimersSound := by
  simp [State.StrokeTimersSound, State.enterStopping]

theorem State.stopStroke_timers {s : State} (h : s.StrokeTimersSound) : s.stopStroke.StrokeTimersSound := by
  simp only [State.stopStroke]
  split <;> first | exact h | exact s.enterStopping_timers

theorem State.failTare_timers {s : State} (h : s.StrokeTimersSound) : s.failTare.StrokeTimersSound := by
  simp only [State.failTare, State.endTare]
  repeat' split
  all_goals first
    | exact h
    | exact State.stopStroke_timers (s := (s.setStroke _).noteTareDone _) h

theorem State.tareSuccess_timers {s : State} (h : s.StrokeTimersSound) (sum : Nat) : (s.tareSuccess sum).StrokeTimersSound := by
  simp only [State.tareSuccess, State.endTare]
  repeat' split
  all_goals first
    | exact h
    | exact State.stopStroke_timers (s := ((s.setSettings _).setStroke _).noteTareDone _) h

theorem State.strokeStop_timers {s : State} (h : s.StrokeTimersSound) : s.strokeStop.StrokeTimersSound := by
  simp only [State.strokeStop]
  split <;> first | exact h | exact State.failTare_timers (State.stopStroke_timers h)

theorem State.strokeStart_timers {s : State} (h : s.StrokeTimersSound) : s.strokeStart.StrokeTimersSound := by
  have hstart : (State.strokeStart.start s).StrokeTimersSound := by
    simp [State.StrokeTimersSound, State.strokeStart.start]
  simp only [State.strokeStart]
  split <;> first | exact h | exact hstart | exact hstart.of_eq (by simp) (by simp) (by simp)

theorem State.strokeStopped_timers {s : State} (h : s.StrokeTimersSound) (hs : s.stroke.state = .stopping) :
    s.strokeStopped.StrokeTimersSound := by
  have hstart : s.stroke.startTimer = none := h.startTimer_eq (by simp [hs])
  exact .of_untimed (by simp [State.strokeStopped]) (by simp [State.strokeStopped]) (by simp [State.strokeStopped, hstart])
    (by simp [State.strokeStopped])

theorem State.strokeStalls_timers {s : State} (h : s.StrokeTimersSound) (hs : s.stroke.state ≠ .stopping) :
    s.strokeStalls.StrokeTimersSound := by
  have hstop : s.stroke.stopTimer = none := h.stopTimer_eq hs
  exact State.failTare_timers (.of_untimed (by simp) (by simp) (by simp) (by simp [hstop]))

theorem State.strokeRuns_timers {s : State} (hstart : s.stroke.startTimer = none) (hstop : s.stroke.stopTimer = none) :
    s.strokeRuns.StrokeTimersSound := by
  simp only [State.strokeRuns]
  split <;> exact .of_untimed (by simp) (by simp) (by simp [hstart]) (by simp [hstop])

theorem State.judge_timers {s : State} (h : s.StrokeTimersSound) (fm : Nat) : (s.judge fm).StrokeTimersSound := by
  simp only [State.judge]
  split <;> rename_i hs
  · have hstop : s.stroke.stopTimer = none := h.stopTimer_eq (by simp [hs])
    split_ifs
    · exact h
    · exact State.strokeRuns_timers (by simp) (by simp [hstop])
    · exact h
  · split_ifs
    · exact h
    · exact State.strokeStalls_timers h (by simp [hs])
    · exact h
  · split_ifs
    · exact State.strokeRuns_timers (h.startTimer_eq (by simp [hs])) (h.stopTimer_eq (by simp [hs]))
    · exact h
  all_goals exact h

theorem State.tareWindow_timers {s : State} (h : s.StrokeTimersSound) (lf : Nat) : (s.tareWindow lf).StrokeTimersSound := by
  simp only [State.tareWindow]
  repeat' split
  all_goals first | exact h | exact State.tareSuccess_timers h _

theorem State.openWindow_timers {s : State} (h : s.StrokeTimersSound) : s.openWindow.StrokeTimersSound :=
  h.of_eq (by simp) (by simp) (by simp)

theorem State.completeWindow_timers {s : State} (h : s.StrokeTimersSound) (w : Window) :
    (s.completeWindow w).StrokeTimersSound := by
  have hjudge : ∀ fm lf,
      (State.judge (s.setStroke { s.stroke with fm := fm, lf := lf, window := none }) fm).StrokeTimersSound :=
    fun fm lf => State.judge_timers (s := s.setStroke { s.stroke with fm := fm, lf := lf, window := none }) h fm
  simp only [State.completeWindow]
  split
  · exact State.openWindow_timers (State.tareWindow_timers (((hjudge (frequencyFigure w.w w.p) (loadFigure w.c w.p))).of_eq (by simp) (by simp) (by simp)) _)
  · exact State.openWindow_timers (State.tareWindow_timers (hjudge _ _) _)

theorem State.overflowWindow_timers {s : State} (h : s.StrokeTimersSound) : s.overflowWindow.StrokeTimersSound := by
  simp only [State.overflowWindow]
  split <;> rename_i hs
  · exact h
  · exact State.strokeStalls_timers (s := s.setStroke { s.stroke with fm := 0, window := none }) h
      (by rw [hs]; decide)
  all_goals exact h

theorem State.indexPulse_timers {s : State} (h : s.StrokeTimersSound) (n : Nat) : (s.indexPulse n).StrokeTimersSound := by
  simp only [State.indexPulse, State.pulseInWindow]
  repeat' split
  all_goals first
    | exact State.completeWindow_timers h _
    | exact State.openWindow_timers h
    | exact State.openWindow_timers (State.overflowWindow_timers h)

theorem State.enterProgram_timers {s : State} (h : s.StrokeTimersSound) (e : Engine) (c : Cause) :
    (s.enterProgram e c).StrokeTimersSound := by
  have hstart : (if s.seq.engine.runsProgram then s else s.strokeStart).StrokeTimersSound := by
    split
    · exact h
    · exact State.strokeStart_timers h
  exact hstart.of_eq (by simp [State.enterProgram]) (by simp [State.enterProgram]) (by simp [State.enterProgram])

theorem State.enterStarved_timers {s : State} (h : s.StrokeTimersSound) : s.enterStarved.StrokeTimersSound := by
  have henter : ∀ t, ((s.enterEngine .starved .starve none).setStarve t).StrokeTimersSound := fun t =>
    h.of_eq (by simp) (by simp) (by simp)
  simp only [State.enterStarved]
  split
  · exact State.strokeStop_timers (henter _)
  · exact henter _

theorem State.dispatch_timers {s : State} (h : s.StrokeTimersSound) (c : Cause) (keep : Bool) :
    (s.dispatch c keep).StrokeTimersSound := by
  have hhead : s.completeHead.StrokeTimersSound := h.of_eq (by simp) (by simp) (by simp)
  simp only [State.dispatch, State.endReached, State.pivotStart]
  repeat' split
  all_goals first
    | exact State.enterStarved_timers h
    | exact hhead
    | exact (State.strokeStop_timers hhead).of_eq (by simp) (by simp) (by simp)
    | exact State.enterProgram_timers (by exact h) _ _

theorem State.cancelFlush_timers {s : State} (h : s.StrokeTimersSound) (c : Cause) : (s.cancelFlush c).StrokeTimersSound := by
  have hstop : ((s.setSeq { s.seq with interrupted := some s.report }).flush.strokeStop).StrokeTimersSound :=
    State.strokeStop_timers (h.of_eq (by simp) (by simp) (by simp))
  exact hstop.of_eq (by simp [State.cancelFlush]) (by simp [State.cancelFlush]) (by simp [State.cancelFlush])

theorem State.enterEngine_timers {s : State} (h : s.StrokeTimersSound) (e : Engine) (c : Cause) (p : Option Interrupted) :
    (s.enterEngine e c p).StrokeTimersSound := h.of_eq (by simp) (by simp) (by simp)

theorem State.quickStopEffect_timers {s : State} (h : s.StrokeTimersSound) : s.quickStopEffect.StrokeTimersSound := by
  have hstop : ∀ t : State, t.stroke = s.stroke → t.strokeStop.StrokeTimersSound := fun t ht =>
    State.strokeStop_timers (h.of_eq (by rw [ht]) (by rw [ht]) (by rw [ht]))
  simp only [State.quickStopEffect, State.quickStop]
  split
  · exact h
  · refine State.enterEngine_timers ?_ _ _ _
    exact hstop _ (by simp)

theorem State.haltEffect_timers {s : State} (h : s.StrokeTimersSound) : s.haltEffect.StrokeTimersSound := by
  simp only [State.haltEffect]
  split
  all_goals try refine State.enterEngine_timers ?_ _ _ _
  all_goals first | exact h | exact State.strokeStop_timers h

theorem State.restTest_timers {s : State} (h : s.StrokeTimersSound) : s.restTest.StrokeTimersSound := by
  simp only [State.restTest]
  split
  · split
    · exact h.of_eq (by simp) (by simp) (by simp)
    · exact (State.strokeStop_timers h).of_eq (by simp) (by simp) (by simp)
    · exact State.cancelFlush_timers h _
    all_goals exact h
  · exact h

theorem State.frameReport_timers {s : State} (h : s.StrokeTimersSound) (a : Nat) (m : Bool) :
    (s.frameReport a m).StrokeTimersSound := by
  simp only [State.frameReport]
  repeat' split
  all_goals first | exact h | exact State.failTare_timers (by exact h)

theorem State.afterWork_timers {s : State} (h : s.StrokeTimersSound) (w : FrameWork) : (s.afterWork w).StrokeTimersSound := by
  simp only [State.afterWork]
  split_ifs
  · exact State.dispatch_timers h _ _
  · exact State.enterProgram_timers h _ _
  · exact h

theorem State.frameWork_timers {s : State} (h : s.StrokeTimersSound) : s.frameWork.StrokeTimersSound := by
  have hwork : s.openFrame.interpolate.1.StrokeTimersSound := h.of_eq (by simp) (by simp) (by simp)
  have hreport := State.frameReport_timers hwork s.openFrame.interpolate.2.advance s.openFrame.interpolate.2.material
  exact (State.restTest_timers (State.afterWork_timers hreport s.openFrame.interpolate.2)).of_eq
    (by simp [State.frameWork]) (by simp [State.frameWork]) (by simp [State.frameWork])

theorem State.dwellExpire_timers {s : State} (h : s.StrokeTimersSound) : s.dwellExpire.StrokeTimersSound :=
  State.dispatch_timers (h.of_eq (by simp) (by simp) (by simp)) _ _

theorem State.starveExpire_timers {s : State} (h : s.StrokeTimersSound) : s.starveExpire.StrokeTimersSound :=
  State.strokeStop_timers (s := s.setStarve .expired) h

theorem State.countDwell_timers {s : State} (h : s.StrokeTimersSound) : s.countDwell.StrokeTimersSound := by
  simp only [State.countDwell]
  repeat' split
  all_goals first | exact h | exact State.dwellExpire_timers (s := s.setDwell _) h

theorem State.countStarve_timers {s : State} (h : s.StrokeTimersSound) : s.countStarve.StrokeTimersSound := by
  simp only [State.countStarve]
  repeat' split
  all_goals first | exact h | exact State.starveExpire_timers h

theorem State.countStart_timers {s : State} (h : s.StrokeTimersSound) (hs : s.stroke.state = .starting) :
    s.countStart.StrokeTimersSound := by
  simp only [State.countStart]
  repeat' split
  · exact h
  · exact State.strokeStalls_timers h (by simp [hs])
  · have hstop : s.stroke.stopTimer = none := h.stopTimer_eq (by simp [hs])
    simp [State.StrokeTimersSound, hs, hstop]

theorem State.countStop_timers {s : State} (h : s.StrokeTimersSound) (hs : s.stroke.state = .stopping) :
    s.countStop.StrokeTimersSound := by
  simp only [State.countStop]
  repeat' split
  · exact h
  · exact State.strokeStopped_timers h hs
  · have hstart : s.stroke.startTimer = none := h.startTimer_eq (by simp [hs])
    simp [State.StrokeTimersSound, hs, hstart]

theorem State.countTimers_timers {s : State} (h : s.StrokeTimersSound) (e : Engine) (st : StrokeState) :
    (s.countTimers e st).StrokeTimersSound := by
  have hif : ∀ (p : Prop) [Decidable p] (t u : State), t.StrokeTimersSound → (p → u.StrokeTimersSound) →
      (if p then u else t).StrokeTimersSound := fun p _ t u ht hu => by
    split
    · exact hu ‹_›
    · exact ht
  simp only [State.countTimers]
  refine hif _ _ _ ?_ fun hp => State.countStop_timers ?_ hp.2
  all_goals refine hif _ _ _ ?_ fun hp => State.countStart_timers ?_ hp.2
  all_goals refine hif _ _ _ ?_ fun _ => State.countStarve_timers ?_
  all_goals exact hif _ _ _ h fun _ => State.countDwell_timers h

theorem State.beginFrame_timers {s : State} (h : s.StrokeTimersSound) : s.beginFrame.StrokeTimersSound :=
  (State.countTimers_timers (State.frameWork_timers h) s.seq.engine s.stroke.state).of_eq (by simp [State.beginFrame])
    (by simp [State.beginFrame]) (by simp [State.beginFrame])

theorem State.restStage_timers {s : State} (h : s.StrokeTimersSound) (k : Slot) (b : Bool) :
    (s.restStage k b).StrokeTimersSound := by
  simp only [State.restStage]
  repeat' split
  all_goals first
    | exact h
    | exact State.strokeStopped_timers h (by simp_all)

theorem State.takeReturn_timers {s : State} (h : s.StrokeTimersSound) (st : Byte) (a : Word) (c : Byte) :
    (s.takeReturn st a c).StrokeTimersSound := by
  have hrest : ∀ (t : State) (k : Slot) (b : Bool), t.stroke = s.stroke → (t.restStage k b).StrokeTimersSound :=
    fun t k b ht => State.restStage_timers (h.of_eq (by rw [ht]) (by rw [ht]) (by rw [ht])) k b
  simp only [State.takeReturn, State.validReturn]
  repeat' split
  all_goals first
    | exact h
    | exact hrest _ _ _ (by simp)
    | exact h.of_eq (by simp) (by simp) (by simp)

theorem State.serveTare_timers {s : State} (h : s.StrokeTimersSound) : s.serveTare.1.StrokeTimersSound := by
  simp only [State.serveTare]
  repeat' split
  all_goals first
    | exact h
    | exact State.strokeStart_timers (s := State.serveTare.create s _ _) h

theorem State.serveResume_timers {s : State} (h : s.StrokeTimersSound) : s.serveResume.1.StrokeTimersSound := by
  have hact : ∀ t : State, t.StrokeTimersSound → t.actOnMemory.StrokeTimersSound := fun t ht =>
    State.dispatch_timers (s := t.setResume none) ht _ _
  simp only [State.serveResume]
  repeat' split
  all_goals first
    | exact h
    | exact hact _ h
    | exact hact _ (State.strokeStart_timers h)
    | exact State.enterProgram_timers (s := s.setResume none) h _ _

theorem State.serveCancel_timers {s : State} (h : s.StrokeTimersSound) : s.serveCancel.1.StrokeTimersSound := by
  have hidle : s.flush.strokeStop.StrokeTimersSound := State.strokeStop_timers (h.of_eq (by simp) (by simp) (by simp))
  simp only [State.serveCancel]
  split <;> first
    | exact hidle
    | exact State.cancelFlush_timers h _
    | exact h.of_eq (by simp) (by simp) (by simp)

theorem State.serveSegments_timers {s : State} (h : s.StrokeTimersSound) (body : List Byte) :
    (s.serveSegments body).1.StrokeTimersSound := by
  have hbody : (s.takeBody body).1.StrokeTimersSound := h.of_eq (by simp) (by simp) (by simp)
  simp only [State.serveSegments, State.arrival]
  split_ifs
  · exact hbody
  · exact State.dispatch_timers (s := (s.takeBody body).1.setStarve .stopped) hbody _ _
  · exact hbody

theorem State.serve_timers {s : State} (h : s.StrokeTimersSound) (k : RequestKind) (body : List Byte) :
    (s.serve k body).1.StrokeTimersSound := by
  cases k <;> simp only [State.serve, resultBody]
  case start =>
    simp only [State.serveStart]
    split_ifs <;> first | exact h | exact State.dispatch_timers h _ _
  case resume => exact State.serveResume_timers h
  case cancel => exact State.serveCancel_timers h
  case segments => exact State.serveSegments_timers h _
  case tare => exact State.serveTare_timers h
  all_goals exact h.of_eq (by simp) (by simp) (by simp)

theorem State.resetBlocks_timers (s : State) : s.resetBlocks.StrokeTimersSound :=
  .of_untimed (by simp [State.resetBlocks, StrokeUnit.reset]) (by simp [State.resetBlocks, StrokeUnit.reset])
    (by simp [State.resetBlocks, StrokeUnit.reset]) (by simp [State.resetBlocks, StrokeUnit.reset])

theorem State.reqReset_timers (s : State) : s.reqReset.StrokeTimersSound := by
  have hcleared : s.reqCleared.StrokeTimersSound := s.resetBlocks_timers.of_eq (by simp [State.reqCleared])
    (by simp [State.reqCleared]) (by simp [State.reqCleared])
  have hstart : s.reqCleared.readInputs.busStart.StrokeTimersSound :=
    State.beginFrame_timers (s := s.reqCleared.readInputs.startBus) (hcleared.of_eq (by simp) (by simp) (by simp))
  rw [State.reqReset_eq]
  split
  · exact hstart.of_eq (by simp) (by simp) (by simp)
  · exact hstart

theorem State.StrokeTimersSound.takeChange {s : State} (h : s.StrokeTimersSound) (k : LevelChange → Bool) (act : State → State)
    (hact : ∀ t : State, t.StrokeTimersSound → (act t).StrokeTimersSound) : (s.takeChange k act).StrokeTimersSound := by
  simp only [State.takeChange]
  repeat' split
  · exact h
  · exact hact _ h
  · exact h

theorem strokeTimers_kept : KeptByEvents State.StrokeTimersSound where
  por s l f _ := State.resetBlocks_timers _
  lineReset s _ := State.resetBlocks_timers s
  releaseLine s h := h.of_eq (by simp) (by simp) (by simp)
  endLoad s acked image h _ := by
    have hread : (((s.fillWorkingSet acked image).takeWorkingSet).readInputs).startBus.StrokeTimersSound :=
      h.of_eq (by simp [State.takeWorkingSet]) (by simp [State.takeWorkingSet]) (by simp [State.takeWorkingSet])
    exact (State.beginFrame_timers hread).of_eq (by simp [State.endLoad, State.busStart])
      (by simp [State.endLoad, State.busStart]) (by simp [State.endLoad, State.busStart])
  beginFrame s h := State.beginFrame_timers h
  dwellExpire s d h _ := State.dwellExpire_timers (s := s.setDwell d) h
  starveExpire s h := State.starveExpire_timers h
  closeWindow s h := h.of_eq (by simp) (by simp) (by simp)
  takeReturn s st a c h := State.takeReturn_timers h st a c
  strokeStalls s h hs := State.strokeStalls_timers h (by simp [hs])
  strokeStopped s h hs := State.strokeStopped_timers h hs
  indexPulse s n h := State.indexPulse_timers h n
  loadPulse s h := h.of_eq (by simp) (by simp) (by simp)
  overflowWindow s h := State.overflowWindow_timers h
  setPins s v h := h
  deriveLine s i h := h.of_eq (by simp) (by simp) (by simp)
  takeLine s i h := h.of_eq (by simp) (by simp) (by simp)
  takeRiseHold s h := h.of_eq (by simp) (by simp) (by simp)
  takeRiseHalt s h := h.takeChange _ _ fun _ ht => State.failTare_timers (State.haltEffect_timers ht)
  takeRiseQuickStop s h := h.takeChange _ _ fun _ ht => State.failTare_timers (State.quickStopEffect_timers ht)
  takeFall s h := h.of_eq (by simp) (by simp) (by simp)
  takeBusLevel s h := h.of_eq (by simp) (by simp) (by simp)
  setReceiver s r h := h
  countLink s a b c d h := h
  toInbox s r h := keeps_toInbox (P := State.StrokeTimersSound) (fun _ _ => id)
    (fun _ k body h => State.serve_timers h k body) r h
  frameSent s h := keeps_frameSent (P := State.StrokeTimersSound) (fun _ _ => id)
    (fun _ k body h => State.serve_timers h k body) (fun t _ => t.reqReset_timers) h
  toggleBlink s h := h.of_eq (by simp) (by simp) (by simp)
  pageWritten s h := h.of_eq (by simp) (by simp) (by simp)
  saveFails s h := h.of_eq (by simp) (by simp) (by simp)

end Sys2Proof.Machine
end


section
/-! SUPPORT. The override and the save in their ranges (R43, R188), the step and its frame, the outputs (R160, R161, R184), and the state
after reset. -/

namespace Sys2Proof.Machine

/-! ## The override (R43) -/

theorem State.OverrideBounded.of_eq {s u : State} (h : s.OverrideBounded) (ho : u.override = s.override) : u.OverrideBounded := by
  simpa only [State.OverrideBounded, ho] using h

theorem State.serve_override {s : State} (h : s.OverrideBounded) (k : RequestKind) (body : List Byte) :
    (s.serve k body).1.OverrideBounded := by
  cases k <;> simp only [State.serve, resultBody]
  case override => simp [State.OverrideBounded, State.overrideReply, State.serveOverride, clampNat]
  all_goals exact h.of_eq (by simp)

theorem State.reqReset_override (s : State) : s.reqReset.override = 100 := by
  have hcleared : s.reqCleared.override = 100 := by simp [State.reqCleared, State.resetBlocks]
  rw [State.reqReset_eq]
  split <;> simp [hcleared]

theorem override_kept : KeptByEvents State.OverrideBounded where
  por s l f _ := show 100 ≤ 150 by decide
  lineReset s _ := show 100 ≤ 150 by decide
  releaseLine s h := h.of_eq (by simp)
  endLoad s acked image h _ := h.of_eq (by simp [State.endLoad])
  beginFrame s h := h.of_eq (by simp)
  dwellExpire s d h _ := h.of_eq (by simp)
  starveExpire s h := h.of_eq (by simp)
  closeWindow s h := h.of_eq (by simp)
  takeReturn s st a c h := h.of_eq (by simp)
  strokeStalls s h _ := h.of_eq (by simp)
  strokeStopped s h _ := h.of_eq (by simp)
  indexPulse s n h := h.of_eq (by simp)
  loadPulse s h := h.of_eq (by simp)
  overflowWindow s h := h.of_eq (by simp)
  setPins s v h := h
  deriveLine s i h := h.of_eq (by simp)
  takeLine s i h := h.of_eq (by simp)
  takeRiseHold s h := h.of_eq (by simp)
  takeRiseHalt s h := h.of_eq (by simp)
  takeRiseQuickStop s h := h.of_eq (by simp)
  takeFall s h := h.of_eq (by simp)
  takeBusLevel s h := h.of_eq (by simp)
  setReceiver s r h := h
  countLink s a b c d h := h
  toInbox s r h := keeps_toInbox (P := State.OverrideBounded) (fun _ _ => id) (fun _ k body h => State.serve_override h k body) r h
  frameSent s h := keeps_frameSent (P := State.OverrideBounded) (fun _ _ => id) (fun _ k body h => State.serve_override h k body)
    (fun t _ => by simp [State.OverrideBounded, t.reqReset_override]) h
  toggleBlink s h := h.of_eq (by simp)
  pageWritten s h := h.of_eq (by simp)
  saveFails s h := h.of_eq (by simp)

/-! ## The save (R188, R189) -/

theorem State.SaveSound.of_eq {s u : State} (h : s.SaveSound) (hs : u.settings.store = s.settings.store)
    (hv : u.settings.save = s.settings.save) : u.SaveSound := by
  simpa only [State.SaveSound, hs, hv] using h

/-- No save is in flight and the store is not SAVING. -/
theorem State.SaveSound.of_ended {u : State} (hs : u.settings.store ≠ .saving) (hv : u.settings.save = none) : u.SaveSound := by
  simp [State.SaveSound, hs, hv]

theorem State.serve_save {s : State} (h : s.SaveSound) (k : RequestKind) (body : List Byte) : (s.serve k body).1.SaveSound := by
  cases k <;> simp only [State.serve, resultBody]
  case save =>
    simp only [State.serveSave]
    split_ifs <;> first | exact h | simp [State.SaveSound]
  all_goals exact h.of_eq (by simp) (by simp)

theorem State.pageWritten_save {s : State} (h : s.SaveSound) : s.pageWritten.SaveSound := by
  simp only [State.pageWritten]
  split
  · exact h
  · rename_i v hv
    split
    · exact .of_ended (by simp [State.endSave]) (by simp [State.endSave])
    · have hsaving : s.settings.store = .saving := h.1.2 (by simp [hv])
      simp [State.SaveSound, hsaving]
      omega

theorem State.saveFails_save {s : State} (h : s.SaveSound) : s.saveFails.SaveSound := by
  simp only [State.saveFails]
  split
  · exact h
  · exact .of_ended (by simp [State.endSave]) (by simp [State.endSave])

theorem save_kept : KeptByEvents State.SaveSound where
  por s l f _ := .of_ended (by simp [State.por, Settings.reset]) (by simp [State.por, Settings.reset])
  lineReset s _ := .of_ended (by simp [State.lineReset]) (by simp [State.lineReset])
  releaseLine s h := h.of_eq (by simp) (by simp)
  endLoad s acked image _ _ := by
    have hset : (s.endLoad acked image).settings = (s.fillWorkingSet acked image).settings := by simp [State.endLoad]
    exact .of_ended (by simp [hset, State.fillWorkingSet]) (by simp [hset, State.fillWorkingSet])
  beginFrame s h := h.of_eq (by simp) (by simp)
  dwellExpire s d h _ := h.of_eq (by simp) (by simp)
  starveExpire s h := h.of_eq (by simp) (by simp)
  closeWindow s h := h.of_eq (by simp) (by simp)
  takeReturn s st a c h := h.of_eq (by simp) (by simp)
  strokeStalls s h _ := h.of_eq (by simp) (by simp)
  strokeStopped s h _ := h.of_eq (by simp) (by simp)
  indexPulse s n h := h.of_eq (by simp) (by simp)
  loadPulse s h := h.of_eq (by simp) (by simp)
  overflowWindow s h := h.of_eq (by simp) (by simp)
  setPins s v h := h
  deriveLine s i h := h.of_eq (by simp) (by simp)
  takeLine s i h := h.of_eq (by simp) (by simp)
  takeRiseHold s h := h.of_eq (by simp) (by simp)
  takeRiseHalt s h := h.of_eq (by simp) (by simp)
  takeRiseQuickStop s h := h.of_eq (by simp) (by simp)
  takeFall s h := h.of_eq (by simp) (by simp)
  takeBusLevel s h := h.of_eq (by simp) (by simp)
  setReceiver s r h := h
  countLink s a b c d h := h
  toInbox s r h := keeps_toInbox (P := State.SaveSound) (fun _ _ => id) (fun _ k body h => State.serve_save h k body) r h
  frameSent s h := keeps_frameSent (P := State.SaveSound) (fun _ _ => id) (fun _ k body h => State.serve_save h k body)
    (fun _ h => h.of_eq (by simp) (by simp)) h
  toggleBlink s h := h.of_eq (by simp) (by simp)
  pageWritten s h := State.pageWritten_save h
  saveFails s h := State.saveFails_save h

/-- Settles O10: each of the four is kept by every operation behind the events. -/
theorem rangesTimersAndSaveKept : Obligations.RangesTimersAndSaveKept := fun _ _ ht =>
  ⟨fun hs => hs.step ht,
    fun hs => override_kept.step (fun _ h => h.of_eq (by simp)) (fun _ h => h.of_eq (by simp)) (fun _ _ h => h) hs ht,
    fun hs => strokeTimers_kept.step (fun _ h => h.of_eq (by simp) (by simp) (by simp))
      (fun _ h => h.of_eq (by simp) (by simp) (by simp)) (fun _ _ h => h) hs ht,
    fun hs => save_kept.step (fun _ h => h.of_eq (by simp) (by simp)) (fun _ h => h.of_eq (by simp) (by simp))
      (fun _ _ h => h) hs ht⟩

/-! ## The step and the frame of every command -/

/-- Settles O1. -/
theorem stepTakesFrontCommand : Obligations.StepTakesFrontCommand := fun _ _ _ => rfl

/-- Settles O2: the counts of one cycle, each as its block has it. -/
theorem idleStepCountsOneCycle : Obligations.IdleStepCountsOneCycle := by
  intro s hs
  have hstep : step s = .next s.tick := by simp only [step, hs]
  refine ⟨fun hheld => by rw [hstep, State.tick, if_pos hheld], fun hheld => ?_⟩
  have hgap : s.link.tick = { s.link with gap := if s.link.receiver.midFrame then min (s.link.gap + 1) 20001 else s.link.gap } := by
    simp only [Link.tick]
    split <;> rfl
  have hbus : s.bus.tick = match s.bus.opening with
      | none => s.bus
      | some o =>
        if 1 < o.cycles then { s.bus with opening := some { o with cycles := o.cycles - 1 } }
        else if s.bus.window = none then { s.bus with window := some ⟨o.slot, false⟩, opening := none }
        else s.bus := by
    simp only [Bus.tick, Bus.openHeld]
    cases ho : s.bus.opening with
    | none => rfl
    | some o =>
      by_cases hc : 1 < o.cycles
      · simp only [hc, if_true, if_neg (Nat.not_le.2 hc)]
      · cases hw : s.bus.window <;> simp [hc, Nat.not_lt.1 hc]
  rw [hstep, State.tick, if_neg hheld, hgap, hbus]
  rfl

/-- What every event leaves but the commands of its own: the queue of commands, the pins and the straps. -/
theorem State.effect_keeps (c : Instr) (s : State) : (s.effect c).pending = s.pending ∧
    ((s.effect c).pins = match c with
      | .inputLineChange i high => s.pins.set i.val high
      | _ => s.pins) ∧
    ((∀ l f, c ≠ .powerOnReset l f) →
      (s.effect c).startup.lrateHigh = s.startup.lrateHigh ∧ (s.effect c).startup.safeNHigh = s.startup.safeNHigh) := by
  cases c <;> dsimp only [State.effect, requestOf]
  case powerOnReset l f => exact ⟨by simp, by simp, fun h => absurd rfl (h l f)⟩
  case lineReset => exact ⟨by simp, by simp, fun _ => ⟨rfl, rfl⟩⟩
  case lineResetRelease =>
    refine ⟨by simp, by simp, fun _ => ?_⟩
    simp only [State.releaseLine]
    split <;> exact ⟨rfl, rfl⟩
  case settingsLoad acked image =>
    have hlink : ∀ t : State, t.enableLink.startup = { t.startup with phase := .started } := fun t => by
      simp only [State.enableLink]
      split <;> simp
    split
    · exact ⟨by simp, by simp, fun _ => by simp [State.endLoad, hlink]⟩
    · exact ⟨rfl, rfl, fun _ => ⟨rfl, rfl⟩⟩
  all_goals repeat' split
  all_goals simp

/-- Settles O3: the frame of every command's effect, which the end of its event leaves. -/
theorem everyCommandAnswersNext : Obligations.EveryCommandAnswersNext := fun c s => by
  obtain ⟨hpending, hpins, hstraps⟩ := s.effect_keeps c
  have hcommit : (s.effect c).commit.pins = (s.effect c).pins := by simp
  refine ⟨_, exec_eq_effect c s, by simpa using hpending, ?_, by simpa using hstraps⟩
  rw [hcommit]
  cases c <;> exact hpins

/-! ## The outputs (R160, R161, R162, R184) -/

/-- How a lamp shows: lit, or blinking with the blink clock in its first half (R160). -/
theorem LampSetting.lit_iff (l : LampSetting) (t : TripUnit) : l.lit t.blinkOn = true ↔ l = .on ∨ l = .blink ∧ t.blink < 5000000 := by
  cases l <;> simp [LampSetting.lit, TripUnit.blinkOn]

/-- R161's table for each lamp. -/
theorem State.autoGreen_lit (s : State) : s.autoGreen.lit s.trip.blinkOn = true ↔
    s.seq.engine ∈ [Engine.running, .pivoting, .dwelling] ∨ s.seq.engine = .starved ∧ s.trip.blink < 5000000 := by
  rw [LampSetting.lit_iff]
  cases he : s.seq.engine <;> simp [State.autoGreen, he]

theorem State.autoAmber_lit (s : State) : s.autoAmber.lit s.trip.blinkOn = true ↔
    s.seq.engine ∈ [Engine.holding, .held, .halting, .halted, .cancelling] ∨
      s.stroke.tareState ∈ [TareState.waiting, .measuring] ∧ s.trip.blink < 5000000 := by
  have htare : s.stroke.tareInFlight = true ↔ s.stroke.tareState ∈ [TareState.waiting, .measuring] := by
    cases ht : s.stroke.tareState <;> simp [StrokeUnit.tareInFlight, ht]
  rw [LampSetting.lit_iff, ← htare]
  cases he : s.seq.engine <;> cases hf : s.stroke.tareInFlight <;> simp [State.autoAmber, he, hf]

theorem TripUnit.anyLatched_iff (t : TripUnit) : t.anyLatched = true ↔ ∃ i : Fin 15, (t.sources[i]).state = .latched := by
  simp only [TripUnit.anyLatched, List.any_eq_true, beq_iff_eq, Vector.mem_toList_iff, Vector.mem_iff_getElem]
  constructor
  · rintro ⟨_, ⟨i, hi, rfl⟩, h⟩
    exact ⟨⟨i, hi⟩, h⟩
  · rintro ⟨i, h⟩
    exact ⟨_, ⟨i.val, i.isLt, rfl⟩, h⟩

theorem State.autoRed_lit (s : State) : s.autoRed.lit s.trip.blinkOn = true ↔
    (s.trip.level = .quickStop ∨ s.seq.engine = .aborted) ∨
      (∃ i : Fin 15, (s.trip.sources[i]).state = .latched) ∧ s.trip.blink < 5000000 := by
  rw [LampSetting.lit_iff, ← TripUnit.anyLatched_iff]
  simp only [State.autoRed]
  split
  · simp [*]
  · split <;> simp [*]

theorem TripUnit.hostDisplay_iff (t : TripUnit) :
    t.hostDisplay = true ↔ ¬ (t.green = .off ∧ t.amber = .off ∧ t.red = .off) := by
  cases hg : t.green <;> cases ha : t.amber <;> cases hr : t.red <;> simp [TripUnit.hostDisplay, hg, ha, hr]

/-- ATTN: an enabled class holds a record (R184). -/
theorem NoticeUnit.attention_iff (n : NoticeUnit) : n.attention = true ↔
    (n.trip ≠ none ∧ n.enables.getLsbD 0 = true) ∨ (n.engineState ≠ none ∧ n.enables.getLsbD 1 = true) ∨
    (n.segmentDone ≠ none ∧ n.enables.getLsbD 2 = true) ∨ (n.queueLow ≠ none ∧ n.enables.getLsbD 3 = true) ∨
    (n.band ≠ none ∧ n.enables.getLsbD 4 = true) ∨ (n.tareDone ≠ none ∧ n.enables.getLsbD 5 = true) ∨
    (n.storeDone ≠ none ∧ n.enables.getLsbD 6 = true) := by
  simp [NoticeUnit.attention, NoticeClass.all, NoticeUnit.candidate, NoticeUnit.enabled, NoticeUnit.isPending,
    NoticeClass.number, Option.isSome_iff_ne_none, and_comm]

theorem Transmitter.busy_iff (x : Transmitter) : x.busy = true ↔ x ≠ .free := by
  cases x <;> simp [Transmitter.busy]

/-- The end of every event leaves the outputs and the two-wire line as the state gives them. -/
theorem State.commit_follows (s : State) : s.commit.OutputsFollow := by
  have hspec := s.commit_spec
  have houtputs : s.commit.outputs = s.commit.outputsOf := by
    conv_lhs => rw [hspec]
  have hwire : s.commit.twoWire = s.twoWireOf := by
    conv_lhs => rw [hspec]
  refine ⟨houtputs, ?_⟩
  rw [hwire]
  simp [State.twoWireOf]

/-- A cycle of the reference leaves the half of the blink clock (R160). -/
theorem State.tick_follows {s : State} (h : s.OutputsFollow) : s.tick.OutputsFollow := by
  obtain ⟨houtputs, hwire⟩ := h
  have hblink : s.tick.trip.blinkOn = s.trip.blinkOn := by
    simp only [State.tick]
    split
    · rfl
    · simp only [TripUnit.blinkOn, blinkTick, State.setBus_trip, State.setLink_trip, State.setTrip_trip]
      split <;> first | rfl | (congr 1; simp; omega)
  refine ⟨?_, ?_⟩
  · have hhost : s.tick.trip.hostDisplay = s.trip.hostDisplay := by simp only [TripUnit.hostDisplay, State.tick_frame]
    have hengine : s.tick.seq.engine = s.seq.engine := by simp
    have htare : s.tick.stroke.tareInFlight = s.stroke.tareInFlight := by simp only [StrokeUnit.tareInFlight, State.tick_frame]
    have hlevel : s.tick.trip.level = s.trip.level := by simp
    have hlatched : s.tick.trip.anyLatched = s.trip.anyLatched := by simp only [TripUnit.anyLatched, State.tick_frame]
    have hgreen : s.tick.autoGreen = s.autoGreen := by rw [State.autoGreen, State.autoGreen, hengine]
    have hamber : s.tick.autoAmber = s.autoAmber := by rw [State.autoAmber, State.autoAmber, hengine, htare]
    have hred : s.tick.autoRed = s.autoRed := by rw [State.autoRed, State.autoRed, hengine, hlevel, hlatched]
    have hof : s.tick.outputsOf = s.outputsOf := by
      simp only [State.outputsOf, hblink, hhost, hgreen, hamber, hred, State.tick_frame]
    rw [hof, ← houtputs]
    simp
  · have hof : s.tick.twoWireOf = s.twoWireOf := by simp [State.twoWireOf]
    rw [hof, ← hwire]
    simp

/-- The outputs that follow the state, pin by pin. -/
theorem State.OutputsFollow.pins {t : State} (h : t.OutputsFollow) (hp : t.startup.phase ≠ .held) :
    t.outputs.lgrn = (if t.trip.hostDisplay then t.trip.green else t.autoGreen).lit t.trip.blinkOn ∧
    t.outputs.lamb = (if t.trip.hostDisplay then t.trip.amber else t.autoAmber).lit t.trip.blinkOn ∧
    t.outputs.lred = (if t.trip.hostDisplay then t.trip.red else t.autoRed).lit t.trip.blinkOn ∧
    t.outputs.attn = t.notice.attention ∧ t.outputs.lde = t.link.transmitter.busy := by
  simp [h.1, State.outputsOf, hp]

/-- Settles O9: the end of every event sets the outputs from the state, and a cycle of the reference leaves what they show. -/
theorem outputsFollowKept : Obligations.OutputsFollowKept := by
  have hexec : ∀ (c : Instr) (s t : State), exec c s = .next t → t.OutputsFollow := fun c s t ht => by
    rw [exec_eq_effect] at ht
    cases ht
    exact State.commit_follows _
  refine ⟨fun s t hs ht => ?_, hexec, fun c s t ht => ⟨fun hheld => ?_, fun hp => ?_⟩⟩
  · simp only [step] at ht
    split at ht
    · cases ht; exact State.tick_follows hs
    · exact hexec _ _ _ ht
  · rw [(hexec c s t ht).1, State.outputsOf, if_pos hheld]
  · obtain ⟨hgreen, hamber, hred, hattn, hlde⟩ := (hexec c s t ht).pins hp
    refine ⟨fun hhost => ?_, fun hhost => ?_, by rw [hattn, NoticeUnit.attention_iff], by rw [hlde, Transmitter.busy_iff]⟩
    · rw [if_pos ((TripUnit.hostDisplay_iff _).2 hhost)] at hgreen hamber hred
      exact ⟨by rw [hgreen, LampSetting.lit_iff], by rw [hamber, LampSetting.lit_iff], by rw [hred, LampSetting.lit_iff]⟩
    · rw [if_neg (mt (TripUnit.hostDisplay_iff _).1 hhost)] at hgreen hamber hred
      exact ⟨by rw [hgreen, State.autoGreen_lit], by rw [hamber, State.autoAmber_lit], by rw [hred, State.autoRed_lit]⟩

/-! ## The state after reset -/

theorem reset_source (i : Fin 15) : State.reset.trip.sources[i] = Source.fresh romActions[i] := by
  simp [State.reset, TripUnit.rom, romSources]

/-- After reset no lamp is lit, no record is pending and nothing is sent. -/
theorem reset_outputs : State.reset.outputsOf = ⟨false, false, false, false, false⟩ := by
  have hlatched : State.reset.trip.anyLatched = false := Bool.eq_false_iff.2 fun h => by
    obtain ⟨i, hi⟩ := (TripUnit.anyLatched_iff _).1 h
    rw [reset_source] at hi
    cases hi
  have hred : State.reset.autoRed = .off := by
    rw [State.autoRed, hlatched]
    rfl
  rw [State.outputsOf, hred]
  rfl

/-- Settles O11: each invariant evaluated on the reset values; a feed of 0, a level of NONE and empty lists meet most of them. -/
theorem resetMeetsInvariants : Obligations.ResetMeetsInvariants := by
  have hmoves : State.reset.FeedMoves := .of_rest rfl
  refine ⟨State.levelAgrees_of_clear (fun i => by rw [reset_source]; rfl) rfl, romBands_ascend, Nat.zero_le _, hmoves,
    hmoves.atRest, .of_none rfl, fun i hi => ?_, .of_empty rfl, ⟨reset_outputs.symm, rfl⟩, show 100 ≤ 150 by decide,
    .of_untimed (by decide) (by decide) rfl rfl, .of_ended (by decide) rfl, ?_⟩
  · rw [reset_source]
    exact .inr (romActions_guard hi)
  · exact ⟨Nat.zero_le _, fun r hr => (List.not_mem_nil hr).elim, by decide, by decide⟩

end Sys2Proof.Machine
end


section
/-! SUPPORT. The resets (R191): what the end of the event makes of them, and each block's values. -/

namespace Sys2Proof.Machine

/-- Before the end of start-up the transmitter chooses nothing (R170). -/
theorem State.offerTransmit_of_not_started {s : State} (h : s.startup.phase ≠ .started) : s.offerTransmit = s := by
  simp only [State.offerTransmit, if_neg h]

theorem State.commit_of_not_started {s : State} (h : s.startup.phase ≠ .started) :
    s.commit = (s.setOutputs s.outputsOf).setTwoWire s.twoWireOf := by
  rw [State.commit, State.offerTransmit_of_not_started h]

/-- A reset leaves no lamp lit, no record pending and nothing sent. -/
theorem outputsOf_of_reset {s : State} (hgreen : s.trip.green = .off) (hamber : s.trip.amber = .off)
    (hred : s.trip.red = .off) (hlevel : s.trip.level = .none) (hclear : ∀ i : Fin 15, (s.trip.sources[i]).state = .clear)
    (hengine : s.seq.engine = .idle) (htare : s.stroke.tareState = .idle) (hattn : s.notice.attention = false)
    (hfree : s.link.transmitter = .free) : s.outputsOf = ⟨false, false, false, false, false⟩ := by
  have hhost : s.trip.hostDisplay = false := by simp [TripUnit.hostDisplay, hgreen, hamber, hred]
  have hlatched : s.trip.anyLatched = false := Bool.eq_false_iff.2 fun h => by
    obtain ⟨i, hi⟩ := (TripUnit.anyLatched_iff _).1 h
    rw [hclear i] at hi
    cases hi
  simp [State.outputsOf, hhost, State.autoGreen, State.autoAmber, State.autoRed, StrokeUnit.tareInFlight, hlatched, hlevel,
    hengine, htare, hattn, hfree, LampSetting.lit, Transmitter.busy]

/-- Settles O12: the values of every block after POR; the transmitter has nothing to send before start-up ends. -/
theorem powerOnResetSetsEveryBlock : Obligations.PowerOnResetSetsEveryBlock := by
  intro lrate safeN s
  have hphase : (s.por lrate safeN).startup.phase ≠ .started := by
    simp only [State.por, State.setStartup_startup]
    split <;> decide
  have hclear : ∀ i : Fin 15, ((s.por lrate safeN).trip.sources[i]).state = .clear := fun i => by rw [s.por_source]; rfl
  have hattn : NoticeUnit.reset.attention = false := by decide
  have hout : (s.por lrate safeN).outputsOf = ⟨false, false, false, false, false⟩ :=
    outputsOf_of_reset rfl rfl rfl rfl hclear rfl rfl hattn rfl
  have hwire : (s.por lrate safeN).twoWireOf = (if s.startup.phase = .held then []
      else if safeN then [.start, .addressWrite, .sent 0, .sent 0, .start, .addressRead, .received 230, .stop]
      else [.start, .addressWrite, .stop]) := by
    by_cases hh : s.startup.phase = .held
    · simp [State.twoWireOf, State.por, hh]
    · simp only [State.twoWireOf, State.por, State.setStartup_startup, if_neg hh]
      rfl
  refine ⟨(s.por lrate safeN).commit, rfl, ?_⟩
  rw [State.commit_of_not_started hphase, hout, hwire]
  exact ⟨rfl, rfl, rfl, rfl, rfl, rfl, rfl, rfl, rfl, rfl, rfl, rfl, rfl, rfl, rfl,
    fun i => by simp only [State.setTwoWire_trip, State.setOutputs_trip, s.por_source]; exact ⟨rfl, rfl, rfl⟩,
    rfl, rfl, rfl, rfl, rfl, rfl, rfl, rfl, rfl, rfl, rfl, rfl, rfl⟩

theorem resetBlocks_input (s : State) (i : Fin 8) : s.resetBlocks.trip.inputs[i] =
    ⟨(s.trip.inputs[i]).polarity, (s.trip.inputs[i]).debounce, false, none⟩ := by
  simp [State.resetBlocks, TripUnit.reset, Input.fresh]

/-- Settles O13: while RESET_N is low every block stands at its reset values; the release changes the phase alone. -/
theorem lineResetHoldsEveryBlock : Obligations.LineResetHoldsEveryBlock := by
  refine ⟨fun s => ?_, fun s => ?_, fun s hheld => ?_⟩
  · have hphase : s.lineReset.startup.phase = .held := rfl
    have hout : s.lineReset.outputsOf = ⟨false, false, false, false, false⟩ := if_pos hphase
    have hwire : s.lineReset.twoWireOf = [] := rfl
    refine ⟨s.lineReset.commit, rfl, ?_⟩
    rw [State.commit_of_not_started (by rw [hphase]; decide), hout, hwire]
    exact ⟨rfl, rfl, rfl, rfl, rfl, rfl, rfl, rfl, rfl, rfl, rfl, rfl, rfl, rfl, s.resetBlocks_source,
      resetBlocks_input s, rfl, rfl, rfl, rfl, rfl, rfl, rfl, rfl, rfl, rfl⟩
  · have hrelease : s.releaseLine =
        if s.startup.phase = .held then { s with startup := { s.startup with phase := .loading } } else s := rfl
    rw [← hrelease]
    rfl
  · refine ⟨s.releaseLine.commit, rfl, ?_⟩
    have hphase : s.releaseLine.startup = { s.startup with phase := .loading } := by
      simp only [State.releaseLine, if_pos hheld]
      rfl
    rw [State.commit_of_not_started (by simp [hphase])]
    simp only [State.setTwoWire_twoWire, State.twoWireOf, hphase]
    rfl

end Sys2Proof.Machine
end


section
/-! SUPPORT. The meaning of each event's command (R127 to R191): the operation behind it, and the end of the event. -/

namespace Sys2Proof.Machine

theorem exec_settingsLoad (acked : Nat) (image : List Byte) (s : State) : exec (.settingsLoad acked image) s =
    .next (if s.startup.phase = .loading then s.endLoad acked image else s).commit := rfl

theorem exec_frameBegin (s : State) :
    exec .frameBegin s = .next (if s.bus.started then s.beginFrame else s).commit := rfl

theorem exec_dwellExpiry (s : State) : exec .dwellExpiry s = .next (s.effect .dwellExpiry).commit := rfl

theorem exec_starveTimerExpiry {s : State} {n : Nat} (h : s.seq.starve = .running n) :
    exec .starveTimerExpiry s = .next s.starveExpire.commit := by
  have heffect : s.effect .starveTimerExpiry = match s.seq.starve with
      | .running _ => s.starveExpire
      | .stopped => s
      | .expired => s := rfl
  rw [exec_eq_effect, heffect, h]

theorem exec_startTimerExpiry (s : State) : exec .startTimerExpiry s =
    .next (if s.stroke.state = .starting then s.strokeStalls else s).commit := rfl

theorem exec_stopTimerExpiry (s : State) : exec .stopTimerExpiry s =
    .next (if s.stroke.state = .stopping then s.strokeStopped else s).commit := rfl

theorem exec_sidxPulse (cycles : Nat) (s : State) : exec (.sidxPulse cycles) s =
    .next (if s.startup.phase = .held then s else s.indexPulse cycles).commit := rfl

theorem exec_lfqPulse (s : State) : exec .lfqPulse s =
    .next (if s.startup.phase = .held then s else s.loadPulse).commit := rfl

theorem exec_windowOverflow (s : State) : exec .windowOverflow s =
    .next (if s.stroke.window.isSome then s.overflowWindow else s).commit := rfl

theorem exec_inputLineChange (i : Fin 8) (high : Bool) (s : State) : exec (.inputLineChange i high) s =
    .next (if s.startup.phase = .started then (s.setPins (s.pins.set i.val high)).deriveLine i
      else s.setPins (s.pins.set i.val high)).commit := rfl

theorem exec_debounceExpiry (i : Fin 8) (s : State) : exec (.debounceExpiry i) s =
    .next (if (s.trip.inputs[i]).timer.isSome then s.takeLine i else s).commit := rfl

theorem exec_levelRiseHalt (s : State) : exec .levelRiseHalt s = .next s.takeRiseHalt.commit := rfl

theorem exec_levelRiseQuickStop (s : State) : exec .levelRiseQuickStop s = .next s.takeRiseQuickStop.commit := rfl

theorem exec_levelFall (s : State) : exec .levelFall s = .next s.takeFall.commit := rfl

theorem exec_busLevelChange (s : State) : exec .busLevelChange s = .next s.takeBusLevel.commit := rfl

theorem exec_gapTimeout (s : State) : exec .gapTimeout s = .next s.gapExpire.commit := rfl

theorem exec_transmitEnd (s : State) : exec .transmitEnd s = .next s.frameSent.commit := rfl

theorem exec_blinkToggle (s : State) : exec .blinkToggle s =
    .next (if s.startup.phase = .held then s else s.toggleBlink).commit := rfl

theorem exec_savePageWritten (s : State) : exec .savePageWritten s = .next s.pageWritten.commit := rfl

theorem exec_savePollTimeout (s : State) : exec .savePollTimeout s = .next s.saveFails.commit := rfl

theorem exec_saveByteRefused (s : State) : exec .saveByteRefused s = .next s.saveFails.commit := rfl

theorem exec_lengthByteRefused (len : Byte) (s : State) : exec (.lengthByteRefused len) s =
    .next (if s.link.receiver = .length ∧ lenRefused len then s.receiveByte len else s).commit := rfl

theorem exec_linkByteReceived (b : Byte) (s : State) : exec (.linkByteReceived b) s = .next (s.receiveByte b).commit := rfl

/-- A request command is the arrival of its frame (R167, R168). -/
theorem exec_request {c : Instr} {r : Request} (s : State) (h : requestOf c = some r) :
    exec c s = .next (s.arrive r).commit := by
  rw [exec_eq_effect, s.effect_of_request h]

end Sys2Proof.Machine
end


section
/-! SUPPORT. The stroke's conditions and its entries into STOPPED, STALLED and RUNNING (R94 to R99, R119), and the statements about the
stroke's timers, the starve timer and the pulses. -/

namespace Sys2Proof.Machine

/-! ## The two conditions of the stroke -/

theorem State.setStall_stroke (s : State) (b : Bool) : (s.setStall b).stroke = { s.stroke with stall := b } := by
  simp only [State.setStall]
  split
  · rename_i h; rw [← h]
  · simp

/-- A change of the stall condition is source 9's (R99); the other sources stand. -/
theorem State.setStall_source (s : State) (b : Bool) :
    (s.stroke.stall ≠ b → ((s.setStall b).trip.sources[9]).condition = b) ∧
    ∀ j : Fin 15, j ≠ 9 → (s.setStall b).trip.sources[j] = s.trip.sources[j] := by
  simp only [State.setStall]
  split
  · exact ⟨fun h => absurd ‹_› h, fun _ _ => rfl⟩
  · obtain ⟨hself, hother, -⟩ := State.setCondition_spec (s.setStroke { s.stroke with stall := b }) 9 b
    exact ⟨fun _ => hself, hother⟩

theorem State.setOverload_classifier (s : State) (b : Bool) :
    (s.setOverload b).classifier = { s.classifier with overload := b } := by
  simp only [State.setOverload]
  split
  · rename_i h; rw [← h]
  · simp

/-- A change of the overload condition is source 8's (R119); the other sources stand. -/
theorem State.setOverload_source (s : State) (b : Bool) :
    (s.classifier.overload ≠ b → ((s.setOverload b).trip.sources[8]).condition = b) ∧
    ∀ j : Fin 15, j ≠ 8 → (s.setOverload b).trip.sources[j] = s.trip.sources[j] := by
  simp only [State.setOverload]
  split
  · exact ⟨fun h => absurd ‹_› h, fun _ _ => rfl⟩
  · obtain ⟨hself, hother, -⟩ := State.setCondition_spec (s.setClassifier { s.classifier with overload := b }) 8 b
    exact ⟨fun _ => hself, hother⟩

/-! ## The failure of a tare (R110, R111) -/

/-- The tare owns the stroke and the engine is in a state whose end of a tare stops the stroke (R111). -/
def State.tareStops (s : State) : Bool :=
  match s.stroke.tare with
  | none => false
  | some t => t.owner && s.seq.engine.leavesStrokeToTare

/-- The stroke after the failure of a tare in flight: stopped where the tare owned it and the engine is at rest. -/
theorem State.failTare_stroke {s : State} (h : s.stroke.tareInFlight = true) : s.failTare.stroke =
    { (if s.tareStops then s.stopStroke else s).stroke with tareState := .failed, tare := none } := by
  simp only [State.failTare, h, if_true, State.endTare, State.noteTareDone_frame, State.setStroke_stroke, State.setStroke_seq]
  split
  · rename_i ht
    simp [State.tareStops, ht]
  · rename_i t ht
    simp only [State.tareStops, ht]
    cases hs : t.owner && s.seq.engine.leavesStrokeToTare
    · simp
    · cases hstate : s.stroke.state <;> simp [State.stopStroke, State.enterStopping, hstate]

theorem State.failTare_slow {s : State} (h : s.stroke.slow = 0) : s.failTare.stroke.slow = 0 := by
  cases ht : s.stroke.tareInFlight
  · rw [s.failTare_spec.1 ht, h]
  · rw [State.failTare_stroke ht]
    split
    · cases hstate : s.stroke.state <;> simp [State.stopStroke, State.enterStopping, hstate, h]
    · exact h

/-! ## The entries into STOPPED and STALLED -/

/-- Entry into STOPPED (R95): both conditions are false, and the sources 9 and 8 take it where they change. -/
theorem State.strokeStopped_spec (s : State) :
    s.strokeStopped.stroke = { s.stroke with state := .stopped, stopTimer := none, stall := false } ∧
    s.strokeStopped.classifier = { s.classifier with overload := false } ∧
    (s.stroke.stall = true → (s.strokeStopped.trip.sources[9]).condition = false) ∧
    (s.classifier.overload = true → (s.strokeStopped.trip.sources[8]).condition = false) := by
  have hstall := State.setStall_source (s.setStroke { s.stroke with state := .stopped, stopTimer := none }) false
  have hover := State.setOverload_source
    ((s.setStroke { s.stroke with state := .stopped, stopTimer := none }).setStall false) false
  have h98 : (9 : Fin 15) ≠ 8 := by decide
  refine ⟨?_, ?_, fun h => ?_, fun h => ?_⟩
  · simp [State.strokeStopped, State.setStall_stroke]
  · simp [State.strokeStopped, State.setOverload_classifier]
  · have hsame := hover.2 9 h98
    have hcond := hstall.1 (by simp [h])
    exact (congrArg Source.condition hsame).trans hcond
  · exact hover.1 (by simp [h])

/-- Entry into STALLED without a tare in flight (R94, R97). -/
theorem State.strokeStalls_spec {s : State} (htare : s.stroke.tareInFlight = false) :
    s.strokeStalls.stroke = { s.stroke with state := .stalled, startTimer := none, slow := 0, stall := true } ∧
    (s.stroke.stall = false → (s.strokeStalls.trip.sources[9]).condition = true) := by
  have hstall := State.setStall_source (s.setStroke { s.stroke with state := .stalled, startTimer := none, slow := 0 }) true
  have hfail : s.strokeStalls =
      (s.setStroke { s.stroke with state := .stalled, startTimer := none, slow := 0 }).setStall true :=
    (State.failTare_spec _).1 (by rw [State.setStall_stroke]; exact htare)
  rw [hfail]
  exact ⟨by rw [State.setStall_stroke]; rfl, fun h => hstall.1 (by simp [h])⟩

/-- Settles O32: the two entries, each into its state. -/
theorem strokeTimersExpire : Obligations.StrokeTimersExpire := by
  refine ⟨fun s hs htare hstall => ?_, fun s hs => ?_⟩
  · obtain ⟨hstroke, hsource⟩ := State.strokeStalls_spec htare
    refine ⟨s.strokeStalls, ?_, hstroke, hsource hstall, by simp, by simp, by simp⟩
    rw [exec_startTimerExpiry, if_pos hs]
  · obtain ⟨hstroke, hclass, h9, h8⟩ := s.strokeStopped_spec
    refine ⟨s.strokeStopped, ?_, hstroke, hclass, h9, h8, by simp, by simp, by simp⟩
    rw [exec_stopTimerExpiry, if_pos hs]

/-- Settles O31: the stop request of the timer's end, whose tare's failure leaves the rest of the stroke unit. -/
theorem starveExpiryStopsStroke : Obligations.StarveExpiryStopsStroke := by
  intro s n hs
  obtain ⟨hstops, hstands⟩ := State.strokeStop_spec (s.setStarve .expired)
  refine ⟨s.starveExpire, exec_starveTimerExpiry hs, ?_, by simp, fun h => ?_, fun h => ?_, ?_, by simp, by simp, by simp,
    by simp⟩
  · have hseq : s.starveExpire.seq = (s.setStarve .expired).seq := by simp [State.starveExpire]
    exact hseq
  · obtain ⟨hstate, hstart, hstop, hgood, hslow, -⟩ := hstops h
    exact ⟨hstate, hstop, hstart, hgood, hslow⟩
  · rw [State.starveExpire, hstands h]
    rfl
  · simp [State.starveExpire]

/-! ## Pulses -/

/-- Settles O33: a pulse outside a window and one short of its last. -/
theorem indexPulseOpensAndCounts : Obligations.IndexPulseOpensAndCounts := by
  intro s cycles hs
  refine ⟨fun hw => ?_, fun w hw hp hlast => ?_⟩
  · rw [exec_sidxPulse, if_neg hs, State.indexPulse, hw]
    rfl
  · have hno : ¬ overflowCount ≤ w.p + cycles := by rw [overflowCount]; omega
    have hshort : ¬ w.w ≤ w.pulses + 1 := by omega
    rw [exec_sidxPulse, if_neg hs]
    simp only [State.indexPulse, hw, if_neg hno, State.pulseInWindow, if_neg hshort]
    rfl

/-- Settles O36: a load pulse, and the overflow in each stroke state. -/
theorem loadPulseAndOverflow : Obligations.LoadPulseAndOverflow := by
  refine ⟨fun s w hs hw => ?_, fun s hw => ?_, fun s w hw => ?_⟩
  · rw [exec_lfqPulse, if_neg hs, State.loadPulse, hw]
    rfl
  · rw [exec_lfqPulse, State.loadPulse, hw, ite_self]
  · refine ⟨s.overflowWindow, by rw [exec_windowOverflow, if_pos (by simp [hw])], ?_, ?_, ?_, by simp,
      fun h => ?_, fun h => ?_, fun h => ?_⟩
    · simp only [State.overflowWindow]
      split <;> simp
    · simp only [State.overflowWindow]
      split <;> simp
    · simp only [State.overflowWindow]
      split <;> simp
    · simp [State.overflowWindow, h]
    · have hover : s.overflowWindow = (s.setStroke { s.stroke with fm := 0, window := none }).strokeStalls := by
        simp [State.overflowWindow, h]
      have hslow : s.overflowWindow.stroke.stall = true := by rw [hover]; simp [State.strokeStalls, State.setStall_stroke]
      refine ⟨?_, hslow, fun htare => ?_⟩
      · rw [hover]
        exact State.failTare_slow (by rw [State.setStall_stroke]; rfl)
      · rw [hover, (State.strokeStalls_spec (s := s.setStroke { s.stroke with fm := 0, window := none }) htare).1]
    · simp only [List.mem_cons, List.not_mem_nil, or_false] at h
      obtain h | h | h := h <;> simp [State.overflowWindow, h]

end Sys2Proof.Machine
end


section
/-! SUPPORT. The level changes taken by the sequencer and the bus master (R80 to R84, R154). -/

namespace Sys2Proof.Machine

/-! ## The record of a change of engine state (R87) -/

theorem State.enterEngine_engineState (s : State) (e : Engine) (c : Cause) (p : Option Interrupted) :
    (s.enterEngine e c p).notice.engineState = if s.seq.engine = e then s.notice.engineState
      else Pending.coalesce s.notice.engineState ⟨e, s.seq.engine, c, p⟩ := by
  obtain ⟨-, hsame, hnew⟩ := s.enterEngine_spec e c p
  split
  · rename_i h; rw [hsame h]
  · rename_i h; rw [hnew h]

theorem State.enterEngine_seq (s : State) (e : Engine) (c : Cause) (p : Option Interrupted) :
    (s.enterEngine e c p).seq = { s.seq with engine := e } := (s.enterEngine_spec e c p).1

/-! ## The stroke stop (R93) -/

/-- What a stroke stop leaves of the stroke: STOPPING with its timer, or what stood. -/
theorem State.strokeStop_asked (s : State) : s.StrokeStopAsked s.strokeStop := by
  obtain ⟨hstops, hstands⟩ := s.strokeStop_spec
  refine ⟨fun h => ?_, ?_⟩
  · obtain ⟨hstate, hstart, hstop, -⟩ := hstops h
    exact ⟨hstate, hstop, hstart⟩
  · cases h : s.stroke.state
    case stopped => rw [hstands (by simp [h]), h]; decide
    case stopping => rw [hstands (by simp [h]), h]; decide
    all_goals rw [(hstops (by simp [h])).1]; decide

theorem State.strokeStop_tareState {s : State} (h : s.stroke.tareInFlight = false) :
    s.strokeStop.stroke.tareState = s.stroke.tareState := by
  have hstop : s.stopStroke.stroke.tareState = s.stroke.tareState := by simp
  have hfail : s.stopStroke.failTare = s.stopStroke :=
    (State.failTare_spec _).1 (by rw [StrokeUnit.tareInFlight, hstop]; exact h)
  simp only [State.strokeStop, hfail]
  split <;> simp

/-- A tare in flight is one in WAITING or MEASURING (R107). -/
theorem StrokeUnit.tareInFlight_eq_false {u : StrokeUnit} :
    u.tareInFlight = false ↔ u.tareState ≠ .waiting ∧ u.tareState ≠ .measuring := by
  cases h : u.tareState <;> simp [StrokeUnit.tareInFlight, h]

/-! ## A rise to HALT (R81) -/

/-- The engine state that a rise to HALT leads to (R81). -/
def Engine.afterHalt : Engine → Engine
  | .running | .pivoting | .dwelling | .holding => .halting
  | .held | .starved => .halted
  | .halting => .halting
  | .halted => .halted
  | .cancelling => .cancelling
  | .idle => .idle
  | .aborted => .aborted

theorem State.haltEffect_seq (s : State) : s.haltEffect.seq = { s.seq with
    engine := s.seq.engine.afterHalt
    resume := match s.seq.engine with
      | .running | .pivoting => some .running
      | .dwelling => some .dwelling
      | .starved => some .starved
      | .holding | .held | .halting | .halted | .cancelling | .idle | .aborted => s.seq.resume
    starve := if s.seq.engine = .starved then .stopped else s.seq.starve } := by
  rcases hs : s.seq with ⟨engine, resume, dwell, starve, interrupted, changes⟩
  cases engine <;>
    simp [State.haltEffect, hs, State.enterEngine_seq, State.setResume, State.setStarve, Engine.memory, Engine.afterHalt]

theorem State.haltEffect_engineState (s : State) : s.haltEffect.notice.engineState =
    if s.seq.engine.afterHalt = s.seq.engine then s.notice.engineState
    else Pending.coalesce s.notice.engineState ⟨s.seq.engine.afterHalt, s.seq.engine, .trip, none⟩ := by
  cases he : s.seq.engine <;>
    simp [State.haltEffect, he, State.enterEngine_engineState, State.setResume, State.setStarve, Engine.afterHalt]

theorem State.haltEffect_stroke (s : State) :
    s.haltEffect.stroke = if s.seq.engine = .held ∨ s.seq.engine = .starved then s.strokeStop.stroke else s.stroke := by
  cases he : s.seq.engine <;> simp [State.haltEffect, he]

/-- Settles O27, by the table of R81 for the sequencer, the stroke stop and the failure of the tare. -/
theorem riseToHaltHaltsEngine : Obligations.RiseToHaltHaltsEngine := by
  intro s c rest hs hafter hbefore
  have hrise : c.risesTo .halt = true := by
    obtain ⟨before, after⟩ := c
    obtain rfl : after = .halt := hafter
    obtain rfl | rfl : before = .none ∨ before = .hold := hbefore <;> decide
  have htake : s.takeRiseHalt = (s.setSeq { s.seq with changes := rest }).haltEffect.failTare :=
    State.takeChange_front _ hs hrise
  generalize ht : s.setSeq { s.seq with changes := rest } = t at htake
  have hseq : t.seq = { s.seq with changes := rest } := by rw [← ht]; rfl
  have hrest : t.stroke = s.stroke ∧ t.notice = s.notice := by rw [← ht]; exact ⟨rfl, rfl⟩
  obtain ⟨hstroke, hnotice⟩ := hrest
  have useq : t.haltEffect.failTare.seq = t.haltEffect.seq := by simp
  have unotice : t.haltEffect.failTare.notice.engineState = t.haltEffect.notice.engineState := by simp
  have hflight := (State.failTare_spec t.haltEffect).2.2.1
  refine ⟨t.haltEffect.failTare, by rw [exec_levelRiseHalt, htake], ?_⟩
  rw [useq, unotice, t.haltEffect_seq, t.haltEffect_engineState, hseq, hnotice]
  refine ⟨rfl, rfl, rfl, rfl, fun he => ?_, StrokeUnit.tareInFlight_eq_false.1 hflight, fun htare => ?_, fun he => if_pos he,
    fun he => if_neg he, by simp [← ht], by simp [← ht], by simp [← ht], by simp [← ht], by simp [← ht], by simp [← ht],
    by simp [← ht], by simp [← ht]⟩
  · have hstops : t.haltEffect.stroke = t.strokeStop.stroke := by rw [t.haltEffect_stroke, hseq, if_pos he]
    have hstopped := t.strokeStop_asked.2
    rw [← hstops] at hstopped
    rw [((State.failTare_spec _).2.2.2 hstopped).1]
    simpa using hstopped
  · have htare : t.stroke.tareInFlight = false := by rw [hstroke]; exact htare
    have hsame : t.haltEffect.stroke.tareState = s.stroke.tareState := by
      rw [t.haltEffect_stroke, ← hstroke]
      split
      · exact State.strokeStop_tareState htare
      · rfl
    rw [(State.failTare_spec _).1 (by rw [StrokeUnit.tareInFlight_eq_false, hsame, ← hstroke]; exact StrokeUnit.tareInFlight_eq_false.1 htare), hsame]

/-! ## A rise to QUICK_STOP (R82) -/

/-- A quick stop: what it leaves of each block (R21, R82, R83). -/
theorem State.quickStop_spec (s : State) :
    s.quickStop.seq = { s.seq with engine := .aborted, resume := none, starve := .stopped, dwellCount := 0
                                   interrupted := some s.report } ∧
    s.quickStop.interp = ⟨s.interp.x, s.interp.y, s.interp.heading, 0, 0, none, false⟩ ∧
    s.quickStop.queue = ⟨[], ⟨s.interp.x, s.interp.y, s.interp.heading, s.queue.tail.feed⟩⟩ ∧
    s.quickStop.stroke.state ∈ [StrokeState.stopping, .stopped] ∧
    (s.seq.engine ≠ .aborted → s.quickStop.notice.engineState =
      Pending.coalesce s.notice.engineState ⟨.aborted, s.seq.engine, .trip, some s.report⟩) := by
  have hreport : (s.setInterp { s.interp with feed := 0, turn := none }).report = s.report := rfl
  simp only [State.quickStop, hreport]
  generalize hf : ((s.setInterp { s.interp with feed := 0, turn := none }).setSeq
    { (s.setInterp { s.interp with feed := 0, turn := none }).seq with interrupted := some s.report }).flush = f
  have hfseq : f.seq = { s.seq with interrupted := some s.report } := by rw [← hf]; rfl
  have hfinterp : f.interp = ⟨s.interp.x, s.interp.y, s.interp.heading, 0, 0, none, false⟩ := by rw [← hf]; rfl
  have hfqueue : f.queue = ⟨[], ⟨s.interp.x, s.interp.y, s.interp.heading, s.queue.tail.feed⟩⟩ := by rw [← hf]; rfl
  have hfnotice : f.notice = s.notice := by rw [← hf]; rfl
  have hstop := f.strokeStop_asked.2
  refine ⟨by simp [State.enterEngine_seq, hfseq], by simp [hfinterp], by simp [hfqueue], by simpa using hstop, fun he => ?_⟩
  simp [State.enterEngine_engineState, hfseq, hfnotice, he]

/-- Settles O28: the quick stop, and the failure of a tare behind it. -/
theorem riseToQuickStopAborts : Obligations.RiseToQuickStopAborts := by
  intro s c rest hs hafter hbefore habort
  have hrise : c.risesTo .quickStop = true := by
    obtain ⟨before, after⟩ := c
    obtain rfl : after = .quickStop := hafter
    cases before <;> first | exact absurd rfl hbefore | decide
  have htake : s.takeRiseQuickStop = (s.setSeq { s.seq with changes := rest }).quickStopEffect.failTare :=
    State.takeChange_front _ hs hrise
  have heffect : (s.setSeq { s.seq with changes := rest }).quickStopEffect = (s.setSeq { s.seq with changes := rest }).quickStop :=
    if_neg habort
  rw [heffect] at htake
  have hreport : (s.setSeq { s.seq with changes := rest }).report = s.report := rfl
  obtain ⟨hseq, hinterp, hqueue, hstroke, hnotice⟩ := State.quickStop_spec (s.setSeq { s.seq with changes := rest })
  rw [hreport] at hseq hnotice
  have hkept : (s.setSeq { s.seq with changes := rest }).quickStop.notice.segmentDone = s.notice.segmentDone ∧
      (s.setSeq { s.seq with changes := rest }).quickStop.notice.queueLow = s.notice.queueLow ∧
      (s.setSeq { s.seq with changes := rest }).quickStop.trip = s.trip ∧
      (s.setSeq { s.seq with changes := rest }).quickStop.bus = s.bus ∧
      (s.setSeq { s.seq with changes := rest }).quickStop.classifier = s.classifier ∧
      (s.setSeq { s.seq with changes := rest }).quickStop.settings = s.settings ∧
      (s.setSeq { s.seq with changes := rest }).quickStop.override = s.override ∧
      (s.setSeq { s.seq with changes := rest }).quickStop.link = s.link := by simp
  generalize (s.setSeq { s.seq with changes := rest }).quickStop = q at *
  obtain ⟨hdone, hlow, htrip, hbus, hclass, hsettings, hoverride, hlink⟩ := hkept
  have useq : q.failTare.seq = q.seq := by simp
  have uengine : q.failTare.notice.engineState = q.notice.engineState := by simp
  have uinterp : q.failTare.interp = q.interp := by simp
  have uqueue : q.failTare.queue = q.queue := by simp
  refine ⟨q.failTare, by rw [exec_levelRiseQuickStop, htake], ?_⟩
  rw [useq, uengine, uinterp, uqueue, hseq]
  refine ⟨rfl, rfl, rfl, rfl, rfl, rfl, hnotice habort, hinterp, hqueue, ?_, StrokeUnit.tareInFlight_eq_false.1
    (State.failTare_spec q).2.2.1, by simp [hdone], by simp [hlow], by simp [htrip], by simp [hbus], by simp [hclass],
    by simp [hsettings], by simp [hoverride], by simp [hlink]⟩
  rw [((State.failTare_spec q).2.2.2 hstroke).1]
  simpa using hstroke

/-! ## The hand-off and the taking of changes (R154, R84) -/

/-- Settles O29: a condition's recomputation hands a changed level on behind the others; a fall and the master's taking. -/
theorem levelChangesAreHandedOnAndTaken : Obligations.LevelChangesAreHandedOnAndTaken := by
  refine ⟨fun s i b => ?_, fun s c rest hs hfall => ?_, fun s c rest hs => ?_⟩
  · obtain ⟨-, -, -, -, ⟨hseq, hbus⟩, -⟩ := s.setCondition_taken i b
    refine ⟨fun h => ?_, fun h => ?_⟩
    · rw [hseq, hbus, if_pos h]
      simp
    · rw [hseq, hbus, if_neg h]
      exact ⟨rfl, rfl⟩
  · have htake : s.takeFall = s.setSeq { s.seq with changes := rest } :=
      State.takeChange_front _ hs (by simpa [LevelChange.falls] using hfall)
    rw [exec_levelFall, htake]
    rfl
  · rw [exec_busLevelChange, State.takeBusLevel, hs]
    rfl

end Sys2Proof.Machine
end


section
/-! SUPPORT. The completion of the head record (R19, R20, R65) and the dispatch on what follows (R70, R71, R85). -/

namespace Sys2Proof.Machine

/-! ## The head completed -/

/-- QUEUE_LOW at the completion that leaves `rest` (R20): set when the count falls to the mark. -/
theorem State.completeHead_queueLow {s : State} {r : Record} {rest : List Record} (h : s.queue.records = r :: rest) :
    s.completeHead.notice.queueLow = s.queueLowAfter rest.length := by
  have hmark : s.params.queueLowMark < rest.length + 1 ∧ rest.length ≤ s.params.queueLowMark ↔
      rest.length = s.settings.params.queueLowMark := by rw [State.params_settings]; omega
  simp only [State.completeHead, h, hmark, State.queueLowAfter]
  repeat' split
  all_goals simp [State.noteQueueLow, State.noteSegmentDone, CutQueue.credit]

/-! ## What a dispatch leads to -/

/-- A request relation of the stroke stop or of STARVED depends on few fields of its two states. -/
theorem State.StrokeStopAsked.congr {s t u v : State} (h : s.StrokeStopAsked u) (hs : t.stroke.state = s.stroke.state)
    (hp : t.settings.params = s.settings.params) (hu : v.stroke.state = u.stroke.state)
    (hstop : v.stroke.stopTimer = u.stroke.stopTimer) (hstart : v.stroke.startTimer = u.stroke.startTimer) :
    t.StrokeStopAsked v := by
  simpa only [State.StrokeStopAsked, hs, hp, hu, hstop, hstart] using h

theorem State.Starves.congr {s t u v : State} (h : s.Starves u) (he : t.seq.engine = s.seq.engine)
    (hn : t.notice.engineState = s.notice.engineState) (hs : t.stroke.state = s.stroke.state)
    (hp : t.settings.params = s.settings.params) (hue : v.seq.engine = u.seq.engine) (hut : v.seq.starve = u.seq.starve)
    (hun : v.notice.engineState = u.notice.engineState) (hu : v.stroke.state = u.stroke.state)
    (hstop : v.stroke.stopTimer = u.stroke.stopTimer) (hstart : v.stroke.startTimer = u.stroke.startTimer) : t.Starves v := by
  simpa only [State.Starves, State.StrokeStopAsked, he, hn, hs, hp, hue, hut, hun, hu, hstop, hstart] using h

/-- The entry into STARVED from another state (R85, R87). -/
theorem State.enterStarved_starves {s : State} (h : s.seq.engine ≠ .starved) : s.Starves s.enterStarved := by
  obtain ⟨hengine, hrun, hexpire, hnotice⟩ := s.enterStarved_spec
  refine ⟨hengine, by rw [hnotice, if_neg h], fun hp => (hrun hp).1, fun hz => ⟨(hexpire hz).1, ?_⟩⟩
  have hstop : s.enterStarved = ((s.enterEngine .starved .starve none).setStarve .expired).strokeStop := by
    rw [State.enterStarved, State.params_settings, if_pos hz]
  rw [hstop]
  exact (State.strokeStop_asked _).congr (by simp) (by simp) rfl rfl rfl

/-- The entry into a program state from one where the stroke start is not requested (R72): the change of state alone. -/
theorem State.enterProgram_of_runs {s : State} (h : s.seq.engine.runsProgram = true) (e : Engine) (c : Cause) :
    s.enterProgram e c = s.enterEngine e c none := by
  rw [State.enterProgram, if_pos h]

/-- A moving record turns at its start where its junction is PIVOT (R13, R49). -/
theorem Record.turns_of_body {r : Record} {m : Moving} (h : r.body = .moving m) : r.turns = decide (m.junction = .pivot) := by
  cases hj : m.junction <;> simp [Record.turns, h, hj]

/-- The dispatch with cause END from RUNNING or DWELLING (R70): what each kind of head leads to. -/
structure State.Dispatches (s u : State) : Prop where
  tail : u.queue.tail = s.queue.tail
  pose : u.interp.x = s.interp.x ∧ u.interp.y = s.interp.y ∧ u.interp.heading = s.interp.heading
  progress : s.interp.progress = 0 → u.interp.progress = 0
  dwell : s.seq.dwellCount = 0 → u.seq.dwellCount = 0
  empty : s.queue.records = [] → s.Starves u
  blends : ∀ (n : Record) (rest : List Record) (m : Moving), s.queue.records = n :: rest → n.body = .moving m →
    s.interp.turnPending = false → u.seq.engine = .running ∧ u.interp = s.interp
  pivots : ∀ (n : Record) (rest : List Record) (m : Moving), s.queue.records = n :: rest → n.body = .moving m →
    s.interp.turnPending = true → u.seq.engine = .pivoting ∧
      u.interp = { s.interp with feed := 0, turn := some ⟨decide (0 < m.turn), m.turn.natAbs⟩ }
  dwells : ∀ (n : Record) (rest : List Record) (d : Nat), s.queue.records = n :: rest → n.body = .dwell d →
    u.seq.engine = .dwelling ∧ u.seq.dwellCount = 0
  ends : ∀ (n : Record) (rest : List Record), s.queue.records = n :: rest → n.body = .programEnd →
    u.queue.records = rest ∧ u.seq.engine = .idle ∧ u.seq.resume = none ∧ s.StrokeStopAsked u
  same : s.seq.engine = u.seq.engine → u.notice.engineState = s.notice.engineState
  noted : u.seq.engine ≠ .starved → s.seq.engine ≠ u.seq.engine →
    u.notice.engineState = Pending.coalesce s.notice.engineState ⟨u.seq.engine, s.seq.engine, .ending, none⟩
  others : (∀ n ∈ s.queue.records.head?, n.body ≠ .programEnd) → u.queue = s.queue ∧
    u.notice.segmentDone = s.notice.segmentDone ∧ u.notice.queueLow = s.notice.queueLow

/-- The record of a change of state with cause END, or none where the engine enters the state it is in (R87). -/
theorem State.enterEngine_reports {s t : State} (e : Engine) (he : t.seq.engine = s.seq.engine)
    (hn : t.notice.engineState = s.notice.engineState) :
    (s.seq.engine = (t.enterEngine e .ending none).seq.engine →
      (t.enterEngine e .ending none).notice.engineState = s.notice.engineState) ∧
    (s.seq.engine ≠ (t.enterEngine e .ending none).seq.engine → (t.enterEngine e .ending none).notice.engineState =
      Pending.coalesce s.notice.engineState ⟨(t.enterEngine e .ending none).seq.engine, s.seq.engine, .ending, none⟩) := by
  simp only [State.enterEngine_engine, State.enterEngine_engineState, he, hn]
  exact ⟨fun h => if_pos h, fun h => if_neg h⟩

theorem State.dispatch_dispatches {s : State} (he : s.seq.engine = .running ∨ s.seq.engine = .dwelling) :
    s.Dispatches (s.dispatch .ending false) := by
  have hruns : s.seq.engine.runsProgram = true := by obtain he | he := he <;> rw [he] <;> rfl
  have hidle : s.seq.engine ≠ .idle := by obtain he | he := he <;> rw [he] <;> decide
  have hstarved : s.seq.engine ≠ .starved := by obtain he | he := he <;> rw [he] <;> decide
  cases hq : s.queue.records with
  | nil =>
    rw [s.dispatch_starved _ _ hq]
    have hstarves := State.enterStarved_starves hstarved
    have hengine := hstarves.1
    constructor <;> intros <;> simp_all
  | cons n rest =>
    cases hb : n.body with
    | moving m =>
      cases hp : s.interp.turnPending
      · rw [s.dispatch_running _ _ n rest m hq hb hp, State.enterProgram_of_runs hruns]
        have hreport := State.enterEngine_reports (s := s) (t := s) .running rfl rfl
        constructor
        case same => exact hreport.1
        case noted => exact fun _ => hreport.2
        all_goals clear hreport; intros; simp_all
      · rw [s.dispatch_pivoting _ _ n rest m hq hb hp, State.enterProgram_of_runs]
        case h => exact hruns
        have hreport := State.enterEngine_reports (s := s) (t := s.setInterp { s.interp with
          feed := 0, turn := some ⟨decide (0 < m.turn), m.turn.natAbs⟩ }) .pivoting rfl rfl
        constructor
        case same => exact hreport.1
        case noted => exact fun _ => hreport.2
        all_goals clear hreport; intros; simp_all
    | dwell d =>
      rw [s.dispatch_dwelling _ _ n rest d hq hb, if_neg Bool.false_ne_true, State.enterProgram_of_runs]
      case h => exact hruns
      have hreport := State.enterEngine_reports (s := s) (t := s.setSeq { s.seq with dwellCount := 0 }) .dwelling rfl rfl
      constructor
      case same => exact hreport.1
      case noted => exact fun _ => hreport.2
      all_goals clear hreport; intros; simp_all
    | programEnd =>
      rw [s.dispatch_end _ _ n rest hq hb, if_neg hidle]
      have hstop : s.StrokeStopAsked s.completeHead.strokeStop :=
        s.completeHead.strokeStop_asked.congr (by simp) (by simp) rfl rfl rfl
      have hstop : s.StrokeStopAsked ((s.completeHead.strokeStop.setResume none).enterEngine .idle .ending none) :=
        hstop.congr rfl rfl (by simp) (by simp) (by simp)
      have hrecords := s.completeHead_records
      have hinterp := (s.completeHead_spec n rest hq).2.1
      have hreport := State.enterEngine_reports (s := s) (t := s.completeHead.strokeStop.setResume none) .idle (by simp)
        (by simp)
      constructor
      case same => exact hreport.1
      case noted => exact fun _ => hreport.2
      all_goals clear hreport; intros; simp_all [State.enterEngine_seq, State.setResume]

/-- The END of a record's travel or of a dwell: the head completes and the sequencer dispatches on the records left. -/
theorem State.dwellExpire_completes {s : State} {r : Record} {rest : List Record} (he : s.seq.engine = .dwelling)
    (hq : s.queue.records = r :: rest) : s.DwellCompletes s.dwellExpire r rest := by
  obtain ⟨hqueue, hinterp, hdone⟩ := s.completeHead_spec r rest hq
  have hlow := State.completeHead_queueLow hq
  have hengine : (s.completeHead.setDwell 0).seq.engine = .dwelling := by simpa using he
  have hnotice : s.completeHead.notice.engineState = s.notice.engineState := by simp
  have hd : (s.completeHead.setDwell 0).Dispatches s.dwellExpire := State.dispatch_dispatches (.inr hengine)
  generalize ht : s.completeHead.setDwell 0 = t at *
  have hrecords : t.queue.records = rest := by rw [← ht]; exact congrArg CutQueue.records hqueue
  have hprogress : t.interp.progress = 0 := by rw [← ht]; exact congrArg Interpolator.progress hinterp
  have hpending : t.interp.turnPending = (rest.head?.map Record.turns).getD false := by
    rw [← ht]; exact congrArg Interpolator.turnPending hinterp
  have hkept : t.queue.tail = s.queue.tail ∧ t.interp.x = s.interp.x ∧ t.interp.y = s.interp.y ∧
      t.interp.heading = s.interp.heading ∧ t.interp.feed = s.interp.feed ∧ t.notice.engineState = s.notice.engineState ∧
      t.settings.params = s.settings.params ∧ t.stroke.state = s.stroke.state := by
    rw [← ht]; simp
  obtain ⟨htail, htx, hty, hth, hfeed, hnotice, hparams, hstroke⟩ := hkept
  have hsources : t.notice.segmentDone = s.segmentDoneAfter r ∧ t.notice.queueLow = s.queueLowAfter rest.length := by
    rw [← ht]; exact ⟨hdone, hlow⟩
  have hcons : ∀ n, rest.head? = some n → t.queue.records = n :: rest.tail := fun n hn => by
    rw [hrecords]; exact List.eq_cons_of_mem_head? hn
  have hturns : ∀ (n : Record) (m : Moving), rest.head? = some n → n.body = .moving m →
      t.interp.turnPending = decide (m.junction = .pivot) := fun n m hn hb => by
    rw [hpending, hn, ← Record.turns_of_body hb]; rfl
  obtain ⟨hx, hy, hh⟩ := hd.pose
  refine ⟨hd.dwell (by rw [← ht]; rfl), fun hne => ?_, hd.tail.trans htail, hx.trans htx, hy.trans hty, hh.trans hth,
    fun n m hn hb hj => ?_, fun n m hn hb hj => ?_, fun n d hn hb => ?_, fun n rest' hn hb => ?_, fun hn => ?_⟩
  · obtain ⟨hqueue', hdone', hlow'⟩ := hd.others (by rw [hrecords]; exact hne)
    exact ⟨by rw [hqueue', hrecords], by rw [hdone', hsources.1], by rw [hlow', hsources.2]⟩
  · have hmade : t.interp.turnPending = false := by rw [hturns n m hn hb, hj]; rfl
    obtain ⟨hrun, hinterp'⟩ := hd.blends n _ m (hcons n hn) hb hmade
    refine ⟨hrun, by rw [hinterp', hprogress], by rw [hinterp', hmade], by rw [hinterp', hfeed], ?_⟩
    rw [hd.noted (by rw [hrun]; decide) (by rw [hengine, hrun]; decide), hnotice, hengine, hrun]
  · have hpend : t.interp.turnPending = true := by rw [hturns n m hn hb, hj]; rfl
    obtain ⟨hpivot, hinterp'⟩ := hd.pivots n _ m (hcons n hn) hb hpend
    refine ⟨hpivot, by rw [hinterp'], by rw [hinterp']; exact hpend, by rw [hinterp'], ?_⟩
    rw [hd.noted (by rw [hpivot]; decide) (by rw [hengine, hpivot]; decide), hnotice, hengine, hpivot]
  · obtain ⟨hdwell, -⟩ := hd.dwells n _ d (hcons n hn) hb
    exact ⟨hdwell, by rw [hd.same (by rw [hengine, hdwell]), hnotice]⟩
  · obtain ⟨hleft, hidle, hresume, hstop⟩ := hd.ends n rest' (by rw [hrecords, hn]) hb
    refine ⟨hidle, hresume, hleft, ?_, hstop.congr hstroke.symm hparams.symm rfl rfl rfl⟩
    rw [hd.noted (by rw [hidle]; decide) (by rw [hengine, hidle]; decide), hnotice, hengine, hidle]
  · exact (hd.empty (by rw [hrecords, hn])).congr (he.trans hengine.symm) hnotice.symm hstroke.symm hparams.symm rfl rfl rfl rfl
      rfl rfl

/-- Settles O30: the expiry of a dwell, whatever the count stood at. -/
theorem dwellExpiryDispatches : Obligations.DwellExpiryDispatches := by
  intro s r d rest he hq hb
  have hhead : s.headDwell = some d := by simp only [State.headDwell, hq, hb]
  have heffect : s.effect .dwellExpiry = (s.setDwell d).dwellExpire := by
    have h : s.effect .dwellExpiry = if s.seq.engine = .dwelling then
        match s.headDwell with
        | none => s
        | some n => (s.setDwell n).dwellExpire
      else s := rfl
    rw [h, if_pos he, hhead]
  refine ⟨(s.setDwell d).dwellExpire, by rw [exec_dwellExpiry, heffect], ?_⟩
  exact State.dwellExpire_completes (s := s.setDwell d) he hq

end Sys2Proof.Machine
end


section
/-! SUPPORT. A valid return in its stages (R131, R132, R134 to R138). -/

namespace Sys2Proof.Machine

/-! ## The slots through the stages -/

theorem State.setFaultSet_get (s : State) (m : BitVec 4) (j : Slot) : (s.setFaultSet m).bus.get j = s.bus.get j := by
  cases j <;> simp [Bus.get]

theorem State.setFault_get_self (s : State) (k : Slot) (b : Bool) :
    (s.setFault k b).bus.get k = { s.bus.get k with fault := b } := by
  by_cases h : (s.bus.get k).fault = b
  · rw [State.setFault, if_pos h, ← h]
  · simp only [State.setFault, if_neg h, State.setFaultSet_get, State.putSlot_get_self]

theorem State.setFault_get_other (s : State) {k j : Slot} (b : Bool) (h : j ≠ k) :
    (s.setFault k b).bus.get j = s.bus.get j := by
  simp only [State.setFault]
  split
  · rfl
  · rw [State.setFaultSet_get, State.putSlot_get_other _ _ h]

/-- The set of faulted slots depends on the activity and the fault flag of each slot (R135). -/
theorem Bus.faultSlots_congr {b c : Bus} (h : ∀ j, (b.get j).active = (c.get j).active ∧ (b.get j).fault = (c.get j).fault) :
    b.faultSlots = c.faultSlots := by
  obtain ⟨hxa, hxl⟩ := h .x
  obtain ⟨hya, hyl⟩ := h .y
  obtain ⟨hha, hhl⟩ := h .h
  obtain ⟨hsa, hsl⟩ := h .s
  simp only [Bus.get] at *
  simp only [Bus.faultSlots, *]

theorem State.adoptValue_get (s : State) (k : Slot) (a : Int) (j : Slot) : (s.adoptValue k a).bus.get j = s.bus.get j := by
  cases j <;> simp [Bus.get]

/-- Adoption touches one flag of its own slot (R138). -/
theorem State.adoptStage_get_self (s : State) (k : Slot) (ready : Bool) (a : Int) :
    ∃ b, (s.adoptStage k ready a).bus.get k = { s.bus.get k with adopted := b } := by
  simp only [State.adoptStage]
  split
  · exact ⟨true, by rw [State.putSlot_get_self, State.adoptValue_get]⟩
  · exact ⟨_, rfl⟩

theorem State.adoptStage_get_other (s : State) {k j : Slot} (ready : Bool) (a : Int) (h : j ≠ k) :
    (s.adoptStage k ready a).bus.get j = s.bus.get j := by
  simp only [State.adoptStage]
  split
  · rw [State.putSlot_get_other _ _ h, State.adoptValue_get]
  · rfl

/-- The following flag set on an axis (R137). -/
theorem State.setFollowing_following {s : State} {k : Slot} (b : Bool) (h : k ≠ .s) :
    ((s.setFollowing k b).bus.get k).following = b := by
  have hput : ∀ i, ((State.setCondition (s.putSlot k { s.bus.get k with following := b }) i b).bus.get k).following = b :=
    fun i => by rw [State.setCondition_get, State.putSlot_get_self]
  obtain ⟨i, hi⟩ : ∃ i, k.followSource = some i := by cases k <;> first | exact ⟨_, rfl⟩ | exact absurd rfl h
  simp only [State.setFollowing, hi]
  split
  · assumption
  · exact hput i

theorem State.followStage_get_self (s : State) (k : Slot) (b : Bool) (a : Int) :
    ∃ f, (s.followStage k b a).bus.get k = { s.bus.get k with following := f } := by
  simp only [State.followStage]
  split
  · exact ⟨_, rfl⟩
  · split
    · exact State.setFollowing_get_self _ _ _
    · exact ⟨_, rfl⟩

theorem State.followStage_get_other (s : State) {k j : Slot} (b : Bool) (a : Int) (h : j ≠ k) :
    (s.followStage k b a).bus.get j = s.bus.get j := by
  simp only [State.followStage]
  split
  · rfl
  · split
    · exact State.setFollowing_get_other _ _ h
    · rfl

theorem State.restStage_get (s : State) (k : Slot) (b : Bool) (j : Slot) : (s.restStage k b).bus.get j = s.bus.get j := by
  cases j <;> simp [Bus.get]

/-! ## The stages -/

/-- Stages 1 of a valid return (R132, R133): the misses at 0 and the lost flag false. -/
def State.returnCleared (s : State) (k : Slot) : State := (s.putSlot k { s.bus.get k with misses := 0 }).setLost k false

/-- Stages 2 and 3 of a valid return (R132, R135): the actual kept, and the fault flag. -/
def State.returnStored (s : State) (k : Slot) (status : Byte) (a : Int) : State :=
  (s.putSlot k { s.bus.get k with actual := some a }).setFault k (returnFault status)

/-- Stages 4 and 5 of a valid return (R136, R138): adoption and the following check. -/
def State.returnJudged (s : State) (k : Slot) (adopted : Bool) (status : Byte) (a : Int) : State :=
  (s.adoptStage k (returnReady status) a).followStage k adopted a

theorem State.validReturn_eq (s : State) (k : Slot) (status : Byte) (a : Int) : s.validReturn k status a =
    (((s.returnCleared k).returnStored k status a).returnJudged k (s.bus.get k).adopted status a).restStage k
      (returnAtRest status) := rfl

theorem State.returnCleared_get_self (s : State) (k : Slot) :
    (s.returnCleared k).bus.get k = { s.bus.get k with misses := 0, lost := false } := by
  rw [State.returnCleared, State.setLost_get_self, State.putSlot_get_self]

theorem State.returnStored_get_self (s : State) (k : Slot) (status : Byte) (a : Int) :
    (s.returnStored k status a).bus.get k = { s.bus.get k with actual := some a, fault := returnFault status } := by
  rw [State.returnStored, State.setFault_get_self, State.putSlot_get_self]

theorem State.returnStored_get_other (s : State) {k j : Slot} (status : Byte) (a : Int) (h : j ≠ k) :
    (s.returnStored k status a).bus.get j = s.bus.get j := by
  rw [State.returnStored, State.setFault_get_other _ _ h, State.putSlot_get_other _ _ h]

theorem State.returnJudged_get_self (s : State) (k : Slot) (b : Bool) (status : Byte) (a : Int) :
    ∃ d f, (s.returnJudged k b status a).bus.get k = { s.bus.get k with adopted := d, following := f } := by
  obtain ⟨d, hd⟩ := s.adoptStage_get_self k (returnReady status) a
  obtain ⟨f, hf⟩ := (s.adoptStage k (returnReady status) a).followStage_get_self k b a
  exact ⟨d, f, by rw [State.returnJudged, hf, hd]⟩

theorem State.returnJudged_get_other (s : State) {k j : Slot} (b : Bool) (status : Byte) (a : Int) (h : j ≠ k) :
    (s.returnJudged k b status a).bus.get j = s.bus.get j := by
  rw [State.returnJudged, State.followStage_get_other _ _ _ h, State.adoptStage_get_other _ _ _ h]

theorem State.adoptStage_tripStands (s : State) (k : Slot) (ready : Bool) (a : Int) : s.TripStands (s.adoptStage k ready a) := by
  simp [State.TripStands]

theorem State.TripStands.trans {s u v : State} (h : s.TripStands u) (k : u.TripStands v) : s.TripStands v := by
  obtain ⟨h1, h2, h3, h4⟩ := h
  obtain ⟨k1, k2, k3, k4⟩ := k
  exact ⟨k1.trans h1, k2.trans h2, k3.trans h3, k4.trans h4⟩

/-- The lost flag that falls is handed on with the set as it then stands (R134). -/
theorem State.returnCleared_taken (s : State) (k : Slot) :
    s.SlotSetTaken (s.returnCleared k) 14 ((s.bus.get k).lost = true) (s.returnCleared k).bus.lostSlots := by
  have htaken := State.setLost_taken (s.putSlot k { s.bus.get k with misses := 0 }) k false
  rw [State.putSlot_get_self, ne_eq, Bool.not_eq_false] at htaken
  exact State.slotSetTaken_of_stands (s.putSlot_tripStands k _) htaken

/-- A changed fault flag is handed on with the set as it then stands (R135). -/
theorem State.returnStored_taken (s : State) (k : Slot) (status : Byte) (a : Int) :
    s.SlotSetTaken (s.returnStored k status a) 13 ((s.bus.get k).fault ≠ returnFault status)
      (s.returnStored k status a).bus.faultSlots := by
  have htaken := State.setFault_taken (s.putSlot k { s.bus.get k with actual := some a }) k (returnFault status)
  rw [State.putSlot_get_self] at htaken
  exact State.slotSetTaken_of_stands (s.putSlot_tripStands k _) htaken

/-- The sets of lost and faulted slots after the later stages of a return. -/
theorem State.restJudged_sets (s : State) (k : Slot) (b : Bool) (status : Byte) (a : Int) (r : Bool) :
    ((s.returnJudged k b status a).restStage k r).bus.lostSlots = s.bus.lostSlots ∧
    ((s.returnJudged k b status a).restStage k r).bus.faultSlots = s.bus.faultSlots := by
  have hslot : ∀ j, ∃ d f, ((s.returnJudged k b status a).restStage k r).bus.get j =
      { s.bus.get j with adopted := d, following := f } := fun j => by
    rw [State.restStage_get]
    by_cases h : j = k
    · subst h; exact s.returnJudged_get_self j b status a
    · exact ⟨_, _, s.returnJudged_get_other b status a h⟩
  refine ⟨Bus.lostSlots_congr fun j => ?_, Bus.faultSlots_congr fun j => ?_⟩ <;>
    (obtain ⟨d, f, h⟩ := hslot j; rw [h]; exact ⟨rfl, rfl⟩)

theorem State.returnStored_lostSlots (s : State) (k : Slot) (status : Byte) (a : Int) :
    (s.returnStored k status a).bus.lostSlots = s.bus.lostSlots := by
  refine Bus.lostSlots_congr fun j => ?_
  by_cases h : j = k
  · rw [h, s.returnStored_get_self]; exact ⟨rfl, rfl⟩
  · rw [s.returnStored_get_other _ _ h]; exact ⟨rfl, rfl⟩

/-- A valid return taken in its slot's open window (R131, R132). -/
theorem State.takeReturn_of_valid {s : State} {k : Slot} {status : Byte} {actual : Word} {crc : Byte}
    (h : s.bus.window = some ⟨k, false⟩) (hcrc : crc8 (status :: beWord actual) = crc)
    (hrange : (k = .x ∨ k = .y) → -8000000 ≤ actual.toInt ∧ actual.toInt ≤ 8000000) :
    s.takeReturn status actual crc =
      (s.setBus { s.bus with window := some ⟨k, true⟩ }).validReturn k status (returnActual k actual) := by
  have htest : (returnCrcGood status actual crc && actualInRange k actual) = true := by
    cases k <;> simp_all [returnCrcGood, actualInRange]
  simp only [State.takeReturn, h, htest, if_true]
  rfl

/-! ## The statements about a return -/

theorem State.setWindow_tripStands (s : State) (w : Option ReturnWindow) :
    s.TripStands (s.setBus { s.bus with window := w }) := ⟨rfl, rfl, rfl, rfl⟩

/-- What a valid return leaves of its own slot (R131, R132). -/
theorem State.validReturn_get_self (s : State) (k : Slot) (status : Byte) (a : Int) :
    ∃ d f, (s.validReturn k status a).bus.get k = { s.bus.get k with
      misses := 0, lost := false, actual := some a, fault := returnFault status, adopted := d, following := f } := by
  obtain ⟨d, f, h⟩ := ((s.returnCleared k).returnStored k status a).returnJudged_get_self k (s.bus.get k).adopted status a
  exact ⟨d, f, by rw [s.validReturn_eq, State.restStage_get, h, State.returnStored_get_self, State.returnCleared_get_self]⟩

/-- Without a following check the later stages judge nothing (R136). -/
theorem State.followStage_unchecked {s : State} {k : Slot} {b : Bool} (a : Int)
    (h : k ≠ .s → b = false ∨ (s.bus.get k).sentBefore = none ∨ (∃ v, (s.bus.get k).sentBefore = some ⟨v, false⟩) ∨
      s.bus.level = .quickStop) : s.followStage k b a = s := by
  simp only [State.followStage]
  split
  · rfl
  · rename_i sent hsent
    refine if_neg fun hcheck => ?_
    simp only [Bool.and_eq_true, Bool.not_eq_true', Bus.quickStopFlag, beq_eq_false_iff_ne, ne_eq] at hcheck
    obtain ⟨⟨⟨haxis, hb⟩, henable⟩, hlevel⟩ := hcheck
    obtain hno | hno | ⟨v, hno⟩ | hno := h (by rintro rfl; cases haxis)
    · simp [hno] at hb
    · simp [hsent] at hno
    · rw [hsent, Option.some.injEq] at hno
      simp [hno] at henable
    · exact hlevel hno

/-- Settles O23, stage by stage of a valid return; the others are discarded. -/
theorem validReturnIsTaken : Obligations.ValidReturnIsTaken := by
  refine ⟨fun s k status actual crc hw hcrc hrange => ?_, fun s k status actual hw hrange hcheck => ?_,
    fun s k status actual crc hw => ?_, fun s status actual crc hw => ?_⟩
  · have htake := State.takeReturn_of_valid hw hcrc hrange
    obtain ⟨d, f, hslot⟩ := State.validReturn_get_self (s.setBus { s.bus with window := some ⟨k, true⟩ }) k status
      (returnActual k actual)
    have hget : ∀ t : State, t.commit.bus.get k = t.bus.get k := fun t => by cases k <;> simp [Bus.get]
    refine ⟨_, exec_driveReturn s status actual crc, ?_⟩
    rw [htake, hget, hslot]
    refine ⟨rfl, rfl, rfl, ?_, ?_, by simp, by simp, by simp, by simp⟩
    · cases k <;> rfl
    · simp
  · have htake := State.takeReturn_of_valid (crc := crc8 (status :: beWord actual)) hw rfl hrange
    generalize hs0 : s.setBus { s.bus with window := some ⟨k, true⟩ } = s0 at htake
    have hstands : s.TripStands s0 := by rw [← hs0]; exact s.setWindow_tripStands _
    have hget : s0.bus.get k = s.bus.get k := by rw [← hs0]; exact s.setWindow_get _ k
    have hkept : s0.stroke = s.stroke ∧ s0.classifier = s.classifier ∧ s0.bus.level = s.bus.level := by
      rw [← hs0]; exact ⟨rfl, rfl, rfl⟩
    generalize hv : s0.returnCleared k = v
    generalize hb : v.returnStored k status (returnActual k actual) = b
    generalize hj : b.returnJudged k (s0.bus.get k).adopted status (returnActual k actual) = j
    have heq : s0.validReturn k status (returnActual k actual) = j.restStage k (returnAtRest status) := by
      rw [s0.validReturn_eq, hv, hb, hj]
    obtain ⟨hlost, hfault⟩ : (j.restStage k (returnAtRest status)).bus.lostSlots = b.bus.lostSlots ∧
        (j.restStage k (returnAtRest status)).bus.faultSlots = b.bus.faultSlots := by
      rw [← hj]; exact b.restJudged_sets k _ status _ _
    have hblost : b.bus.lostSlots = v.bus.lostSlots := by rw [← hb]; exact v.returnStored_lostSlots k status _
    have hadopt : j = b.adoptStage k (returnReady status) (returnActual k actual) := by
      rw [← hj, State.returnJudged]
      refine State.followStage_unchecked _ fun hk => ?_
      obtain ⟨d, hd⟩ := b.adoptStage_get_self k (returnReady status) (returnActual k actual)
      have hsent : b.bus.get k = { s.bus.get k with
          misses := 0, lost := false, actual := some (returnActual k actual), fault := returnFault status } := by
        rw [← hb, State.returnStored_get_self, ← hv, State.returnCleared_get_self, hget]
      rw [hd, hsent, hget]
      have hlevel : (b.adoptStage k (returnReady status) (returnActual k actual)).bus.level = s.bus.level := by
        rw [← hkept.2.2, ← hb, ← hv]; simp [State.returnStored, State.returnCleared]
      rw [hlevel]
      obtain h | h | h := hcheck hk
      · exact .inl h
      · exact .inr (.inl h)
      · exact .inr (.inr (.inr h))
    have hjkept : j.stroke = s.stroke ∧ j.classifier = s.classifier := by
      rw [hadopt, ← hb, ← hv, ← hkept.1, ← hkept.2.1]; simp [State.returnStored, State.returnCleared]
    have hvslot : (v.bus.get k).fault = (s.bus.get k).fault := by rw [← hv, State.returnCleared_get_self, hget]
    have hfirst : s.SlotSetTaken v 14 ((s.bus.get k).lost = true) v.bus.lostSlots := by
      rw [← hget, ← hv]
      exact State.slotSetTaken_of_stands hstands (s0.returnCleared_taken k)
    have hsecond : v.SlotSetTaken j 13 ((s.bus.get k).fault ≠ status.getLsbD 1) b.bus.faultSlots := by
      have htaken := v.returnStored_taken k status (returnActual k actual)
      rw [hb, hvslot] at htaken
      refine State.slotSetTaken_stands htaken ?_
      rw [hadopt]
      exact b.adoptStage_tripStands k _ _
    refine ⟨j.restStage k (returnAtRest status), v, by rw [exec_driveReturn, htake, heq], ?_, fun hno => ?_, fun hstops => ?_⟩
    · rw [hlost, hblost]; exact hfirst
    · have hrest : j.restStage k (returnAtRest status) = j := by
        cases k <;> try rfl
        refine if_neg fun hand => hno ⟨rfl, ?_⟩
        simpa [returnAtRest, hjkept.1] using hand
      rw [hfault, hrest]
      exact ⟨hjkept.1, hjkept.2, hsecond⟩
    · obtain ⟨rfl, hat, hstate⟩ := hstops
      have hrest : j.restStage .s (returnAtRest status) = j.strokeStopped :=
        if_pos (by simp [returnAtRest, hat, hjkept.1, hstate])
      obtain ⟨hstroke, hclass, h9, h8⟩ := j.strokeStopped_spec
      rw [hrest, hstroke, hclass, hjkept.1, hjkept.2]
      exact ⟨rfl, rfl, fun h => h9 (by rw [hjkept.1]; exact h), fun h => h8 (by rw [hjkept.2]; exact h)⟩
  · rw [exec_driveReturn]
    simp [State.takeReturn, hw]
  · have htake : s.takeReturn status actual crc = s.setBus s.bus.openHeld := by simp only [State.takeReturn, hw]
    have hheld : s.bus.openHeld = { s.bus with window := s.bus.opening.map (⟨·.slot, false⟩), opening := none } := by
      rcases hbus : s.bus with ⟨started, count, level, x, y, h, st, window, opening, line, changes⟩
      rw [hbus] at hw
      obtain rfl : window = none := hw
      cases opening <;> rfl
    rw [exec_driveReturn, htake, hheld]
    rfl

/-- The commanded values and the tail after an adoption (R5, R138). -/
theorem State.adoptValue_spec (s : State) (k : Slot) (actual : Word) :
    let u := s.adoptValue k (returnActual k actual)
    u.interp.x = (if k = .x then actual.toInt else s.interp.x) ∧
    u.interp.y = (if k = .y then actual.toInt else s.interp.y) ∧
    u.interp.heading = (if k = .h then BitVec.ofNat 16 actual.toNat else s.interp.heading) ∧
    (s.queue.records = [] →
      u.queue.tail.x = (if k = .x then actual.toInt else s.queue.tail.x) ∧
      u.queue.tail.y = (if k = .y then actual.toInt else s.queue.tail.y) ∧
      u.queue.tail.heading = (if k = .h then BitVec.ofNat 16 actual.toNat else s.queue.tail.heading)) ∧
    (s.queue.records ≠ [] → u.queue.tail = s.queue.tail) := by
  have hmod : BitVec.ofInt 16 ((actual.toNat : Int) % 65536) = BitVec.setWidth 16 actual := by
    refine BitVec.eq_of_toNat_eq ?_
    simp only [BitVec.toNat_ofInt, BitVec.toNat_setWidth]
    omega
  cases hq : s.queue.records <;> cases k <;> simp [State.adoptValue, hq, returnActual, hmod]

/-- Settles O24: the adoption stage; the other stages leave the commanded values, the tail and the adoption. -/
theorem readyReturnAdoptsAxis : Obligations.ReadyReturnAdoptsAxis := by
  intro s k status actual hw hk hrange hadopted hready habort
  have htake := State.takeReturn_of_valid (crc := crc8 (status :: beWord actual)) hw rfl
    (fun hxy => hrange (by obtain rfl | rfl := hxy <;> decide))
  generalize hs0 : s.setBus { s.bus with window := some ⟨k, true⟩ } = s0 at htake
  have hget : s0.bus.get k = s.bus.get k := by rw [← hs0]; exact s.setWindow_get _ k
  have hkept0 : s0.interp = s.interp ∧ s0.queue = s.queue ∧ s0.seq = s.seq := by rw [← hs0]; exact ⟨rfl, rfl, rfl⟩
  generalize hb : (s0.returnCleared k).returnStored k status (returnActual k actual) = b
  have hbkept : b.interp = s.interp ∧ b.queue = s.queue ∧ b.seq.engine = s.seq.engine := by
    rw [← hb, ← hkept0.1, ← hkept0.2.1, ← hkept0.2.2]; simp [State.returnStored, State.returnCleared]
  obtain ⟨hinterp, hqueue, hengine⟩ := hbkept
  have hbslot : (b.bus.get k).adopted = false := by
    rw [← hb, State.returnStored_get_self, State.returnCleared_get_self, hget]; exact hadopted
  have hadopt : b.adoptStage k (returnReady status) (returnActual k actual) =
      (b.adoptValue k (returnActual k actual)).putSlot k
        { (b.adoptValue k (returnActual k actual)).bus.get k with adopted := true } := by
    have haxis : k.isAxis = true := by cases k <;> first | rfl | exact absurd rfl hk
    exact if_pos (by simp [haxis, hbslot, returnReady, hready, hengine, habort])
  obtain ⟨f, hf⟩ := (b.adoptStage k (returnReady status) (returnActual k actual)).followStage_get_self k
    (s0.bus.get k).adopted (returnActual k actual)
  obtain ⟨hx, hy, hh, hempty, hheld⟩ := b.adoptValue_spec k actual
  have hcommit : ∀ t : State, t.commit.bus.get k = t.bus.get k := fun t => by cases k <;> simp [Bus.get]
  have hend : (s0.validReturn k status (returnActual k actual)).interp = (b.adoptValue k (returnActual k actual)).interp ∧
      (s0.validReturn k status (returnActual k actual)).queue = (b.adoptValue k (returnActual k actual)).queue := by
    rw [State.validReturn_eq, hb, State.returnJudged, hadopt]
    simp [State.putSlot]
  refine ⟨_, exec_driveReturn s status actual _, ?_⟩
  rw [htake, hcommit]
  refine ⟨?_, ?_⟩
  · rw [State.validReturn_eq, hb, State.restStage_get, State.returnJudged, hf, hadopt, State.putSlot_get_self]
  · simp only [State.commit_frame, hend]
    rw [hx, hy, hh, hinterp, ← hqueue]
    exact ⟨rfl, rfl, rfl, by simp, by simp, hempty, hheld⟩

/-- Settles O25: the check of an axis adopted before, behind the two sets. -/
theorem returnJudgesFollowing : Obligations.ReturnJudgesFollowing := by
  intro s k status actual v hw hk hrange hadopted checked unchecked exceeds
  have htake := State.takeReturn_of_valid (crc := crc8 (status :: beWord actual)) hw rfl
    (fun hxy => hrange (by obtain rfl | rfl := hxy <;> decide))
  generalize hs0 : s.setBus { s.bus with window := some ⟨k, true⟩ } = s0 at htake
  have hstands : s.TripStands s0 := by rw [← hs0]; exact s.setWindow_tripStands _
  have hget : s0.bus.get k = s.bus.get k := by rw [← hs0]; exact s.setWindow_get _ k
  have hkept0 : s0.interp = s.interp ∧ s0.queue = s.queue ∧ s0.bus.level = s.bus.level ∧ s0.settings = s.settings := by
    rw [← hs0]; exact ⟨rfl, rfl, rfl, rfl⟩
  obtain ⟨hinterp0, hqueue0, hlevel0, hsettings0⟩ := hkept0
  generalize hv : s0.returnCleared k = c
  generalize hb : c.returnStored k status (returnActual k actual) = b
  have hbslot : b.bus.get k = { s.bus.get k with
      misses := 0, lost := false, actual := some (returnActual k actual), fault := returnFault status } := by
    rw [← hb, State.returnStored_get_self, ← hv, State.returnCleared_get_self, hget]
  have hbkept : b.interp = s.interp ∧ b.queue = s.queue ∧ b.bus.level = s.bus.level ∧ b.settings = s.settings := by
    rw [← hb, ← hv, ← hinterp0, ← hqueue0, ← hlevel0, ← hsettings0]; simp [State.returnStored, State.returnCleared]
  obtain ⟨hinterp, hqueue, hlevel, hsettings⟩ := hbkept
  have hadopt : b.adoptStage k (returnReady status) (returnActual k actual) = b :=
    if_neg (by rw [hbslot]; simp [hadopted])
  have haxis : k.isAxis = true := by cases k <;> first | rfl | exact absurd rfl hk
  have heq : s0.validReturn k status (returnActual k actual) = b.followStage k true (returnActual k actual) := by
    rw [State.validReturn_eq, hv, hb, State.returnJudged, hadopt, hget, hadopted]
    cases k <;> first | rfl | exact absurd rfl hk
  have hsets : (b.followStage k true (returnActual k actual)).bus.lostSlots = c.bus.lostSlots ∧
      (b.followStage k true (returnActual k actual)).bus.faultSlots = b.bus.faultSlots := by
    have hslot : ∀ j, ∃ f, (b.followStage k true (returnActual k actual)).bus.get j =
        { b.bus.get j with following := f } := fun j => by
      by_cases h : j = k
      · subst h; exact b.followStage_get_self j true _
      · exact ⟨_, b.followStage_get_other true _ h⟩
    have hblost : b.bus.lostSlots = c.bus.lostSlots := by rw [← hb]; exact c.returnStored_lostSlots k status _
    refine ⟨(Bus.lostSlots_congr fun j => ?_).trans hblost, Bus.faultSlots_congr fun j => ?_⟩ <;>
      (obtain ⟨f, h⟩ := hslot j; rw [h]; exact ⟨rfl, rfl⟩)
  have hcslot : (c.bus.get k).fault = (s.bus.get k).fault := by rw [← hv, State.returnCleared_get_self, hget]
  refine ⟨c, b, b.followStage k true (returnActual k actual), by rw [exec_driveReturn, htake, heq], ?_, ?_, fun hc => ?_,
    fun hu => ?_, by cases k <;> first | rfl | exact absurd rfl hk, by simp [hinterp], by simp [hqueue]⟩
  · rw [hsets.1, ← hget, ← hv]
    exact State.slotSetTaken_of_stands hstands (s0.returnCleared_taken k)
  · have htaken := c.returnStored_taken k status (returnActual k actual)
    rw [hb, hcslot] at htaken
    rw [hsets.2]
    exact htaken
  · obtain ⟨hsent, hbelow⟩ := hc
    have hexceeds : b.followExceeds k (returnActual k actual) v = exceeds := by
      simp only [State.followExceeds, exceeds, State.params_settings, hsettings, returnActual]
      cases k <;> first | rfl | exact absurd rfl hk
    have hfollow : b.followStage k true (returnActual k actual) = b.setFollowing k exceeds := by
      have hsent' : (b.bus.get k).sentBefore = some ⟨v, true⟩ := by rw [hbslot]; exact hsent
      simp only [State.followStage, hsent']
      rw [if_pos (by simp [haxis, Bus.quickStopFlag, hlevel, hbelow]), hexceeds]
    have hbfollow : (b.bus.get k).following = (s.bus.get k).following := by rw [hbslot]
    obtain ⟨hchanged, hsame⟩ := b.setFollowing_taken k exceeds
    rw [hfollow, ← hbfollow]
    exact ⟨State.setFollowing_following _ hk, hchanged, fun h => by rw [hsame (.inr h)]; exact ⟨rfl, rfl, rfl, rfl⟩⟩
  · have hfollow : b.followStage k true (returnActual k actual) = b := by
      refine State.followStage_unchecked _ fun _ => .inr ?_
      rw [hbslot, hlevel]
      obtain h | h | h := hu
      · exact .inl h
      · exact .inr (.inl ⟨v, h⟩)
      · exact .inr (.inr h)
    rw [hfollow, hbslot]
    exact ⟨rfl, rfl, rfl, rfl, rfl⟩

end Sys2Proof.Machine
end

section
/-! SUPPORT. The input lines and their debounce timers (R147, R148). -/

namespace Sys2Proof.Machine

@[simp] theorem sourceOfInput_slotSet (t : TripUnit) (i : Fin 8) : t.slotSet (sourceOfInput i) = none := by
  have hi : i.val ≠ 13 ∧ i.val ≠ 14 := by omega
  simp [TripUnit.slotSet, sourceOfInput, hi]

theorem TripUnit.putInput_get_self (t : TripUnit) (i : Fin 8) (v : Input) : (t.putInput i v).inputs[i] = v := by simp

theorem TripUnit.putInput_get_other (t : TripUnit) (i j : Fin 8) (v : Input) (h : j ≠ i) :
    (t.putInput i v).inputs[j] = t.inputs[j] :=
  Vector.getElem_set_ne i.isLt j.isLt fun e => h (Fin.ext e.symm)

/-- A condition handed on adds to the changes that the bus master waits for, and to nothing else of it (R154). -/
theorem State.setCondition_bus (s : State) (i : Fin 15) (b : Bool) :
    (s.setCondition i b).bus = { s.bus with changes := (s.setCondition i b).bus.changes } := by
  simp only [State.setCondition, State.activate, State.release]
  repeat' split
  all_goals simp only [State.moveSource_eq, State.setTrip_bus]

/-! ## What a condition makes of its source (R150, R151) -/

/-- The state in which an ACTIVE source is left when its condition ends. -/
theorem Action.releasedState (a : Action) :
    (if a ∈ [Action.hold, .halt, .quickStop] then SourceState.latched else .clear) =
      match a with
      | .hold | .halt | .quickStop => .latched
      | .ignore | .report => .clear := by
  cases a <;> rfl

section
variable {s u : State} {i : Fin 15} {b : Bool}

theorem State.ConditionTaken.condition_eq (h : s.ConditionTaken u i b) : (u.trip.sources[i]).condition = b := by
  rw [h.1]

/-- A condition that becomes true makes the source ACTIVE and counts it. -/
theorem State.ConditionTaken.activated (h : s.ConditionTaken u i b) (hc : (s.trip.sources[i]).condition = false)
    (hb : b = true) :
    (u.trip.sources[i]).state = .active ∧ (u.trip.sources[i]).count = min ((s.trip.sources[i]).count + 1) 255 := by
  rw [h.1]
  simp only [hc, hb]
  exact ⟨rfl, rfl⟩

/-- One that becomes false leaves an ACTIVE source LATCHED or CLEAR by its action. -/
theorem State.ConditionTaken.released (h : s.ConditionTaken u i b) (hc : (s.trip.sources[i]).condition = true)
    (hb : b = false) (ha : (s.trip.sources[i]).state = .active) :
    (u.trip.sources[i]).state =
      if (s.trip.sources[i]).action ∈ [Action.hold, .halt, .quickStop] then .latched else .clear := by
  rw [h.1]
  simp only [hc, hb, ha]
  rfl

end

/-! ## The condition takes the line state (R148) -/

/-- The input's timer has stopped and its source has taken the line state; the other inputs stand. -/
theorem State.takeLine_inputs (s : State) (i : Fin 8) :
    (s.takeLine i).trip.inputs = s.trip.inputs.set i.val { s.trip.inputs[i] with timer := none } := by
  simp only [State.takeLine]
  rw [(State.setCondition_taken _ _ _).2.2.1]
  simp

theorem State.takeLine_taken (s : State) (i : Fin 8) :
    (s.setTrip (s.trip.putInput i { s.trip.inputs[i] with timer := none })).ConditionTaken (s.takeLine i) (sourceOfInput i)
      (s.trip.inputs[i]).line :=
  State.setCondition_taken _ _ _

theorem State.takeLine_bus (s : State) (i : Fin 8) :
    (s.takeLine i).bus = { s.bus with changes := (s.takeLine i).bus.changes } := by
  rw [State.takeLine, State.setCondition_bus]
  simp

/-! ## A line state derived from its pin (R147) -/

/-- The line state that pin and polarity give an input. -/
def State.pinLine (s : State) (i : Fin 8) : Bool := lineState (s.trip.inputs[i]).polarity s.pins[i]

/-- An unchanged line state leaves the state. -/
theorem State.deriveLine_of_same {s : State} {i : Fin 8} (h : s.pinLine i = (s.trip.inputs[i]).line) :
    s.deriveLine i = s := by
  simp only [State.pinLine] at h
  simp only [State.deriveLine, h, if_true]

/-- A changed line state that equals the condition stops the timer. -/
theorem State.deriveLine_of_equal {s : State} {i : Fin 8} (h : s.pinLine i ≠ (s.trip.inputs[i]).line)
    (hc : s.pinLine i = (s.trip.sources[sourceOfInput i]).condition) :
    s.deriveLine i = s.setTrip (s.trip.putInput i { s.trip.inputs[i] with line := s.pinLine i, timer := none }) := by
  simp only [State.pinLine] at h hc ⊢
  simp only [State.deriveLine, h, if_false, State.lineBecomes]
  rw [if_pos hc]

/-- One that differs starts the timer. -/
theorem State.deriveLine_of_differs {s : State} {i : Fin 8} (h : s.pinLine i ≠ (s.trip.inputs[i]).line)
    (hc : s.pinLine i ≠ (s.trip.sources[sourceOfInput i]).condition) (hd : (s.trip.inputs[i]).debounce ≠ 0) :
    s.deriveLine i = s.setTrip (s.trip.putInput i { s.trip.inputs[i] with line := s.pinLine i, timer := some 0 }) := by
  simp only [State.pinLine] at h hc ⊢
  simp only [State.deriveLine, h, if_false, State.lineBecomes, hd]
  rw [if_neg hc]

/-- With a debounce time of 0 it changes the condition at once. -/
theorem State.deriveLine_of_immediate {s : State} {i : Fin 8} (h : s.pinLine i ≠ (s.trip.inputs[i]).line)
    (hc : s.pinLine i ≠ (s.trip.sources[sourceOfInput i]).condition) (hd : (s.trip.inputs[i]).debounce = 0) :
    s.deriveLine i =
      (s.setTrip (s.trip.putInput i { s.trip.inputs[i] with line := s.pinLine i, timer := some 0 })).takeLine i := by
  simp only [State.pinLine] at h hc ⊢
  simp only [State.deriveLine, h, if_false, State.lineBecomes, hd, if_true]
  rw [if_neg hc]

theorem State.deriveLine_line (s : State) (i : Fin 8) : ((s.deriveLine i).trip.inputs[i]).line = s.pinLine i := by
  by_cases h : s.pinLine i = (s.trip.inputs[i]).line
  · rw [State.deriveLine_of_same h, h]
  by_cases hc : s.pinLine i = (s.trip.sources[sourceOfInput i]).condition
  · rw [State.deriveLine_of_equal h hc]; simp
  by_cases hd : (s.trip.inputs[i]).debounce = 0
  · rw [State.deriveLine_of_immediate h hc hd, Fin.getElem_fin, State.takeLine_inputs]; simp
  · rw [State.deriveLine_of_differs h hc hd]; simp

/-- Settles O37: the pin is stored, and each of the four cases of the line state is that of `deriveLine`. -/
theorem inputLineStartsDebounce : Obligations.InputLineStartsDebounce := by
  intro s i high
  refine ⟨fun hs => by rw [exec_inputLineChange, if_neg hs]; rfl, fun hs => ?_⟩
  have hexec : exec (.inputLineChange i high) s = .next ((s.setPins (s.pins.set i.val high)).deriveLine i).commit := by
    rw [exec_inputLineChange, if_pos hs]
  generalize hv : s.setPins (s.pins.set i.val high) = v at hexec
  have htrip : v.trip = s.trip := by rw [← hv]; simp
  have hline : v.pinLine i =
      (match (s.trip.inputs[i]).polarity with | .activeHigh => high | .activeLow => !high) := by
    simp only [State.pinLine, ← hv, lineState, State.setPins]
    cases (s.trip.inputs[i]).polarity <;> simp
  refine ⟨_, hexec, by simp [← hv], (v.deriveLine_line i).trans hline, ?_, ?_, ?_, ?_, by simp [← hv], by simp [← hv],
    by simp [← hv], by simp [← hv]⟩ <;> rw [v.deriveLine_line i, ← htrip]
  · intro h; rw [State.deriveLine_of_same h]
  · intro h hc; rw [State.deriveLine_of_equal h hc]; simp
  · intro h hc hd; rw [State.deriveLine_of_differs h hc hd]; simp
  · intro h hc hd
    rw [State.deriveLine_of_immediate h hc hd]
    refine ⟨by rw [Fin.getElem_fin, State.takeLine_inputs]; simp, ?_⟩
    have htaken := (State.takeLine_taken
      (v.setTrip (v.trip.putInput i { v.trip.inputs[i] with line := v.pinLine i, timer := some 0 })) i).1
    rw [htaken]
    simp

/-- Settles O38: the expiry hands the line state to the source, which is the `ConditionTaken` of that source. -/
theorem debounceExpiryMovesSource : Obligations.DebounceExpiryMovesSource := by
  intro s i e htimer
  dsimp only
  have hexec : exec (.debounceExpiry i) s = .next (s.takeLine i).commit := by
    rw [exec_debounceExpiry, htimer]; rfl
  obtain ⟨hself, hothers, -, hlevel, ⟨hseq, hchanges⟩, hnotice⟩ := s.takeLine_taken i
  simp only [State.setTrip_trip, TripUnit.putInput_sources, TripUnit.putInput_level, State.setTrip_seq, State.setTrip_bus,
    State.setTrip_notice, sourceOfInput_slotSet] at hself hothers hlevel hseq hchanges hnotice
  have htaken := s.takeLine_taken i
  refine ⟨_, hexec, by rw [Fin.getElem_fin, State.takeLine_inputs]; simp, htaken.condition_eq,
    fun hc hl => htaken.activated hc hl, fun hc hl ha => ?_, fun hm => ?_, hothers, hlevel,
    ⟨hseq, (s.takeLine_bus i).trans (by rw [hchanges]; rfl)⟩, hnotice, by simp, by simp, by simp⟩
  · exact (htaken.released hc hl ha).trans (Action.releasedState _)
  · rw [hself]
    simp only [hm, if_false]

end Sys2Proof.Machine
end

section
/-! SUPPORT. A request taken as its frame arrives, the receiver, the transmitter and the notices (R160 to R171, R181 to R184). -/

namespace Sys2Proof.Machine

/-! ## Bytes read back (R142, R163) -/

theorem byte_toNat (n : Nat) : (byte n).toNat = n % 256 := by simp [byte]

/-- Two bytes are those of a 16-bit figure. -/
theorem be16_surjective (a b : Byte) : ∃ h : Half, be16 h.toNat = [a, b] := by
  refine ⟨BitVec.ofNat 16 (a.toNat * 256 + b.toNat), ?_⟩
  have ha := a.isLt
  have hb := b.isLt
  simp only [be16, BitVec.toNat_ofNat, List.cons.injEq, and_true]
  constructor <;> apply BitVec.eq_of_toNat_eq <;> rw [byte_toNat] <;> omega

/-- Four bytes are those of a word. -/
theorem beWord_surjective (a b c d : Byte) : ∃ w : Word, beWord w = [a, b, c, d] := by
  refine ⟨BitVec.ofNat 32 (((a.toNat * 256 + b.toNat) * 256 + c.toNat) * 256 + d.toNat), ?_⟩
  have ha := a.isLt
  have hb := b.isLt
  have hc := c.isLt
  have hd := d.isLt
  simp only [beWord, BitVec.toNat_ofNat, List.cons.injEq, and_true]
  refine ⟨?_, ?_, ?_, ?_⟩ <;> apply BitVec.eq_of_toNat_eq <;> rw [byte_toNat] <;> omega

/-- A word read from its four bytes. -/
theorem readInt_beWord (b : Byte) (w : Word) (rest : List Byte) : readInt (b :: beWord w ++ rest) 1 = w.toInt := by
  have hw := w.isLt
  have hnat : readNat (b :: beWord w ++ rest) 1 4 = w.toNat := by
    simp only [readNat, beWord, readBE, List.cons_append, List.drop_succ_cons, List.drop_zero, List.take_succ_cons,
      List.take_zero, List.foldl_cons, List.foldl_nil, byte_toNat]
    omega
  rw [readInt, hnat]
  simp

/-! ## A request taken at once (R168) -/

/-- On an empty inbox and an empty reply slot the request is answered as its frame arrives. -/
theorem State.toInbox_of_empty {s : State} (hreply : s.link.reply = none) (hinbox : s.link.inbox = []) (r : Request) :
    s.toInbox r = s.answer r := by
  have hlink : s.setLink { s.link with inbox := [], reply := none } = s := by
    rw [← hinbox, ← hreply]
    rfl
  simp only [State.toInbox, hinbox, List.length_nil, Nat.ofNat_pos, if_true, State.takeNext, State.setLink_link, hreply,
    List.nil_append]
  exact congrArg (State.answer · r) hlink

theorem State.arrive_of_takes {s : State} (h : s.takesRequests) (r : Request) : s.arrive r = s.answer r := by
  obtain ⟨hphase, hreply, hinbox⟩ := h
  rw [State.arrive, if_pos hphase, State.toInbox_of_empty hreply hinbox]

theorem State.answer_eq (s : State) (r : Request) :
    s.answer r = (s.answerBody r).1.withReply (replyKind r.kind) r.tag (s.answerBody r).2 := rfl

theorem State.answerBody_of_known (s : State) {kind tag : Byte} {body : List Byte} {k : RequestKind}
    (hk : RequestKind.ofCode kind.toNat = some k) (hl : k.lengthGood body.length = true) :
    s.answerBody ⟨kind, tag, body⟩ = s.serve k body := by
  simp only [State.answerBody, hk, hl, if_true]

/-- A request command taken at once is answered by the block that owns its kind. -/
theorem exec_served {c : Instr} {kind tag : Byte} {body : List Byte} (k : RequestKind) {s : State} (ht : s.takesRequests)
    (hr : requestOf c = some ⟨kind, tag, body⟩) (hk : RequestKind.ofCode kind.toNat = some k)
    (hl : k.lengthGood body.length = true) :
    exec c s = .next (State.commit ((s.serve k body).1.withReply (replyKind kind) tag (s.serve k body).2)) := by
  rw [exec_request s hr, State.arrive_of_takes ht, State.answer_eq, State.answerBody_of_known s hk hl]

/-- A request command taken at once, with the answer of its owner. -/
theorem exec_answered {c : Instr} {kind tag out : Byte} {body reply : List Byte} (k : RequestKind) {s u : State}
    (ht : s.takesRequests) (hr : requestOf c = some ⟨kind, tag, body⟩) (hk : RequestKind.ofCode kind.toNat = some k)
    (hl : k.lengthGood body.length = true) (hout : replyKind kind = out) (hs : s.serve k body = (u, reply)) :
    exec c s = .next (State.commit (u.withReply out tag reply)) := by
  rw [exec_served k ht hr hk hl, hs, hout]

/-! ## The blink clock and the lamps (R160) -/

theorem LampSetting.ofCode_code (l : LampSetting) : LampSetting.ofCode l.code.toNat = some l := by cases l <;> rfl

theorem LampSetting.ofCode_eq_none {n : Nat} (h : 2 < n) : LampSetting.ofCode n = none := by
  match n, h with
  | n + 3, _ => rfl

/-- Settles O39: the toggle is one update, and LAMPS reads its three settings back or finds one bad. -/
theorem blinkAndLamps : Obligations.BlinkAndLamps := by
  refine ⟨fun s h => by rw [exec_blinkToggle, if_neg h]; rfl, fun s tag g a r hp hr hi => ?_, fun s tag g a r hp hr hi h => ?_⟩
  · have hserve : s.serve .lamps [g.code, a.code, r.code] =
        (s.setTrip { s.trip with green := g, amber := a, red := r }, [0x00, g.code, a.code, r.code]) := by
      show s.serveLamps g.code a.code r.code = _
      simp only [State.serveLamps, LampSetting.ofCode_code]
      rfl
    exact exec_answered (c := .lamps tag g.code a.code r.code) .lamps ⟨hp, hr, hi⟩ rfl rfl rfl rfl hserve
  · have hserve : s.serve .lamps [g, a, r] =
        (s, [0x12, s.trip.green.code, s.trip.amber.code, s.trip.red.code]) := by
      show s.serveLamps g a r = _
      rcases h with h | h | h
      · simp only [State.serveLamps, LampSetting.ofCode_eq_none h]
        rfl
      · cases hg : LampSetting.ofCode g.toNat <;> simp only [State.serveLamps, hg, LampSetting.ofCode_eq_none h] <;> rfl
      · cases hg : LampSetting.ofCode g.toNat <;> cases ha : LampSetting.ofCode a.toNat <;>
          simp only [State.serveLamps, hg, ha, LampSetting.ofCode_eq_none h] <;> rfl
    exact exec_answered .lamps ⟨hp, hr, hi⟩ rfl rfl rfl rfl hserve

/-! ## The receiver (R165, R166) -/

theorem lenRefused_iff (b : Byte) : lenRefused b = true ↔ b.toNat < 2 ∨ 250 < b.toNat := by simp [lenRefused]

/-- A byte refused in LENGTH returns the receiver to HUNT and is counted. -/
theorem State.receiveByte_of_refused {s : State} {b : Byte} (h : s.link.receiver = .length)
    (hb : b.toNat < 2 ∨ 250 < b.toNat) :
    s.receiveByte b =
      { s with link := { s.link with receiver := .hunt, gap := 0, lengthCount := min (s.link.lengthCount + 1) 65535 } } := by
  simp only [State.receiveByte, h, (lenRefused_iff b).2 hb, if_true]
  rfl

theorem exec_frameReceived {s : State} {len first : Byte} {bytes : List Byte}
    (h : s.link.receiver = .crc len bytes (some first)) (second : Byte) :
    exec (.frameReceived second) s = .next (s.judgeFrame len bytes first second).commit := by
  have hexec : exec (.frameReceived second) s = .next (State.commit (match s.link.receiver with
    | .crc len bytes (some first) => s.judgeFrame len bytes first second
    | .crc _ _ none => s
    | .payload _ _ => s
    | .length => s
    | .hunt => s
    | .disabled => s)) := rfl
  rw [hexec, h]

/-- Settles O40: `receiveByte`, row by row. -/
theorem receiverTakesByte : Obligations.ReceiverTakesByte := by
  intro s b
  refine ⟨fun h => ?_, fun h => ?_, fun h h1 h2 => ?_, fun h hb => ?_, fun len bytes h => ?_, fun len bytes h => ?_,
    fun len bytes first h => ?_⟩ <;> rw [exec_linkByteReceived]
  · simp only [State.receiveByte, h]
  · simp only [State.receiveByte, h]
    rfl
  · have hb : lenRefused b = false := Bool.eq_false_iff.2 fun hr => by have := (lenRefused_iff b).1 hr; omega
    simp only [State.receiveByte, h, hb]
    rfl
  · rw [State.receiveByte_of_refused h hb]
  · simp only [State.receiveByte, h]
    split <;> rfl
  · simp only [State.receiveByte, h]
    rfl
  · rw [exec_frameReceived h]
    simp only [State.receiveByte, h]

/-- Settles O41: a refused LEN byte as in the table, and the gap in each of the three states of mid-frame. -/
theorem refusedLengthAndGapAreCounted : Obligations.RefusedLengthAndGapAreCounted := by
  refine ⟨fun s b h hb => ?_, fun s hd hh => ?_⟩
  · rw [exec_lengthByteRefused, if_pos ⟨h, (lenRefused_iff b).2 hb⟩, State.receiveByte_of_refused h hb]
  · have hmid : s.link.receiver.midFrame = true := by
      cases hr : s.link.receiver with
      | disabled => exact absurd hr hd
      | hunt => exact absurd hr hh
      | length => rfl
      | payload len bytes => rfl
      | crc len bytes first => rfl
    rw [exec_gapTimeout, State.gapExpire, if_pos hmid]
    rfl

/-! ## A complete frame (R167 to R169) -/

/-- Outside the 21 codes no kind is known. -/
theorem RequestKind.code_of_ofCode {n : Nat} {k : RequestKind} (h : RequestKind.ofCode n = some k) : n = k.code.toNat := by
  unfold RequestKind.ofCode at h
  split at h <;> cases h <;> rfl

theorem RequestKind.kind_of_ofCode {kind : Byte} {k : RequestKind} (h : RequestKind.ofCode kind.toNat = some k) :
    kind = k.code := BitVec.eq_of_toNat_eq (RequestKind.code_of_ofCode h)

/-- Every frame of a known KIND and a good length is that of a request command. -/
theorem requestOf_surjective {kind tag : Byte} {body : List Byte} {k : RequestKind}
    (hk : RequestKind.ofCode kind.toNat = some k) (hl : k.bodyLength = none ∨ k.bodyLength = some body.length) :
    ∃ c, requestOf c = some ⟨kind, tag, body⟩ := by
  rw [RequestKind.kind_of_ofCode hk]
  have hlen : ∀ n, k.bodyLength = some n → body.length = n := fun n hn => by simpa [hn, eq_comm] using hl
  cases k with
  | segments => exact ⟨.segments tag body, rfl⟩
  | ident => exact ⟨.ident tag, by rw [List.eq_nil_of_length_eq_zero (hlen 0 rfl)]; rfl⟩
  | status => exact ⟨.status tag, by rw [List.eq_nil_of_length_eq_zero (hlen 0 rfl)]; rfl⟩
  | start => exact ⟨.start tag, by rw [List.eq_nil_of_length_eq_zero (hlen 0 rfl)]; rfl⟩
  | hold => exact ⟨.hold tag, by rw [List.eq_nil_of_length_eq_zero (hlen 0 rfl)]; rfl⟩
  | resume => exact ⟨.resume tag, by rw [List.eq_nil_of_length_eq_zero (hlen 0 rfl)]; rfl⟩
  | cancel => exact ⟨.cancel tag, by rw [List.eq_nil_of_length_eq_zero (hlen 0 rfl)]; rfl⟩
  | recover => exact ⟨.recover tag, by rw [List.eq_nil_of_length_eq_zero (hlen 0 rfl)]; rfl⟩
  | getTrips => exact ⟨.getTrips tag, by rw [List.eq_nil_of_length_eq_zero (hlen 0 rfl)]; rfl⟩
  | clearTrips => exact ⟨.clearTrips tag, by rw [List.eq_nil_of_length_eq_zero (hlen 0 rfl)]; rfl⟩
  | tare => exact ⟨.tare tag, by rw [List.eq_nil_of_length_eq_zero (hlen 0 rfl)]; rfl⟩
  | save => exact ⟨.save tag, by rw [List.eq_nil_of_length_eq_zero (hlen 0 rfl)]; rfl⟩
  | reset => exact ⟨.reset tag, by rw [List.eq_nil_of_length_eq_zero (hlen 0 rfl)]; rfl⟩
  | override => obtain ⟨v, rfl⟩ := List.length_eq_one_iff.1 (hlen 1 rfl); exact ⟨.override tag v, rfl⟩
  | getParam => obtain ⟨v, rfl⟩ := List.length_eq_one_iff.1 (hlen 1 rfl); exact ⟨.getParam tag v, rfl⟩
  | getBand => obtain ⟨v, rfl⟩ := List.length_eq_one_iff.1 (hlen 1 rfl); exact ⟨.getBand tag v, rfl⟩
  | noticeMask => obtain ⟨v, rfl⟩ := List.length_eq_one_iff.1 (hlen 1 rfl); exact ⟨.noticeMask tag v, rfl⟩
  | lamps => obtain ⟨g, a, r, rfl⟩ := List.length_eq_three.1 (hlen 3 rfl); exact ⟨.lamps tag g a r, rfl⟩
  | setTrip =>
    match body, hlen 4 rfl with
    | [i, a, p, d], _ => exact ⟨.setTrip tag i a p d, rfl⟩
  | setParam =>
    match body, hlen 5 rfl with
    | [n, a, b, c, d], _ =>
      obtain ⟨w, hw⟩ := beWord_surjective a b c d
      exact ⟨.setParam tag n w, by simp only [requestOf, hw]; rfl⟩
  | setBand =>
    match body, hlen 9 rfl with
    | [i, a, b, c, d, e, f, g, h], _ =>
      obtain ⟨w1, h1⟩ := be16_surjective a b
      obtain ⟨w2, h2⟩ := be16_surjective c d
      obtain ⟨w3, h3⟩ := be16_surjective e f
      obtain ⟨w4, h4⟩ := be16_surjective g h
      exact ⟨.setBand tag i w1 w2 w3 w4, by simp only [requestOf, h1, h2, h3, h4]; rfl⟩

/-- Settles O42: the judgement of the CRC, then the inbox, then the checks of the answer. -/
theorem completeFrameIsJudged : Obligations.CompleteFrameIsJudged := by
  intro s len kind tag first second body hr
  dsimp only
  have hexec := exec_frameReceived hr second
  let heard : State := { s with link := { s.link with receiver := .hunt, gap := 0 } }
  have hgood (h : (crc16 (len :: kind :: tag :: body)).toNat = first.toNat * 256 + second.toNat) :
      s.judgeFrame len (kind :: tag :: body) first second = heard.toInbox ⟨kind, tag, body⟩ := by
    rw [State.judgeFrame, if_pos h]
    rfl
  refine ⟨fun h => ?_, fun h hfull => ?_, fun h hroom hreply => ?_, fun h hinbox hreply hk => ?_,
    fun h hinbox hreply ⟨k, n, hk, hn, hne⟩ => ?_, fun h hphase c hc => ?_, fun ⟨k, hk, hl⟩ => requestOf_surjective hk hl⟩
  · rw [hexec, State.judgeFrame, if_neg h]
    rfl
  · rw [hexec, hgood h, State.toInbox, if_neg (Nat.not_lt.2 hfull)]
    rfl
  · obtain ⟨frame, hframe⟩ := Option.isSome_iff_exists.1 hreply
    rw [hexec, hgood h, State.toInbox, if_pos hroom]
    simp only [State.takeNext, State.setLink_link, heard, hframe]
    rfl
  · rw [hexec, hgood h, State.toInbox_of_empty (s := heard) hreply hinbox, State.answer_eq]
    simp only [State.answerBody, hk]
    rfl
  · have hlength : k.lengthGood body.length = false := by simp [RequestKind.lengthGood, hn, Ne.symm hne]
    rw [hexec, hgood h, State.toInbox_of_empty (s := heard) hreply hinbox, State.answer_eq]
    simp only [State.answerBody, hk, hlength]
    rfl
  · rw [hexec, hgood h, exec_request _ hc, State.arrive, if_pos hphase]

/-! ## The end of a frame sent (R168, R170) -/

theorem State.takeNext_of_waiting {s : State} {r : Request} {rest : List Request} (hreply : s.link.reply = none)
    (hinbox : s.link.inbox = r :: rest) : s.takeNext = (s.setLink { s.link with inbox := rest }).answer r := by
  simp only [State.takeNext]
  rw [hreply, hinbox]

theorem State.frameSent_of_reply {s : State} {frame : List Byte} (h : s.link.transmitter = .reply frame)
    (hreset : s.link.resetPending = false) :
    s.frameSent = (s.setLink { s.link with transmitter := .free, reply := none }).takeNext := by
  simp only [State.frameSent]
  rw [h]
  exact if_neg (by simp [hreset])

/-- Settles O43: the three ends of a frame. -/
theorem transmitEndTakesNextRequest : Obligations.TransmitEndTakesNextRequest := by
  refine ⟨fun s frame h => ?_, fun s frame h hreset hinbox => ?_, fun s frame r rest h hreset hinbox => ?_⟩
  · rw [exec_transmitEnd, State.frameSent, h]
    rfl
  · rw [exec_transmitEnd, State.frameSent_of_reply h hreset]
    simp only [State.takeNext, State.setLink_link, hinbox]
    rfl
  · intro w u
    have hexec : exec .transmitEnd s = .next u.commit := by
      rw [exec_transmitEnd, State.frameSent_of_reply h hreset, State.takeNext_of_waiting (by simp) (by simpa using hinbox)]
      rfl
    refine ⟨hexec, ?_, ?_, fun c hc hrest hphase => ?_⟩
    · simp [u, State.withReply, w]
    · simp [u, State.withReply, w]
    · have htakes : w.takesRequests := ⟨hphase, rfl, hrest⟩
      rw [hexec, exec_request w hc, State.arrive_of_takes htakes, State.answer_eq]

/-! ## The transmitter chooses (R170, R183) -/

theorem State.commit_of_offer (s : State) :
    s.commit.link = s.offerTransmit.link ∧ s.commit.notice = s.offerTransmit.notice ∧
    s.commit.attnFalls = s.offerTransmit.attnFalls := by
  simp [State.commit]

/-- A transmitter that is sending, or one before the end of start-up, chooses nothing. -/
theorem State.offerTransmit_of_barred {s : State} (h : s.startup.phase ≠ .started ∨ s.link.transmitter ≠ .free) :
    s.offerTransmit = s := by
  rcases h with h | h
  · exact State.offerTransmit_of_not_started h
  · cases hx : s.link.transmitter with
    | free => exact absurd hx h
    | reply frame => simp [State.offerTransmit, hx]
    | notice frame => simp [State.offerTransmit, hx]

section
variable {s : State} (hp : s.startup.phase = .started) (hf : s.link.transmitter = .free)
include hp hf

theorem State.offerTransmit_of_reply {frame : List Byte} (h : s.link.reply = some frame) :
    s.offerTransmit = s.setLink { s.link with transmitter := .reply frame } := by
  simp only [State.offerTransmit, hp, hf, h, if_true]

theorem State.offerTransmit_of_none (h : s.link.reply = none) (hc : s.chosenNotice = none) : s.offerTransmit = s := by
  simp only [State.offerTransmit, hp, hf, h, hc, if_true]

theorem State.offerTransmit_of_chosen (h : s.link.reply = none) {c : NoticeClass} (hc : s.chosenNotice = some c) :
    s.offerTransmit = s.sendNotice c := by
  simp only [State.offerTransmit, hp, hf, h, hc, if_true]

end

/-- The record handed over is absent and its class the last sent; the other records and the enables stand (R183). -/
theorem NoticeUnit.handOver_spec (n : NoticeUnit) (c : NoticeClass) :
    (n.handOver c).isPending c = false ∧ (n.handOver c).lastSent = c ∧ (n.handOver c).enables = n.enables ∧
    (c ≠ .trip → (n.handOver c).trip = n.trip) ∧ (c ≠ .engineState → (n.handOver c).engineState = n.engineState) ∧
    (c ≠ .segmentDone → (n.handOver c).segmentDone = n.segmentDone) ∧
    (c ≠ .queueLow → (n.handOver c).queueLow = n.queueLow) ∧ (c ≠ .band → (n.handOver c).band = n.band) ∧
    (c ≠ .tareDone → (n.handOver c).tareDone = n.tareDone) ∧
    (c ≠ .storeDone → (n.handOver c).storeDone = n.storeDone) := by
  cases c <;> simp [NoticeUnit.handOver, NoticeUnit.isPending]

/-- No rise waits, or neither of its records is a candidate: the choice is that of the notice unit. -/
theorem State.chosenNotice_of_free {s : State} (h : s.reactionWaits = false ∨
    ¬ (s.notice.candidate .trip = true ∨ s.notice.candidate .engineState = true)) :
    s.chosenNotice = s.notice.choose s.settings.params.rotating := by
  have hbarred : s.choiceBarred = false := by
    rcases h with h | h
    · simp [State.choiceBarred, h]
    · simpa [State.choiceBarred] using fun _ => h
  simp only [State.chosenNotice, hbarred]
  rfl

/-- While a rise waits the choice is made as with ENGINE_STATE pending, and falls on neither record of the rise. -/
theorem State.chosenNotice_of_waits {s : State} (hw : s.reactionWaits = true)
    (h : s.notice.candidate .trip = true ∨ s.notice.candidate .engineState = true) (c : NoticeClass) :
    s.chosenNotice = some c ↔ c ≠ .trip ∧ c ≠ .engineState ∧
      (s.notice.searchOrder s.settings.params.rotating).find? (fun d =>
        s.notice.candidate d || decide (d = .engineState) && s.notice.enables.getLsbD 1) = some c := by
  have hbarred : s.choiceBarred = true := by simp [State.choiceBarred, hw, h]
  have hcounted : (fun d => s.notice.candidate d || (d == .engineState && s.notice.enabled d)) =
      fun d => s.notice.candidate d || decide (d = .engineState) && s.notice.enables.getLsbD 1 := by
    funext d
    cases d <;> rfl
  simp only [State.chosenNotice, hbarred, if_true, hcounted, Option.filter_eq_some_iff, Bool.and_eq_true, bne_iff_ne]
  exact ⟨fun ⟨hfind, ht, he⟩ => ⟨ht, he, hfind⟩, fun ⟨ht, he, hfind⟩ => ⟨hfind, ht, he⟩⟩

/-- Settles O44: what the end of an event leaves, and the three outcomes of a free transmitter's choice. -/
theorem transmitterChooses : Obligations.TransmitterChooses := by
  refine ⟨fun s => ⟨s.commit_spec, fun h => ?_⟩, fun s hp hf => ⟨fun frame h => ?_, ?_⟩⟩
  · simpa only [State.offerTransmit_of_barred h] using s.commit_of_offer
  · simpa [State.offerTransmit_of_reply hp hf h] using s.commit_of_offer
  · refine ⟨State.chosenNotice_of_free, fun hw h c => State.chosenNotice_of_waits hw h c, fun h hc => ?_, fun c h hc => ?_⟩
    · simpa only [State.offerTransmit_of_none hp hf h hc] using s.commit_of_offer
    · obtain ⟨hlink, hnotice, hfalls⟩ := s.commit_of_offer
      rw [State.offerTransmit_of_chosen hp hf h hc] at hlink hnotice hfalls
      have hsent : (s.sendNotice c).notice = s.notice.handOver c := rfl
      obtain ⟨habsent, hlast, henables, hothers⟩ := s.notice.handOver_spec c
      rw [hlink, hfalls, hnotice, hsent]
      obtain ⟨htrip, hengine, hdone, hlow, hband, htare, hstore⟩ := hothers
      exact ⟨rfl, rfl, habsent, hlast, henables, htrip, hengine, hdone, hlow, hband, htare, hstore, rfl⟩

/-! ## The choice of a notice (R183) -/

/-- The first of a list in ascending order that passes a test is the least that passes it. -/
theorem find?_least {α : Type} {p : α → Bool} {f : α → Nat} {l : List α} (hl : l.Pairwise fun a b => f a ≤ f b) {c : α}
    (h : l.find? p = some c) : p c = true ∧ ∀ d ∈ l, p d = true → f c ≤ f d := by
  refine ⟨List.find?_some h, ?_⟩
  induction l with
  | nil => simp
  | cons a rest ih =>
    obtain ⟨ha, hrest⟩ := List.pairwise_cons.1 hl
    by_cases hp : p a = true
    · rw [List.find?_cons_of_pos hp, Option.some.injEq] at h
      subst h
      intro d hd _
      rcases List.mem_cons.1 hd with rfl | hd
      · exact le_rfl
      · exact ha d hd
    · rw [List.find?_cons_of_neg hp] at h
      intro d hd hpd
      rcases List.mem_cons.1 hd with rfl | hd
      · exact absurd hpd hp
      · exact ih hrest h d hd hpd

theorem NoticeUnit.mem_searchOrder (n : NoticeUnit) (rotating : Bool) (d : NoticeClass) : d ∈ n.searchOrder rotating := by
  cases rotating <;> cases d <;> cases h : n.lastSent <;>
    simp [NoticeUnit.searchOrder, NoticeClass.all, NoticeClass.number, h]

theorem NoticeUnit.searchOrder_fixed (n : NoticeUnit) :
    (n.searchOrder false).Pairwise fun a b => a.number ≤ b.number := by
  simp [NoticeUnit.searchOrder, NoticeClass.all, NoticeClass.number]

theorem NoticeUnit.searchOrder_rotating (n : NoticeUnit) :
    (n.searchOrder true).Pairwise fun a b =>
      (a.number + 6 - n.lastSent.number) % 7 ≤ (b.number + 6 - n.lastSent.number) % 7 := by
  cases h : n.lastSent <;> simp [NoticeUnit.searchOrder, NoticeClass.all, NoticeClass.number, h]

/-- Settles O45: each event coalesces its own record, and the choice is the first in the search order, which ascends. -/
theorem noticesCoalesceAndAreChosen : Obligations.NoticesCoalesceAndAreChosen := by
  refine ⟨fun α c => rfl, fun α c p => rfl, fun s => ⟨fun c => rfl, fun c => rfl, fun c => rfl, fun c => rfl, fun c => rfl,
    fun c => rfl, fun c => rfl⟩, fun n c => ⟨fun h => ?_, fun h => ?_, fun rotating h d => ?_⟩⟩
  · obtain ⟨hc, hleast⟩ := find?_least n.searchOrder_fixed h
    exact ⟨hc, fun d => hleast d (n.mem_searchOrder false d)⟩
  · obtain ⟨hc, hleast⟩ := find?_least n.searchOrder_rotating h
    exact ⟨hc, fun d => hleast d (n.mem_searchOrder true d)⟩
  · exact Bool.eq_false_iff.2 (List.find?_eq_none.1 h d (n.mem_searchOrder rotating d))

/-! ## The reading requests (R116, R156, R173, R174, R186) -/

/-- Settles O46: the five bodies. -/
theorem readingRequestsReply : Obligations.ReadingRequestsReply := by
  intro s tag hp hreply hinbox
  have ht : s.takesRequests := ⟨hp, hreply, hinbox⟩
  refine ⟨exec_answered .ident ht rfl rfl rfl rfl ?_, exec_answered .status ht rfl rfl rfl rfl ?_,
    fun number => exec_answered .getParam ht rfl rfl rfl rfl ?_, fun index h => exec_answered .getBand ht rfl rfl rfl rfl ?_,
    fun index h => exec_answered .getBand ht rfl rfl rfl rfl ?_, exec_answered .getTrips ht rfl rfl rfl rfl ?_⟩
  · rfl
  · cases ha : s.activeRecord <;> cases hb : s.bandInEffect <;>
      simp only [State.serve, State.statusBody, ha, hb] <;> rfl
  · show (s, s.serveGetParam number) = _
    cases hg : s.settings.params.get number.toNat <;> simp only [State.serveGetParam, hg] <;> rfl
  · show (s, s.serveGetBand index) = _
    simp only [State.serveGetBand, h, dite_true]
    rfl
  · show (s, s.serveGetBand index) = _
    simp only [State.serveGetBand, Nat.not_lt.2 h, dite_false]
    rfl
  · rfl

end Sys2Proof.Machine
end

section
/-! SUPPORT. Program requests that no dispatch follows, and the requests of override, notices, bands and saves (R43, R75 to R78, R115,
R175, R182, R188, R189). -/

namespace Sys2Proof.Machine

/-! ## HOLD (R75) -/

theorem State.serveHold_of_taken {s : State} (h : s.seq.engine ≠ .idle ∧ s.seq.engine ≠ .aborted) :
    s.serveHold = (s.holdEffect .request, .ok) := by
  cases he : s.seq.engine <;> simp_all [State.serveHold]

theorem State.serveHold_of_refused {s : State} (h : s.seq.engine ∈ [Engine.idle, .aborted]) :
    s.serveHold = (s, .state) := by
  simp only [List.mem_cons, List.not_mem_nil, or_false] at h
  obtain h | h := h <;> simp only [State.serveHold, h]

/-- Settles O51, group by group of the engine states that a hold distinguishes. -/
theorem holdHoldsEngine : Obligations.HoldHoldsEngine := by
  intro s tag ht
  refine ⟨fun h => ?_, fun h => ?_, fun h => ?_, fun h => ?_⟩ <;> refine exec_answered .hold ht rfl rfl rfl rfl ?_ <;>
    show resultBody s.serveHold = _
  · have htaken : s.seq.engine ≠ .idle ∧ s.seq.engine ≠ .aborted := by constructor <;> intro he <;> simp [he] at h
    rw [State.serveHold_of_taken htaken, State.holdEffect_of_runsProgram .request (by simpa using h)]
    rfl
  · rw [State.serveHold_of_taken (by rw [h]; decide), State.holdEffect_of_starved .request h]
    rfl
  · have htaken : s.seq.engine ≠ .idle ∧ s.seq.engine ≠ .aborted := by constructor <;> intro he <;> simp [he] at h
    rw [State.serveHold_of_taken htaken, State.holdEffect_eq_self .request]
    · rfl
    · exact List.mem_cons_of_mem _ (by simp only [List.mem_cons, List.not_mem_nil, or_false] at h ⊢; tauto)
  · rw [State.serveHold_of_refused h]
    rfl

/-! ## CANCEL (R77, R83, R21) -/

theorem State.flush_strokeStop_spec (s : State) :
    s.flush.strokeStop.queue = ⟨[], ⟨s.interp.x, s.interp.y, s.interp.heading, s.queue.tail.feed⟩⟩ ∧
    s.flush.strokeStop.interp = { s.interp with progress := 0, turnPending := false } ∧
    (s.stroke.state ∈ [StrokeState.starting, .running, .stalled] → s.flush.strokeStop.stroke.state = .stopping ∧
      s.flush.strokeStop.stroke.stopTimer = some s.settings.params.strokeStopTimeout) ∧
    (s.stroke.state ∈ [StrokeState.stopping, .stopped] → s.flush.strokeStop.stroke = s.stroke) := by
  obtain ⟨hturns, hrests⟩ := s.flush.strokeStop_spec
  refine ⟨by simp [State.flush], by simp [State.flush], fun h => ?_, fun h => ?_⟩
  · obtain ⟨hstate, -, htimer, -⟩ := hturns (by simpa using h)
    exact ⟨hstate, htimer.trans (by simp)⟩
  · rw [hrests (by simpa using h)]
    simp

theorem State.serveCancel_of_moving {s : State}
    (h : s.seq.engine ∈ [Engine.running, .pivoting, .dwelling, .holding, .halting]) :
    s.serveCancel = ({ s with
      seq := { s.seq with engine := .cancelling, resume := none, dwellCount := 0 }
      notice := { s.notice with
        engineState := Pending.coalesce s.notice.engineState ⟨.cancelling, s.seq.engine, .request, none⟩ } }, .ok) := by
  have hserve : s.serveCancel =
      ((s.setSeq { s.seq with resume := none, dwellCount := 0 }).enterEngine .cancelling .request none, .ok) := by
    simp only [List.mem_cons, List.not_mem_nil, or_false] at h
    obtain h | h | h | h | h := h <;> simp only [State.serveCancel, h]
  have hne : (s.setSeq { s.seq with resume := none, dwellCount := 0 }).seq.engine ≠ .cancelling := by
    simp only [State.setSeq_seq]
    intro he
    simp [he] at h
  rw [hserve, State.enterEngine_of_ne _ _ hne]
  rfl

theorem State.serveCancel_of_resting {s : State} (h : s.seq.engine ∈ [Engine.held, .halted, .starved]) :
    s.serveCancel = (s.cancelFlush .request, .ok) := by
  simp only [List.mem_cons, List.not_mem_nil, or_false] at h
  obtain h | h | h := h <;> simp only [State.serveCancel, h]

theorem State.serveCancel_of_idle {s : State} (h : s.seq.engine = .idle) : s.serveCancel = (s.flush.strokeStop, .ok) := by
  simp only [State.serveCancel, h]

/-! ## RECOVER (R78, R139) -/

theorem SlotState.recent_iff (k : SlotState) :
    k.recent = true ↔ (k.active = true → k.actual ≠ none ∧ k.misses ≤ 2) := by
  cases ha : k.active <;> simp [SlotState.recent, ha, Option.isSome_iff_ne_none]

theorem Bus.allRecent_iff (b : Bus) :
    b.allRecent = true ↔ ∀ k, (b.get k).active = true → (b.get k).actual ≠ none ∧ (b.get k).misses ≤ 2 := by
  simp only [Bus.allRecent, Bool.and_eq_true, SlotState.recent_iff]
  exact ⟨fun ⟨⟨⟨hx, hy⟩, hh⟩, hs⟩ k => by cases k <;> assumption, fun h => ⟨⟨⟨h .x, h .y⟩, h .h⟩, h .s⟩⟩

theorem SlotState.recovered_of_active {k : SlotState} {a kept : Int} (h : k.active = true) (ha : k.actual = some a) :
    k.recovered kept = a := by simp [SlotState.recovered, h, ha]

theorem SlotState.recovered_of_inactive {k : SlotState} {kept : Int} (h : k.active = false) : k.recovered kept = kept := by
  simp [SlotState.recovered, h]

theorem SlotState.adoptIfActive_adopted {k : SlotState} (h : k.active = true) : k.adoptIfActive.adopted = true := by
  simp [SlotState.adoptIfActive, h]

theorem State.recoverEffect_seq (s : State) : s.recoverEffect.seq = { s.seq with engine := .idle, resume := none } := by
  rw [State.recoverEffect, State.enterEngine_seq]
  simp [State.setResume]

theorem State.recoverEffect_engineState {s : State} (h : s.seq.engine = .aborted) :
    s.recoverEffect.notice.engineState =
      Pending.coalesce s.notice.engineState ⟨.idle, .aborted, .request, none⟩ := by
  simp [State.recoverEffect, State.enterEngine_engineState, State.setResume, h]

theorem State.recoverEffect_interp (s : State) : s.recoverEffect.interp = { s.interp with
    x := s.bus.x.recovered s.interp.x, y := s.bus.y.recovered s.interp.y
    heading := if s.bus.h.active then ((s.bus.h.actual).map fun a => BitVec.ofInt 16 a).getD s.interp.heading
      else s.interp.heading
    feed := 0, progress := 0, turn := none } := by
  simp [State.recoverEffect, State.setResume]

theorem State.recoverEffect_queue (s : State) : s.recoverEffect.queue =
    ⟨s.queue.records, ⟨s.recoverEffect.interp.x, s.recoverEffect.interp.y, s.recoverEffect.interp.heading,
      s.queue.tail.feed⟩⟩ := by
  simp [State.recoverEffect, State.setResume]

/-- RECOVER adopts each active axis (R139). -/
theorem State.recoverEffect_adopts {s : State} {k : Slot} (hk : k ≠ .s) (ha : (s.bus.get k).active = true) :
    (s.recoverEffect.bus.get k).adopted = true := by
  cases k with
  | s => exact absurd rfl hk
  | x => simpa [State.recoverEffect, State.setResume, Bus.get] using SlotState.adoptIfActive_adopted ha
  | y => simpa [State.recoverEffect, State.setResume, Bus.get] using SlotState.adoptIfActive_adopted ha
  | h => simpa [State.recoverEffect, State.setResume, Bus.get] using SlotState.adoptIfActive_adopted ha

/-- Settles O53, by the table of CANCEL and the checks of RECOVER in their order. -/
theorem cancelFlushesAndRecoverAdopts : Obligations.CancelFlushesAndRecoverAdopts := by
  intro s tag ht
  refine ⟨fun h => ?_, fun h => ?_, fun h => ?_, fun h => ?_, fun h => ?_, fun h hl => ?_, fun h hl ⟨k, ha, hk⟩ => ?_,
    fun h hl hk => ?_⟩
  · refine exec_answered .cancel ht rfl rfl rfl rfl ?_
    show resultBody s.serveCancel = _
    rw [State.serveCancel_of_moving h]
    rfl
  · refine exec_answered .cancel ht rfl rfl rfl rfl ?_
    show resultBody s.serveCancel = _
    simp only [State.serveCancel, h]
    rfl
  · refine exec_answered .cancel ht rfl rfl rfl rfl ?_
    show resultBody s.serveCancel = _
    simp only [State.serveCancel, h]
    rfl
  · by_cases hidle : s.seq.engine = .idle
    · obtain ⟨hqueue, hinterp, hturns, hrests⟩ := s.flush_strokeStop_spec
      refine ⟨s.flush.strokeStop, exec_answered .cancel ht rfl rfl rfl rfl ?_, hqueue, hinterp, by simp [hidle],
        fun _ => by simp, fun hne => absurd hidle hne, by simp, by simp, hturns, hrests, by simp, by simp, by simp, by simp,
        by simp, by simp⟩
      show resultBody s.serveCancel = _
      rw [State.serveCancel_of_idle hidle]
      rfl
    · have hrest : s.seq.engine ∈ [Engine.held, .halted, .starved] := by
        simp only [List.mem_cons, List.not_mem_nil, or_false] at h ⊢; tauto
      obtain ⟨hseq, hqueue, hinterp, hnotice, hturns, hrests⟩ := s.cancelFlush_spec .request
      refine ⟨s.cancelFlush .request, exec_answered .cancel ht rfl rfl rfl rfl ?_, hqueue, hinterp, by rw [hseq],
        fun hi => absurd hi hidle, fun hne => ⟨by rw [hseq], by rw [hseq], by rw [hseq]; rfl, ?_⟩, by simp, by simp, hturns,
        hrests, by simp, by simp, by simp, by simp, by simp, by simp⟩
      · show resultBody s.serveCancel = _
        rw [State.serveCancel_of_resting hrest]
        rfl
      · rw [hnotice hne, hseq]
  · refine exec_answered .recover ht rfl rfl rfl rfl ?_
    show resultBody s.serveRecover = _
    rw [State.serveRecover, if_pos h]
    rfl
  · refine exec_answered .recover ht rfl rfl rfl rfl ?_
    show resultBody s.serveRecover = _
    rw [State.serveRecover, if_neg (not_not.2 h), if_pos hl]
    rfl
  · have hrecent : s.bus.allRecent = false := Bool.eq_false_iff.2 fun hr => by
      obtain ⟨hactual, hmisses⟩ := (Bus.allRecent_iff _).1 hr k ha
      exact hk.elim hactual fun hm => by omega
    refine exec_answered .recover ht rfl rfl rfl rfl ?_
    show resultBody s.serveRecover = _
    rw [State.serveRecover, if_neg (not_not.2 h), if_neg hl, if_pos (by rw [hrecent]; rfl)]
    rfl
  · have hinterp := s.recoverEffect_interp
    refine ⟨s.recoverEffect, exec_answered .recover ht rfl rfl rfl rfl ?_, s.recoverEffect_seq, by rw [hinterp], by rw [hinterp],
      by rw [hinterp], fun a hx ha => ?_, fun a hy ha => ?_, fun a hh ha => ?_, fun hx => ?_, fun hy => ?_, fun hh => ?_,
      s.recoverEffect_queue, fun k hs ha => State.recoverEffect_adopts hs ha, State.recoverEffect_engineState h, by simp,
      by simp, by simp, by simp, by simp, by simp⟩
    · show resultBody s.serveRecover = _
      rw [State.serveRecover, if_neg (not_not.2 h), if_neg hl, if_neg (by rw [(Bus.allRecent_iff _).2 hk]; decide)]
      rfl
    · rw [hinterp]; exact SlotState.recovered_of_active hx ha
    · rw [hinterp]; exact SlotState.recovered_of_active hy ha
    · rw [hinterp]; simp [hh, ha]
    · rw [hinterp]; exact SlotState.recovered_of_inactive hx
    · rw [hinterp]; exact SlotState.recovered_of_inactive hy
    · rw [hinterp]; simp [hh]

/-! ## OVERRIDE, NOTICE_MASK and RESET (R43, R175, R182) -/

/-- Which classes hold a record, class by class. -/
def pendingOf (trip engineState segmentDone queueLow band tareDone storeDone : Bool) : NoticeClass → Bool
  | .trip => trip
  | .engineState => engineState
  | .segmentDone => segmentDone
  | .queueLow => queueLow
  | .band => band
  | .tareDone => tareDone
  | .storeDone => storeDone

theorem pendingOf_set : ∀ a b c d e f g : Bool,
    NoticeClass.all.foldl (fun acc k => if pendingOf a b c d e f g k then acc ||| byte (2 ^ k.number) else acc) 0 =
      byte (a.toNat + 2 * b.toNat + 4 * c.toNat + 8 * d.toNat + 16 * e.toNat + 32 * f.toNat + 64 * g.toNat) := by
  decide

/-- The set of pending classes, bit n for class n. -/
theorem NoticeUnit.pendingSet_eq (n : NoticeUnit) : n.pendingSet =
    byte (n.trip.isSome.toNat + 2 * n.engineState.isSome.toNat + 4 * n.segmentDone.isSome.toNat +
      8 * n.queueLow.isSome.toNat + 16 * n.band.isSome.toNat + 32 * n.tareDone.isSome.toNat +
      64 * n.storeDone.isSome.toNat) := by
  have hpicks : n.isPending = pendingOf n.trip.isSome n.engineState.isSome n.segmentDone.isSome n.queueLow.isSome
      n.band.isSome n.tareDone.isSome n.storeDone.isSome := by
    funext c
    cases c <;> rfl
  rw [NoticeUnit.pendingSet, hpicks]
  exact pendingOf_set _ _ _ _ _ _ _

theorem Engine.resettable_iff (e : Engine) : e.resettable = true ↔ e ∈ [Engine.idle, .halted, .aborted] := by
  cases e <;> simp [Engine.resettable]

/-- Settles O54: each request's one write, and the checks of RESET in their order. -/
theorem overrideMaskAndResetRequests : Obligations.OverrideMaskAndResetRequests := by
  intro s tag value ht
  refine ⟨?_, ?_, fun h => ?_, fun h hs => ?_, fun h hs => ?_⟩
  · refine exec_answered .override ht rfl rfl rfl rfl ?_
    have hclamp : clampNat 0 150 value.toNat = min value.toNat 150 := by simp [clampNat]
    have hcode : (Result.okOr (decide (min value.toNat 150 ≠ value.toNat))).code =
        if value.toNat ≤ 150 then 0x00 else 0x01 := by
      by_cases hv : value.toNat ≤ 150
      · rw [if_pos hv, Nat.min_eq_left hv]
        simp [Result.okOr, Result.code]
      · rw [if_neg hv, Nat.min_eq_right (by omega)]
        simp [Result.okOr, Result.code, show 150 ≠ value.toNat by omega]
    show s.overrideReply value = _
    simp only [State.overrideReply, State.serveOverride, hclamp, hcode]
    rfl
  · refine exec_answered .noticeMask ht rfl rfl rfl rfl ?_
    show s.serveNoticeMask value = _
    simp only [State.serveNoticeMask, NoticeUnit.pendingSet_eq, State.setNotice_notice, BitVec.toNat_ofNat]
    rfl
  · refine exec_answered .reset ht rfl rfl rfl rfl ?_
    have hr : s.seq.engine.resettable = false := Bool.eq_false_iff.2 (mt (Engine.resettable_iff _).1 h)
    show resultBody s.serveReset = _
    rw [State.serveReset, hr]
    rfl
  · refine exec_answered .reset ht rfl rfl rfl rfl ?_
    show resultBody s.serveReset = _
    rw [State.serveReset, (Engine.resettable_iff _).2 h, if_neg (by decide), if_pos hs]
    rfl
  · refine exec_answered .reset ht rfl rfl rfl rfl ?_
    show resultBody s.serveReset = _
    rw [State.serveReset, (Engine.resettable_iff _).2 h, if_neg (by decide), if_neg hs]
    rfl

/-! ## SET_BAND (R115) -/

/-- A 16-bit figure read from its two bytes. -/
theorem readBE_be16 (h : Half) : readBE (be16 h.toNat) = h.toNat := by
  have := h.isLt
  simp only [readBE, be16, List.foldl_cons, List.foldl_nil, byte_toNat]
  omega

/-- The four fields of a SET_BAND body. -/
theorem readBand_body (index : Byte) (a b c d : Half) :
    readBand (index :: be16 a.toNat ++ be16 b.toNat ++ be16 c.toNat ++ be16 d.toNat) =
      ⟨a.toNat, b.toNat, c.toNat, d.toNat⟩ := by
  simp only [readBand, BandEntry.mk.injEq]
  exact ⟨readBE_be16 a, readBE_be16 b, readBE_be16 c, readBE_be16 d⟩

/-- The order of the ceilings against each neighbour by its index. -/
theorem bandOrdered_iff_neighbours (b : Vector BandEntry 8) (i : Fin 8) (c : Nat) : bandOrdered b i c = true ↔
    (∀ j : Fin 8, j.val + 1 = i.val → (b[j]).ceiling < c) ∧ (∀ j : Fin 8, i.val + 1 = j.val → c < (b[j]).ceiling) := by
  rw [bandOrdered_iff]
  refine and_congr ⟨fun h j hj => ?_, fun h h0 => ?_⟩ ⟨fun h j hj => ?_, fun h h7 => ?_⟩
  · have hp : i.val - 1 = j.val := by omega
    have hlt := h (by omega)
    simp only [hp] at hlt
    exact hlt
  · exact h ⟨i.val - 1, by omega⟩ (by simp only; omega)
  · have hlt := h (by omega)
    simp only [hj] at hlt
    exact hlt
  · exact h ⟨i.val + 1, by omega⟩ rfl

/-- Settles O56: the three outcomes of R115. -/
theorem setBandKeepsOrder : Obligations.SetBandKeepsOrder := by
  intro s tag index ceiling bite frequency feedCap ht
  dsimp only
  have hread := readBand_body index ceiling bite frequency feedCap
  have hclamped : (⟨ceiling.toNat, bite.toNat, frequency.toNat, feedCap.toNat⟩ : BandEntry).clamped =
      ⟨max 1 ceiling.toNat, max 50 (min bite.toNat 4000), max 200 (min frequency.toNat 1200),
        max 10 (min feedCap.toNat 5000)⟩ := by
    have := ceiling.isLt
    simp only [BandEntry.clamped, clampNat, BandEntry.mk.injEq, and_true]
    omega
  have hserve : s.serve .setBand (index :: be16 ceiling.toNat ++ be16 bite.toNat ++ be16 frequency.toNat ++
      be16 feedCap.toNat) = s.serveSetBand index ⟨ceiling.toNat, bite.toNat, frequency.toNat, feedCap.toNat⟩ := by
    rw [← hread]
    rfl
  refine ⟨fun h => ?_, fun i hi => ⟨fun h => ?_, fun h => ?_⟩⟩ <;> refine exec_answered .setBand ht rfl rfl rfl rfl ?_ <;>
    rw [hserve]
  · rw [State.serveSetBand, dif_neg (Nat.not_lt.2 h)]
    rfl
  · have hlt : index.toNat < 8 := by omega
    obtain rfl : i = ⟨index.toNat, hlt⟩ := Fin.ext hi
    rw [State.serveSetBand, dif_pos hlt]
    simp only [hclamped]
    rw [if_pos ((bandOrdered_iff_neighbours _ _ _).2 h)]
    refine Prod.ext rfl ?_
    simp only [List.cons.injEq, and_true]
    split <;> rename_i heq <;> simp [heq, Result.okOr, Result.code]
  · have hlt : index.toNat < 8 := by omega
    obtain rfl : i = ⟨index.toNat, hlt⟩ := Fin.ext hi
    rw [State.serveSetBand, dif_pos hlt]
    simp only [hclamped]
    rw [if_neg (mt (bandOrdered_iff_neighbours _ _ _).1 h)]
    rfl

/-! ## SAVE and its events (R188, R189) -/

theorem State.commit_twoWire (s : State) : s.commit.twoWire = s.twoWireOf := by rw [s.commit_spec]

/-- Settles O60: the checks of SAVE in their order, the three events on a save in flight and without one, and the line. -/
theorem saveWritesPages : Obligations.SaveWritesPages := by
  refine ⟨fun s tag ht => ⟨fun h => ?_, fun h hp => ?_, fun h hp hs => ?_, fun h hp hs => ?_⟩,
    fun s v hv => ⟨fun h => ?_, fun h => ?_, fun c hc => ?_⟩, fun s c hs hc => ?_, fun s hp => ⟨fun hs => ?_, fun v hs => ?_⟩⟩
  · refine exec_answered .save ht rfl rfl rfl rfl ?_
    show resultBody s.serveSave = _
    rw [State.serveSave, if_pos h]
    rfl
  · refine exec_answered .save ht rfl rfl rfl rfl ?_
    show resultBody s.serveSave = _
    rw [State.serveSave, if_neg (not_not.2 h), if_pos (by rw [hp]; rfl)]
    rfl
  · refine exec_answered .save ht rfl rfl rfl rfl ?_
    show resultBody s.serveSave = _
    rw [State.serveSave, if_neg (not_not.2 h), if_neg (by rw [hp]; decide), if_pos hs]
    rfl
  · refine exec_answered .save ht rfl rfl rfl rfl ?_
    show resultBody s.serveSave = _
    rw [State.serveSave, if_neg (not_not.2 h), if_neg (by rw [hp]; decide), if_neg hs]
    rfl
  · rw [exec_savePageWritten, State.pageWritten, hv]
    simp only [Nat.not_le.2 h, if_false]
    rfl
  · rw [exec_savePageWritten, State.pageWritten, hv]
    simp only [h, le_refl, if_true]
    rfl
  · obtain rfl | rfl := hc
    · rw [exec_savePollTimeout, State.saveFails, hv]
      rfl
    · rw [exec_saveByteRefused, State.saveFails, hv]
      rfl
  · obtain rfl | rfl | rfl := hc
    · rw [exec_savePageWritten, State.pageWritten, hs]
    · rw [exec_savePollTimeout, State.saveFails, hs]
    · rw [exec_saveByteRefused, State.saveFails, hs]
  · rw [s.commit_twoWire, State.twoWireOf, hp, hs]
  · rw [s.commit_twoWire, State.twoWireOf, hp, hs]
    rfl

end Sys2Proof.Machine
end

section
/-! SUPPORT. The dispatch from rest (R70 to R72, R85), and the requests that end in it: START (R74) and RESUME (R76). -/

namespace Sys2Proof.Machine

/-! ## The stroke start (R92) -/

theorem StrokeState.turns_or_not (x : StrokeState) :
    x ∈ [StrokeState.starting, .running, .stalled] ∨ x ∈ [StrokeState.stopped, .stopping] := by cases x <;> simp

theorem StrokeState.not_turns {x : StrokeState} (h : x ∈ [StrokeState.stopped, .stopping]) :
    x ∈ [StrokeState.stopping, .stopped] := by cases x <;> simp_all

theorem State.strokeStart_asked (s : State) : s.StrokeStartAsked s.strokeStart := by
  obtain ⟨hstarts, hstands, -⟩ := s.strokeStart_spec
  refine ⟨fun h => ?_, fun h => by rw [hstands h]⟩
  obtain ⟨hstate, hstop, hstart, -⟩ := hstarts h
  exact ⟨hstate, hstart, hstop⟩

theorem State.strokeStart_turns (s : State) : s.strokeStart.stroke.state ∈ [StrokeState.starting, .running, .stalled] := by
  obtain ⟨hstarts, hstands, -⟩ := s.strokeStart_spec
  obtain h | h := s.stroke.state.turns_or_not
  · rw [hstands h]; exact h
  · rw [(hstarts h).1]; decide

/-- A start request leaves no stall condition where there was none, and then touches neither the sources nor the bus. -/
theorem State.strokeStart_quiet {s : State} (h : s.stroke.stall = false) :
    s.strokeStart.stroke.stall = false ∧ s.strokeStart.trip = s.trip ∧ s.strokeStart.bus = s.bus := by
  obtain ⟨-, -, hquiet⟩ := s.strokeStart_spec
  obtain ⟨htrip, hbus, -⟩ := hquiet h
  refine ⟨?_, htrip, hbus⟩
  cases hs : s.stroke.state <;> simp [State.strokeStart, State.strokeStart.start, hs, h, State.setStall]

theorem State.StrokeStartAsked.congr {s t u v : State} (h : s.StrokeStartAsked u) (hs : t.stroke = s.stroke)
    (hp : t.settings.params = s.settings.params) (hu : v.stroke = u.stroke) : t.StrokeStartAsked v := by
  simpa only [State.StrokeStartAsked, hs, hp, hu] using h

/-- A second start request adds nothing to the first. -/
theorem State.StrokeStartAsked.trans {s t u : State} (h : s.StrokeStartAsked t) (h' : t.StrokeStartAsked u) :
    s.StrokeStartAsked u := by
  obtain ⟨hstarts, hstands⟩ := h
  obtain ⟨-, hstands'⟩ := h'
  refine ⟨fun hs => ?_, fun hs => ?_⟩
  · obtain ⟨hstate, hstart, hstop⟩ := hstarts hs
    rw [hstands' (by rw [hstate]; decide)]
    exact ⟨hstate, hstart, hstop⟩
  · have ht := hstands hs
    rw [hstands' (by rw [ht]; exact hs), ht]

/-! ## The dispatch from a state at rest (R70, R71, R72, R85) -/

/-- An entry into RUNNING, PIVOTING or DWELLING from another engine state, with the stroke start (R72). -/
structure State.EntersProgram (s u : State) (e : Engine) (c : Cause) : Prop where
  engine : u.seq.engine = e
  noted : u.notice.engineState = Pending.coalesce s.notice.engineState ⟨e, s.seq.engine, c, none⟩
  started : s.StrokeStartAsked u
  quiet : s.stroke.stall = false → u.trip = s.trip ∧ u.bus = s.bus
  queue : u.queue = s.queue

theorem State.enterProgram_enters {s : State} {e : Engine} (c : Cause) (h : s.seq.engine.runsProgram = false)
    (he : e.runsProgram = true) : s.EntersProgram (s.enterProgram e c) e c := by
  obtain ⟨hengine, hstroke, htrip, hbus, hnotice⟩ := s.enterProgram_spec e c
  rw [if_neg (by rw [h]; decide)] at hstroke htrip hbus
  refine ⟨hengine, by rw [hnotice, if_neg (fun heq => by rw [heq, he] at h; cases h)],
    s.strokeStart_asked.congr rfl rfl hstroke, fun hquiet => ?_, by simp⟩
  obtain ⟨-, htrip', hbus'⟩ := State.strokeStart_quiet hquiet
  exact ⟨htrip.trans htrip', hbus.trans hbus'⟩

theorem State.EntersProgram.congr {s t u : State} {e : Engine} {c : Cause} (h : t.EntersProgram u e c)
    (he : t.seq.engine = s.seq.engine) (hn : t.notice.engineState = s.notice.engineState) (hs : t.stroke = s.stroke)
    (hp : t.settings.params = s.settings.params) (ht : t.trip = s.trip) (hb : t.bus = s.bus) (hq : t.queue = s.queue) :
    s.EntersProgram u e c := by
  refine ⟨h.engine, ?_, h.started.congr hs.symm hp.symm rfl, fun hstall => ?_, h.queue.trans hq⟩
  · rw [h.noted, he, hn]
  · obtain ⟨htrip, hbus⟩ := h.quiet (by rw [hs]; exact hstall)
    exact ⟨htrip.trans ht, hbus.trans hb⟩

section
variable {s : State} (c : Cause) (keep : Bool) (hrest : s.seq.engine.runsProgram = false) {r : Record} {rest : List Record}
  (hq : s.queue.records = r :: rest)
include hrest hq

theorem State.dispatch_runs {m : Moving} (hb : r.body = .moving m) (hp : s.interp.turnPending = false) :
    s.EntersProgram (s.dispatch c keep) .running c ∧ (s.dispatch c keep).interp = s.interp := by
  rw [s.dispatch_running c keep r rest m hq hb hp]
  exact ⟨State.enterProgram_enters c hrest rfl, by simp⟩

theorem State.dispatch_pivots {m : Moving} (hb : r.body = .moving m) (hp : s.interp.turnPending = true) :
    s.EntersProgram (s.dispatch c keep) .pivoting c ∧ (s.dispatch c keep).interp =
      { s.interp with feed := 0, turn := some ⟨decide (0 < m.turn), m.turn.natAbs⟩ } := by
  rw [s.dispatch_pivoting c keep r rest m hq hb hp]
  refine ⟨State.EntersProgram.congr (State.enterProgram_enters c ?_ rfl) rfl rfl rfl rfl rfl rfl rfl, by simp⟩
  exact hrest

theorem State.dispatch_dwells {d : Nat} (hb : r.body = .dwell d) :
    s.EntersProgram (s.dispatch c keep) .dwelling c ∧ (s.dispatch c keep).interp = s.interp ∧
    (s.dispatch c keep).seq.dwellCount = if keep then s.seq.dwellCount else 0 := by
  rw [s.dispatch_dwelling c keep r rest d hq hb]
  cases keep
  · refine ⟨State.EntersProgram.congr (State.enterProgram_enters c ?_ rfl) rfl rfl rfl rfl rfl rfl rfl, by simp, by simp⟩
    exact hrest
  · exact ⟨State.enterProgram_enters c hrest rfl, by simp, by simp⟩

end

/-- An END at the head of a queue that the engine leaves a rest for (R71): it completes, the stroke stop is requested, and the engine is
IDLE. -/
structure State.EndsProgram (s u : State) (c : Cause) (rest : List Record) : Prop where
  engine : u.seq.engine = .idle
  resume : u.seq.resume = none
  starve : u.seq.starve = s.seq.starve
  noted : u.notice.engineState = Pending.coalesce s.notice.engineState ⟨.idle, s.seq.engine, c, none⟩
  queue : u.queue = ⟨rest, s.queue.tail⟩
  stopped : s.StrokeStopAsked u
  stands : s.stroke.state ∈ [StrokeState.stopping, .stopped] → u.stroke = s.stroke
  quiet : u.trip = s.trip ∧ u.bus = s.bus

theorem State.dispatch_ends {s : State} (c : Cause) (keep : Bool) (hidle : s.seq.engine ≠ .idle) {r : Record}
    {rest : List Record} (hq : s.queue.records = r :: rest) (hb : r.body = .programEnd) :
    s.EndsProgram (s.dispatch c keep) c rest := by
  rw [s.dispatch_end c keep r rest hq hb, if_neg hidle]
  have hstop : s.StrokeStopAsked s.completeHead.strokeStop :=
    s.completeHead.strokeStop_asked.congr (by simp) (by simp) rfl rfl rfl
  constructor
  case queue => simpa [State.setResume] using (s.completeHead_spec r rest hq).1
  case stopped => exact hstop.congr rfl rfl (by simp [State.setResume]) (by simp [State.setResume]) (by simp [State.setResume])
  case stands =>
    intro h
    have hstands := s.completeHead.strokeStop_spec.2 (by simpa using h)
    simp [State.setResume, hstands]
  case noted => simp [State.enterEngine_engineState, State.setResume, hidle]
  all_goals simp [State.enterEngine_seq, State.setResume]

/-- The dispatch on an empty queue (R85): STARVED, with the timer loaded, or expired with the stroke stop requested. -/
structure State.EntersStarved (s u : State) : Prop where
  engine : u.seq.engine = .starved
  noted : u.notice.engineState = Pending.coalesce s.notice.engineState ⟨.starved, s.seq.engine, .starve, none⟩
  runs : 0 < s.settings.params.starveTimeout →
    u.seq.starve = .running s.settings.params.starveTimeout ∧ u.stroke = s.stroke
  expires : s.settings.params.starveTimeout = 0 →
    u.seq.starve = .expired ∧ u.stroke.state ∈ [StrokeState.stopping, .stopped]
  kept : u.queue = s.queue ∧ u.interp = s.interp ∧ u.trip = s.trip ∧ u.bus = s.bus ∧ u.seq.resume = s.seq.resume

theorem State.dispatch_starves {s : State} (c : Cause) (keep : Bool) (he : s.seq.engine ≠ .starved)
    (hq : s.queue.records = []) : s.EntersStarved (s.dispatch c keep) := by
  rw [s.dispatch_starved c keep hq]
  obtain ⟨hengine, hruns, -, hnotice⟩ := s.enterStarved_spec
  obtain ⟨-, -, -, hexpires⟩ := State.enterStarved_starves he
  refine ⟨hengine, by rw [hnotice, if_neg he], hruns, fun hz => ?_, by simp⟩
  obtain ⟨hexpired, -, hstate⟩ := hexpires hz
  exact ⟨hexpired, hstate⟩

/-! ## START (R74) -/

theorem State.serveStart_of_ready {s : State} (he : s.seq.engine = .idle) (hq : s.queue.records ≠ [])
    (hactive : s.bus.allActive = true) (hadopted : s.bus.allAdopted = true) : s.serveStart =
      if s.trip.level ≠ .none then (s, .tripped)
      else if s.stroke.tareInFlight then (s, .tareActive)
      else (s.dispatch .request false, .ok) := by
  have hempty : s.queue.records.isEmpty = false := by simpa using hq
  simp [State.serveStart, he, hempty, hactive, hadopted]

/-- Settles O50: the checks in their order, then the dispatch from IDLE on each kind of head. -/
theorem startDispatches : Obligations.StartDispatches := by
  intro s tag ht
  refine ⟨fun h => ?_, fun he hq hb => ?_, fun he hq ha hb hl => ?_, fun he hq ha hb hl htare => ?_,
    fun r rest hq he ha hb hl htare => ?_⟩
  · refine exec_answered .start ht rfl rfl rfl rfl ?_
    have hserve : s.serveStart = (s, .state) := by
      by_cases he : s.seq.engine = .idle
      · simp [State.serveStart, he, h.resolve_left (not_not.2 he)]
      · rw [State.serveStart, if_pos he]
    show resultBody s.serveStart = _
    rw [hserve]
    rfl
  · refine exec_answered .start ht rfl rfl rfl rfl ?_
    have hempty : s.queue.records.isEmpty = false := by simpa using hq
    have hserve : s.serveStart = (s, .axesIncomplete) := by
      simp only [State.serveStart, he, hempty, hb, ne_eq, not_true_eq_false, if_false, Bool.false_eq_true, Bool.not_false,
        if_true]
    show resultBody s.serveStart = _
    rw [hserve]
    rfl
  · refine exec_answered .start ht rfl rfl rfl rfl ?_
    show resultBody s.serveStart = _
    rw [State.serveStart_of_ready he hq ha hb, if_pos hl]
    rfl
  · refine exec_answered .start ht rfl rfl rfl rfl ?_
    show resultBody s.serveStart = _
    rw [State.serveStart_of_ready he hq ha hb, if_neg (not_not.2 hl), if_pos htare]
    rfl
  · have hserve : s.serve .start [] = (s.dispatch .request false, [0x00]) := by
      show resultBody s.serveStart = _
      rw [State.serveStart_of_ready he (by simp [hq]) ha hb, if_neg (not_not.2 hl), if_neg (by simp [htare])]
      rfl
    have hrest : s.seq.engine.runsProgram = false := by rw [he]; rfl
    have hend (hbody : r.body = .programEnd) : s.dispatch .request false = s.completeHead := by
      rw [s.dispatch_end _ _ r rest hq hbody, if_pos he]
    have hruns (m : Moving) (hbody : r.body = .moving m) := State.dispatch_runs .request false hrest hq hbody
    have hpivots (m : Moving) (hbody : r.body = .moving m) := State.dispatch_pivots .request false hrest hq hbody
    have hdwells (d : Nat) (hbody : r.body = .dwell d) := State.dispatch_dwells .request false hrest hq hbody
    have henters (hbody : r.body ≠ .programEnd) : ∃ e, s.EntersProgram (s.dispatch .request false) e .request := by
      cases hr : r.body with
      | moving m =>
        cases hp : s.interp.turnPending
        · exact ⟨_, (hruns m hr hp).1⟩
        · exact ⟨_, (hpivots m hr hp).1⟩
      | dwell d => exact ⟨_, (hdwells d hr).1⟩
      | programEnd => exact absurd hr hbody
    have hseq : (s.dispatch .request false).seq.resume = s.seq.resume ∧
        (s.dispatch .request false).seq.starve = s.seq.starve := by
      cases hr : r.body with
      | moving m =>
        cases hp : s.interp.turnPending
        · rw [s.dispatch_running _ _ r rest m hq hr hp]; simp
        · rw [s.dispatch_pivoting _ _ r rest m hq hr hp]; simp
      | dwell d => rw [s.dispatch_dwelling _ _ r rest d hq hr]; simp
      | programEnd => rw [hend hr]; simp
    obtain ⟨hresume, hstarve⟩ := hseq
    refine ⟨s.dispatch .request false, exec_answered .start ht rfl rfl rfl rfl hserve, fun m hr hp => ?_, fun m hr hp => ?_,
      fun d hr => ?_, fun hr => ?_, fun hr => ?_, hresume, hstarve, by simp, by simp, by simp, by simp, fun hstall => ?_⟩
    · obtain ⟨henter, hinterp⟩ := hruns m hr hp
      exact ⟨henter.engine, hinterp⟩
    · obtain ⟨henter, hinterp⟩ := hpivots m hr hp
      exact ⟨henter.engine, hinterp⟩
    · obtain ⟨henter, hinterp, hcount⟩ := hdwells d hr
      exact ⟨henter.engine, hcount, hinterp⟩
    · obtain ⟨e, henter⟩ := henters hr
      obtain ⟨hstarts, hstands⟩ := henter.started
      exact ⟨henter.queue, by rw [henter.noted, henter.engine, he], hstarts, hstands⟩
    · rw [hend hr]
      obtain ⟨hqueue, -, hdone⟩ := s.completeHead_spec r rest hq
      exact ⟨hqueue, by simp, by simp, by simp, hdone⟩
    · by_cases hr : r.body = .programEnd
      · rw [hend hr]
        simp
      · obtain ⟨e, henter⟩ := henters hr
        exact henter.quiet hstall

/-! ## RESUME (R76) -/

/-- The state in which a RESUME acts on its memory: that of the request, with the stroke start of HALTED made (R76) and the memory
cleared (R73). -/
def State.resumed (s : State) : State := (if s.seq.engine = .halted then s.strokeStart else s).setResume none

theorem State.resumed_fields (s : State) :
    s.resumed.seq.engine = s.seq.engine ∧ s.resumed.seq.resume = none ∧ s.resumed.seq.dwellCount = s.seq.dwellCount ∧
    s.resumed.seq.interrupted = s.seq.interrupted ∧
    s.resumed.queue = s.queue ∧ s.resumed.interp = s.interp ∧ s.resumed.notice.engineState = s.notice.engineState ∧
    s.resumed.settings = s.settings ∧ s.resumed.classifier = s.classifier ∧ s.resumed.override = s.override ∧
    s.resumed.link = s.link := by
  by_cases h : s.seq.engine = .halted <;> simp [State.resumed, State.setResume, h]

theorem State.resumed_of_halted {s : State} (h : s.seq.engine = .halted) : s.resumed.stroke = s.strokeStart.stroke := by
  simp [State.resumed, State.setResume, h]

theorem State.resumed_of_not_halted {s : State} (h : s.seq.engine ≠ .halted) : s.resumed.stroke = s.stroke := by
  simp [State.resumed, State.setResume, h]

/-- The start request that HALTED makes, or none: a start request behind it is one of the state before. -/
theorem State.resumed_starts {s u : State} (h : s.resumed.StrokeStartAsked u) : s.StrokeStartAsked u := by
  have hsettings : s.resumed.settings = s.settings := by simp [State.resumed, State.setResume]; split <;> simp
  by_cases he : s.seq.engine = .halted
  · exact (s.strokeStart_asked.congr (v := s.resumed) rfl rfl (State.resumed_of_halted he)).trans h
  · exact h.congr (State.resumed_of_not_halted he).symm (by rw [hsettings]) rfl

theorem State.resumed_quiet {s : State} (h : s.stroke.stall = false) :
    s.resumed.stroke.stall = false ∧ s.resumed.trip = s.trip ∧ s.resumed.bus = s.bus := by
  by_cases he : s.seq.engine = .halted
  · simpa [State.resumed, State.setResume, he] using State.strokeStart_quiet h
  · simpa [State.resumed, State.setResume, he] using h

theorem State.serveResume_of_memory {s : State} (h : s.seq.engine ∈ [Engine.holding, .held, .halted])
    (hl : s.trip.level = .none) (ht : s.seq.engine ≠ .holding ∨ s.interp.turn = none) :
    s.serveResume = (s.resumed.dispatch .request (s.seq.resume == some .dwelling), .ok) := by
  simp only [List.mem_cons, List.not_mem_nil, or_false] at h
  obtain h | h | h := h <;> simp_all [State.serveResume, State.actOnMemory, State.resumed]

theorem State.serveResume_of_turn {s : State} (h : s.seq.engine = .holding) (hl : s.trip.level = .none)
    (ht : s.interp.turn.isSome = true) : s.serveResume = ((s.setResume none).enterProgram .pivoting .request, .ok) := by
  simp [State.serveResume, h, hl, ht]

/-- An entry of the state behind the memory is one of the state of the request. -/
theorem State.EntersProgram.of_resumed {s u : State} {e : Engine} {c : Cause} (h : s.resumed.EntersProgram u e c) :
    s.EntersProgram u e c := by
  obtain ⟨hengine, -, -, -, hqueue, -, hnotice, -⟩ := s.resumed_fields
  refine ⟨h.engine, by rw [h.noted, hengine, hnotice], State.resumed_starts h.started, fun hstall => ?_, h.queue.trans hqueue⟩
  obtain ⟨hstall', htrip, hbus⟩ := State.resumed_quiet hstall
  obtain ⟨htrip', hbus'⟩ := h.quiet hstall'
  exact ⟨htrip'.trans htrip, hbus'.trans hbus⟩

/-- What a RESUME taken leads to where it acts on the memory: the dispatch on each kind of head. -/
structure State.Resumes (s u : State) : Prop where
  runs : ∀ r m, s.queue.records.head? = some r → r.body = .moving m → s.interp.turnPending = false →
    s.EntersProgram u .running .request ∧ u.interp = s.interp
  pivots : ∀ r m, s.queue.records.head? = some r → r.body = .moving m → s.interp.turnPending = true →
    s.EntersProgram u .pivoting .request ∧
      u.interp = { s.interp with feed := 0, turn := some ⟨decide (0 < m.turn), m.turn.natAbs⟩ }
  dwells : ∀ r d, s.queue.records.head? = some r → r.body = .dwell d → s.EntersProgram u .dwelling .request ∧
    u.interp = s.interp ∧ u.seq.dwellCount = if s.seq.resume = some .dwelling then s.seq.dwellCount else 0
  ends : ∀ r rest, s.queue.records = r :: rest → r.body = .programEnd → s.resumed.EndsProgram u .request rest
  starves : s.queue.records = [] → s.resumed.EntersStarved u

theorem State.resumed_dispatch {s : State} (h : s.seq.engine ∈ [Engine.holding, .held, .halted]) :
    s.Resumes (s.resumed.dispatch .request (s.seq.resume == some .dwelling)) := by
  obtain ⟨hengine, -, hcount, -, hqueue, hinterp, -⟩ := s.resumed_fields
  have hkinds : s.resumed.seq.engine.runsProgram = false ∧ s.resumed.seq.engine ≠ .idle ∧ s.resumed.seq.engine ≠ .starved := by
    rw [hengine]
    simp only [List.mem_cons, List.not_mem_nil, or_false] at h
    obtain h | h | h := h <;> rw [h] <;> decide
  obtain ⟨hrest, hidle, hstarved⟩ := hkinds
  have hcons {r : Record} (hr : s.queue.records.head? = some r) : s.resumed.queue.records = r :: s.queue.records.tail := by
    rw [hqueue]; exact List.eq_cons_of_mem_head? hr
  refine ⟨fun r m hr hb hp => ?_, fun r m hr hb hp => ?_, fun r d hr hb => ?_, fun r rest hr hb => ?_, fun hr => ?_⟩
  · obtain ⟨henter, hkept⟩ := State.dispatch_runs .request (s.seq.resume == some .dwelling) hrest (hcons hr) hb
      (by rw [hinterp]; exact hp)
    exact ⟨henter.of_resumed, hkept.trans hinterp⟩
  · obtain ⟨henter, hturned⟩ := State.dispatch_pivots .request (s.seq.resume == some .dwelling) hrest (hcons hr) hb
      (by rw [hinterp]; exact hp)
    exact ⟨henter.of_resumed, by rw [hturned, hinterp]⟩
  · obtain ⟨henter, hkept, hdwell⟩ := State.dispatch_dwells .request (s.seq.resume == some .dwelling) hrest (hcons hr) hb
    exact ⟨henter.of_resumed, hkept.trans hinterp, by rw [hdwell, hcount]; simp⟩
  · exact State.dispatch_ends .request _ hidle (by rw [hqueue]; exact hr) hb
  · exact State.dispatch_starves .request _ hstarved (by rw [hqueue]; exact hr)

/-- The memory is cleared, and without a stall condition the sources and the bus stand, whatever the head. -/
theorem State.Resumes.cleared {s u : State} (h : s.Resumes u)
    (hkept : ∀ r, s.queue.records.head? = some r → r.body ≠ .programEnd → u.seq.resume = s.resumed.seq.resume) :
    u.seq.resume = none ∧ (s.stroke.stall = false → u.trip = s.trip ∧ u.bus = s.bus) := by
  obtain ⟨-, hresume, -⟩ := s.resumed_fields
  cases hq : s.queue.records with
  | nil =>
    obtain ⟨-, -, htrip, hbus, hmemory⟩ := (h.starves hq).kept
    refine ⟨hmemory.trans hresume, fun hstall => ?_⟩
    obtain ⟨-, htrip', hbus'⟩ := State.resumed_quiet hstall
    exact ⟨htrip.trans htrip', hbus.trans hbus'⟩
  | cons r rest =>
    have hr : s.queue.records.head? = some r := by rw [hq]; rfl
    cases hb : r.body with
    | programEnd =>
      have hends := h.ends r rest hq hb
      refine ⟨hends.resume, fun hstall => ?_⟩
      obtain ⟨-, htrip, hbus⟩ := State.resumed_quiet hstall
      exact ⟨hends.quiet.1.trans htrip, hends.quiet.2.trans hbus⟩
    | dwell d => exact ⟨(hkept r hr (by simp [hb])).trans hresume, (h.dwells r d hr hb).1.quiet⟩
    | moving m =>
      refine ⟨(hkept r hr (by simp [hb])).trans hresume, ?_⟩
      cases hp : s.interp.turnPending
      · exact (h.runs r m hr hb hp).1.quiet
      · exact (h.pivots r m hr hb hp).1.quiet

/-- A dispatch on a record that is no END leaves the memory. -/
theorem State.dispatch_resume {s : State} (c : Cause) (keep : Bool) {r : Record} (hr : s.queue.records.head? = some r)
    (hb : r.body ≠ .programEnd) : (s.dispatch c keep).seq.resume = s.seq.resume := by
  have hq : s.queue.records = r :: s.queue.records.tail := List.eq_cons_of_mem_head? hr
  cases hr : r.body with
  | programEnd => exact absurd hr hb
  | dwell d =>
    rw [s.dispatch_dwelling c keep r _ d hq hr]
    cases keep <;> simp
  | moving m =>
    cases hp : s.interp.turnPending
    · rw [s.dispatch_running c keep r _ m hq hr hp]; simp
    · rw [s.dispatch_pivoting c keep r _ m hq hr hp]; simp

/-- Settles O52: the refusals, a turn record in HOLDING, and the dispatch on the memory. -/
theorem resumeActsOnMemory : Obligations.ResumeActsOnMemory := by
  intro s tag ht
  refine ⟨fun h => ?_, fun h hl => ?_, fun h hl => ?_⟩
  · refine exec_answered .resume ht rfl rfl rfl rfl ?_
    have hserve : s.serveResume = (s, .state) := by
      cases he : s.seq.engine <;> simp_all [State.serveResume]
    show resultBody s.serveResume = _
    rw [hserve]
    rfl
  · refine exec_answered .resume ht rfl rfl rfl rfl ?_
    have hserve : s.serveResume = (s, .tripped) := by
      simp only [List.mem_cons, List.not_mem_nil, or_false] at h
      obtain h | h | h := h <;> simp [State.serveResume, h, hl]
    show resultBody s.serveResume = _
    rw [hserve]
    rfl
  by_cases hturn : s.seq.engine = .holding ∧ s.interp.turn.isSome = true
  · obtain ⟨he, hsome⟩ := hturn
    have henter : s.EntersProgram ((s.setResume none).enterProgram .pivoting .request) .pivoting .request := by
      refine State.EntersProgram.congr (State.enterProgram_enters .request ?_ rfl) rfl rfl rfl rfl rfl rfl rfl
      show s.seq.engine.runsProgram = false
      rw [he]
      rfl
    refine ⟨(s.setResume none).enterProgram .pivoting .request, exec_answered .resume ht rfl rfl rfl rfl ?_,
      fun _ _ => ⟨henter.engine, by simp [State.setResume], henter.queue, henter.started, by rw [henter.noted, he]⟩,
      fun hmemory => absurd hmemory (by simp [he, Option.isSome_iff_ne_none.1 hsome]), by simp [State.setResume],
      by simp [State.setResume], by simp [State.setResume], by simp [State.setResume], by simp [State.setResume],
      by simp [State.setResume], henter.quiet⟩
    show resultBody s.serveResume = _
    rw [State.serveResume_of_turn he hl hsome]
    rfl
  · have hmemory : s.seq.engine ≠ .holding ∨ s.interp.turn = none := by
      by_cases he : s.seq.engine = .holding
      · exact .inr (by simpa [he] using hturn)
      · exact .inl he
    have hserve : s.serve .resume [] = (s.resumed.dispatch .request (s.seq.resume == some .dwelling), [0x00]) := by
      show resultBody s.serveResume = _
      rw [State.serveResume_of_memory h hl hmemory]
      rfl
    have hresumes := State.resumed_dispatch h
    obtain ⟨hengine, -, -, hinterrupted, hqueue, hinterp, hnotice, hsettings, hclassifier, hoverride, hlink⟩ :=
      s.resumed_fields
    have hcleared := hresumes.cleared fun r hr hb => State.dispatch_resume _ _ (by rw [hqueue]; exact hr) hb
    refine ⟨s.resumed.dispatch .request (s.seq.resume == some .dwelling), exec_answered .resume ht rfl rfl rfl rfl hserve,
      fun he hsome => absurd ⟨he, hsome⟩ hturn, fun _ => ?_, hcleared.1, by simp [hinterrupted], by simp [hclassifier],
      by simp [hsettings], by simp [hoverride], by simp [hlink], hcleared.2⟩
    generalize s.resumed.dispatch .request (s.seq.resume == some .dwelling) = u at hresumes
    refine ⟨fun r m hr hb hp => ?_, fun r m hr hb hp => ?_, fun r d hr hb => ?_, fun r hr hb => ?_, fun r rest hr hb => ?_,
      fun hr => ?_⟩
    · obtain ⟨henter, hkept⟩ := hresumes.runs r m hr hb hp
      exact ⟨henter.engine, hkept⟩
    · obtain ⟨henter, hturned⟩ := hresumes.pivots r m hr hb hp
      exact ⟨henter.engine, hturned⟩
    · obtain ⟨henter, hkept, hcount⟩ := hresumes.dwells r d hr hb
      exact ⟨henter.engine, hkept, hcount⟩
    · have henters : ∃ e, s.EntersProgram u e .request := by
        cases hbody : r.body with
        | moving m =>
          cases hp : s.interp.turnPending
          · exact ⟨_, (hresumes.runs r m hr hbody hp).1⟩
          · exact ⟨_, (hresumes.pivots r m hr hbody hp).1⟩
        | dwell d => exact ⟨_, (hresumes.dwells r d hr hbody).1⟩
        | programEnd => exact absurd hbody hb
      obtain ⟨e, henter⟩ := henters
      exact ⟨henter.queue, by rw [henter.noted, henter.engine], henter.started⟩
    · have hends := hresumes.ends r rest hr hb
      refine ⟨hends.engine, by rw [hends.queue, hqueue], by rw [hends.noted, hengine, hnotice], fun hstop => ?_,
        fun hhalted hrests => ?_⟩
      · have hturns : s.resumed.stroke.state ∈ [StrokeState.starting, .running, .stalled] := by
          by_cases he : s.seq.engine = .halted
          · rw [State.resumed_of_halted he]; exact s.strokeStart_turns
          · rw [State.resumed_of_not_halted he]; exact hstop.resolve_left he
        obtain ⟨hstate, htimer, -⟩ := hends.stopped.1 hturns
        exact ⟨hstate, by rw [htimer, hsettings]⟩
      · have hstroke := State.resumed_of_not_halted hhalted
        rw [hends.stands (by rw [hstroke]; exact StrokeState.not_turns hrests), hstroke]
    · have hstarves := hresumes.starves hr
      obtain ⟨hkept, hinterp', -⟩ := hstarves.kept
      have hruns := hstarves.runs
      have hexpires := hstarves.expires
      rw [hsettings] at hruns hexpires
      refine ⟨hstarves.engine, hkept.trans hqueue, hinterp'.trans hinterp, by rw [hstarves.noted, hengine, hnotice],
        fun hpos => ⟨(hruns hpos).1, fun he => ?_, fun he => ?_⟩, hexpires⟩
      · exact s.strokeStart_asked.congr rfl rfl ((hruns hpos).2.trans (State.resumed_of_halted he))
      · exact (hruns hpos).2.trans (State.resumed_of_not_halted he)

end Sys2Proof.Machine
end

section
/-! SUPPORT. The parameters: what SET_PARAM stores and reads back (R185, R186). -/

namespace Sys2Proof.Machine

/-! ## The table of parameters (R185) -/

/-- Storing one parameter leaves every other. -/
theorem Params.get_put_other (p : Params) {n k : Nat} (v : Int) (h : k ≠ n) : (p.put n v).get k = p.get k := by
  unfold Params.put
  split <;> unfold Params.get <;> split <;> first | rfl | exact absurd rfl h

theorem clampInt_mem {lo hi : Int} (v : Int) (h : lo ≤ hi) : lo ≤ clampInt lo hi v ∧ clampInt lo hi v ≤ hi := by
  simp only [clampInt]
  omega

/-- Each row of R185's table is the range of its parameter. -/
theorem paramRange_of_table : ∀ r ∈ parameterTable, paramRange r.1 = (r.2.1, r.2.2.1) := by decide

/-- A parameter whose range depends on no other is brought into that of the table. -/
theorem Params.clampValue_of_simple (p : Params) {n : Nat} (v : Int) (h : n ∉ [1, 2, 3, 4, 10, 11, 26, 27]) :
    p.clampValue n v = clampInt (paramRange n).1 (paramRange n).2 v := by
  unfold Params.clampValue
  split <;> simp_all

/-- The parameters 5 to 28 are stored as numbers from 0 up. -/
theorem Params.clampValue_nonneg (p : Params) (n : Nat) (v : Int) (h5 : 5 ≤ n) (h28 : n ≤ 28) : 0 ≤ p.clampValue n v := by
  have hlow : ∀ n < 29, 5 ≤ n → 0 ≤ (paramRange n).1 ∧ (paramRange n).1 ≤ (paramRange n).2 := by decide
  obtain ⟨hpos, hle⟩ := hlow n (by omega) h5
  have hclamp := hpos.trans (clampInt_mem v hle).1
  by_cases h : n ∈ [1, 2, 3, 4, 10, 11, 26, 27]
  · simp only [List.mem_cons, List.not_mem_nil, or_false] at h
    obtain rfl | rfl | rfl | rfl | rfl | rfl | rfl | rfl := h
    · omega
    · omega
    · omega
    · omega
    · exact le_min hclamp (Int.natCast_nonneg _)
    · exact hclamp.trans (le_max_left _ _)
    · exact Int.natCast_nonneg _
    · simp only [Params.clampValue]; split <;> decide
  · rw [p.clampValue_of_simple v h]
    exact hclamp

/-- A word's value is stored whole in a label. -/
theorem Params.clampValue_label (p : Params) {n : Nat} (v : Word) (h : 29 ≤ n) : p.clampValue n v.toInt = v.toInt := by
  have hrange : paramRange n = (-2147483648, 2147483647) := by unfold paramRange; split <;> first | omega | rfl
  have hlow := BitVec.le_toInt v
  have hhigh := BitVec.toInt_lt (x := v)
  rw [p.clampValue_of_simple _ (by simp only [List.mem_cons, List.not_mem_nil, or_false]; omega), hrange]
  simp only [clampInt]
  omega

theorem Params.clampValue_slotMask (p : Params) (v : Word) : p.clampValue 26 v.toInt = (v.toNat % 16 : Nat) := by
  have hv := v.isLt
  simp only [Params.clampValue, BitVec.toNat_ofInt, BitVec.toInt_eq_toNat_cond]
  split <;> omega

theorem Params.clampValue_rotating (p : Params) (v : Word) : p.clampValue 27 v.toInt = if v = 0 then 0 else 1 := by
  have hzero : v.toInt = 0 ↔ v = 0 := by
    rw [← BitVec.toInt_inj]
    simp
  simp only [Params.clampValue, hzero]

/-- The value that SET_PARAM stores is the value it then reads. -/
theorem Params.get_put_clampValue (p : Params) {n : Nat} (v : Word) (h1 : 1 ≤ n) (h32 : n ≤ 32) :
    (p.put n (p.clampValue n v.toInt)).get n = some (p.clampValue n v.toInt) := by
  have hnat (h5 : 5 ≤ n) (h28 : n ≤ 28) : ((p.clampValue n v.toInt).toNat : Int) = p.clampValue n v.toInt :=
    Int.toNat_of_nonneg (p.clampValue_nonneg n _ h5 h28)
  have hlabel (h29 : 29 ≤ n) : (BitVec.ofInt 32 (p.clampValue n v.toInt)).toInt = p.clampValue n v.toInt := by
    rw [p.clampValue_label v h29, BitVec.ofInt_toInt]
  by_cases h20 : n = 20
  · subst h20
    have hb : 0 ≤ p.clampValue 20 v.toInt ∧ p.clampValue 20 v.toInt ≤ 7 := clampInt_mem v.toInt (by decide)
    have hget : (p.put 20 (p.clampValue 20 v.toInt)).get 20 = some (((p.clampValue 20 v.toInt).toNat % 8 : Nat) : Int) := rfl
    rw [hget, Option.some.injEq]
    omega
  by_cases h26 : n = 26
  · subst h26
    have hget : (p.put 26 (p.clampValue 26 v.toInt)).get 26 = some ((BitVec.ofInt 4 (p.clampValue 26 v.toInt)).toNat : Int) :=
      rfl
    rw [hget, p.clampValue_slotMask, BitVec.toNat_ofInt, Option.some.injEq]
    omega
  by_cases h27 : n = 27
  · subst h27
    have hget : (p.put 27 (p.clampValue 27 v.toInt)).get 27 =
      some (if decide (p.clampValue 27 v.toInt ≠ 0) then 1 else 0) := rfl
    rw [hget, p.clampValue_rotating]
    split <;> rfl
  by_cases h28 : 5 ≤ n ∧ n ≤ 28
  · have hn := hnat h28.1 h28.2
    generalize p.clampValue n v.toInt = w at hn
    obtain ⟨h5, h28⟩ := h28
    interval_cases n <;> first | exact congrArg some hn | contradiction
  by_cases h29 : 29 ≤ n
  · have hn := hlabel h29
    generalize p.clampValue n v.toInt = w at hn
    interval_cases n <;> exact congrArg some hn
  · interval_cases n <;> first | rfl | omega

/-! ## SET_PARAM (R186) -/

theorem paramNeedsIdle_iff (n : Nat) : paramNeedsIdle n = true ↔ n ∈ [1, 2, 3, 4, 5, 6, 8, 9, 26] := by
  simp [paramNeedsIdle, or_assoc]

theorem paramKnown_iff (n : Nat) : paramKnown n = true ↔ 1 ≤ n ∧ n ≤ 32 := by simp [paramKnown]

theorem State.serveSetParam_of_unknown (s : State) {number : Byte} (v : Int) (h : number.toNat = 0 ∨ 32 < number.toNat) :
    s.serveSetParam number v = (s, [0x20, number, 0, 0, 0, 0]) := by
  have hk : paramKnown number.toNat = false := Bool.eq_false_iff.2 fun hk => by
    have := (paramKnown_iff _).1 hk
    omega
  simp only [State.serveSetParam, hk, Bool.not_false, if_true]
  rfl

theorem State.serveSetParam_of_barred (s : State) {number : Byte} (v : Int) {old : Int}
    (hn : number.toNat ∈ [1, 2, 3, 4, 5, 6, 8, 9, 26]) (h : s.seq.engine ≠ .idle ∨ s.queue.records ≠ [])
    (hold : s.settings.params.get number.toNat = some old) :
    s.serveSetParam number v = (s, 0x14 :: number :: be32 old) := by
  have hk : paramKnown number.toNat = true := (paramKnown_iff _).2 (by
    simp only [List.mem_cons, List.not_mem_nil, or_false] at hn; omega)
  have hbarred : (s.seq.engine == .idle && s.queue.records.isEmpty) = false := by
    obtain h | h := h <;> simp [h]
  simp only [State.serveSetParam, hk, (paramNeedsIdle_iff _).2 hn, hbarred, State.params_settings, hold]
  rfl

theorem State.serveSetParam_of_taken (s : State) {number : Byte} (v : Int) (h1 : 1 ≤ number.toNat) (h32 : number.toNat ≤ 32)
    (h : number.toNat ∈ [1, 2, 3, 4, 5, 6, 8, 9, 26] → s.seq.engine = .idle ∧ s.queue.records = []) :
    s.serveSetParam number v =
      ({ s with settings := { s.settings with
          params := s.settings.params.put number.toNat (s.settings.params.clampValue number.toNat v) } },
        (if s.settings.params.clampValue number.toNat v = v then 0x00 else 0x01) :: number ::
          be32 (s.settings.params.clampValue number.toNat v)) := by
  have hopen : (paramNeedsIdle number.toNat && !(s.seq.engine == .idle && s.queue.records.isEmpty)) = false := by
    by_cases hn : number.toNat ∈ [1, 2, 3, 4, 5, 6, 8, 9, 26]
    · obtain ⟨hidle, hempty⟩ := h hn
      simp [hidle, hempty]
    · simp [Bool.eq_false_iff.2 (mt (paramNeedsIdle_iff _).1 hn)]
  have hcode (w : Int) : (Result.okOr (decide (w ≠ v))).code = if w = v then 0x00 else 0x01 := by
    by_cases hw : w = v <;> simp [hw, Result.okOr, Result.code]
  simp only [State.serveSetParam, (paramKnown_iff _).2 ⟨h1, h32⟩, hopen, Bool.not_true, Bool.false_eq_true, if_false,
    State.params_settings, paramReply, hcode]
  rfl

/-- Settles O55: the two refusals, and the store with what each number's range makes of the value. -/
theorem setParamStoresClampedValue : Obligations.SetParamStoresClampedValue := by
  intro s tag number v ht
  have hread : s.serve .setParam (number :: beWord v) = s.serveSetParam number v.toInt := by
    rw [← readInt_beWord number v []]
    rfl
  refine ⟨fun h => ?_, fun old hn h hold => ?_, fun h1 h32 h => ?_⟩
  · refine exec_answered .setParam ht rfl rfl rfl rfl ?_
    rw [hread, s.serveSetParam_of_unknown _ h]
  · refine exec_answered .setParam ht rfl rfl rfl rfl ?_
    rw [hread, s.serveSetParam_of_barred _ hn h hold]
  · generalize hp : s.settings.params = p
    refine ⟨p.put number.toNat (p.clampValue number.toNat v.toInt), p.clampValue number.toNat v.toInt,
      exec_answered .setParam ht rfl rfl rfl rfl ?_, p.get_put_clampValue v h1 h32, fun k hk => p.get_put_other _ hk,
      fun n lo hi dflt hm hn hsimple => ?_, fun hn => ?_, fun hn => ?_, fun hn => ?_, fun hn => ?_, fun hn => ?_, fun hn => ?_,
      fun hn => ?_, fun hn => ?_, fun hn => p.clampValue_label v hn⟩
    · rw [hread, s.serveSetParam_of_taken _ h1 h32 h, hp]
    · rw [hn, p.clampValue_of_simple _ hsimple, paramRange_of_table _ hm]
      rfl
    · rw [hn]; rfl
    · rw [hn]; rfl
    · rw [hn]; rfl
    · rw [hn]; rfl
    · rw [hn]; rfl
    · rw [hn]; rfl
    · rw [hn, p.clampValue_slotMask]
    · rw [hn, p.clampValue_rotating]

end Sys2Proof.Machine
end

section
/-! SUPPORT. SET_TRIP and CLEAR_TRIPS (R155, R157): a change of action, a write of polarity and debounce time, and the clearing of the
LATCHED sources. -/

namespace Sys2Proof.Machine

/-! ## A change of action (R155) -/

/-- The level recomputed, as one update of the state (R153, R154). -/
theorem State.recompute_update (s : State) : s.recompute = { s with
    trip := { s.trip with level := levelOf s.trip.sources }
    seq := { s.seq with changes := s.seq.changes ++
      (if levelOf s.trip.sources = s.trip.level then [] else [⟨s.trip.level, levelOf s.trip.sources⟩]) }
    bus := { s.bus with changes := s.bus.changes ++
      (if levelOf s.trip.sources = s.trip.level then [] else [⟨s.trip.level, levelOf s.trip.sources⟩]) } } := by
  by_cases hl : levelOf s.trip.sources = s.trip.level
  · simp only [State.recompute, hl, if_true, List.append_nil]
  · simp only [State.recompute, hl, if_false]
    rfl

/-- A change of action as one update of the state (R153, R154, R159). -/
theorem State.writeAction_update (s : State) (i : Fin 15) (a : Action) :
    let sources := s.trip.sources.set i.val { s.trip.sources[i] with action := a }
    let handed : List LevelChange := if levelOf sources = s.trip.level then [] else [⟨s.trip.level, levelOf sources⟩]
    s.writeAction i a = { s with
      trip := { s.trip with sources := sources, level := levelOf sources }
      seq := { s.seq with changes := s.seq.changes ++ handed }
      bus := { s.bus with changes := s.bus.changes ++ handed }
      notice := { s.notice with
        trip := if levelOf sources = s.trip.level then s.notice.trip
          else Pending.coalesce s.notice.trip ⟨i, (s.trip.sources[i]).state, levelOf sources, s.trip.slotSet i⟩ } } := by
  intro sources handed
  let w : State := s.setTrip (s.trip.putSource i { s.trip.sources[i] with action := a })
  have hlevel : w.recompute.trip.level = levelOf sources := w.recompute_spec.1
  show (if w.recompute.trip.level = s.trip.level then w.recompute else w.recompute.tripNotice i) = _
  rw [hlevel]
  by_cases hl : levelOf sources = s.trip.level
  · rw [if_pos hl, if_pos hl, State.recompute_update]
    rfl
  · rw [if_neg hl, if_neg hl, State.recompute_update]
    simp [State.tripNotice, State.noteTrip, State.setTrip, State.setNotice, TripUnit.putSource, TripUnit.slotSet, sources,
      handed, w]

theorem Action.code_ofCode (n : Nat) : (Action.ofCode n).code.toNat = min n 4 := by
  match n with
  | 0 | 1 | 2 | 3 => rfl
  | n + 4 =>
    rw [Nat.min_eq_right (by omega)]
    rfl

theorem Action.code_rank (a : Action) : a.code.toNat = a.rank := by cases a <;> rfl

/-- The code of the action that SET_TRIP stores (R145, R155). -/
theorem storedAction_code (i : Fin 15) (code : Byte) :
    (storedAction i code).code.toNat = max (if 10 ≤ i.val then 3 else 0) (min code.toNat 4) := by
  have hcode := Action.code_ofCode code.toNat
  rw [Action.code_rank] at hcode
  have hlow : (lowestAction i).rank = if 10 ≤ i.val then 3 else 0 := by simp only [lowestAction]; split <;> rfl
  simp only [storedAction, Action.code_rank]
  rw [← hlow, ← hcode]
  split <;> omega

/-- On an input a code is stored as it is where it is that of an action. -/
theorem storedAction_code_eq {i : Fin 15} (h : i.val < 8) (code : Byte) :
    (storedAction i code).code = code ↔ code.toNat ≤ 4 := by
  have hcode := storedAction_code i code
  rw [if_neg (by omega)] at hcode
  rw [← BitVec.toNat_inj, hcode]
  omega

/-! ## A write of polarity and debounce time (R147, R148) -/

theorem State.conditionTaken_refl (s : State) (i : Fin 15) : s.ConditionTaken s i (s.trip.sources[i]).condition := by
  have h := s.setCondition_taken i (s.trip.sources[i]).condition
  rwa [State.setCondition, if_pos rfl] at h

/-- Input `k` has become `inp`, its source has taken the condition `now`, and nothing else has acted. -/
structure State.InputSet (v u : State) (k : Fin 8) (inp : Input) (now : Bool) : Prop where
  inputs : u.trip.inputs = v.trip.inputs.set k.val inp
  taken : (v.setTrip { v.trip with inputs := u.trip.inputs }).ConditionTaken u (sourceOfInput k) now
  bus : u.bus = { v.bus with changes := u.bus.changes }

theorem State.putInput_set (v : State) (k : Fin 8) (inp : Input) :
    v.InputSet (v.setTrip (v.trip.putInput k inp)) k inp (v.trip.sources[sourceOfInput k]).condition :=
  ⟨rfl, State.conditionTaken_refl _ _, rfl⟩

theorem State.putInput_takeLine_set (v : State) (k : Fin 8) (inp : Input) :
    v.InputSet ((v.setTrip (v.trip.putInput k inp)).takeLine k) k { inp with timer := none } inp.line := by
  have hinputs : ((v.setTrip (v.trip.putInput k inp)).takeLine k).trip.inputs =
      v.trip.inputs.set k.val { inp with timer := none } := by
    rw [State.takeLine_inputs]
    simp
  refine ⟨hinputs, ?_, by rw [State.takeLine_bus]; rfl⟩
  have htaken := (v.setTrip (v.trip.putInput k inp)).takeLine_taken k
  have hget : (v.setTrip (v.trip.putInput k inp)).trip.inputs[k] = inp := v.trip.putInput_get_self k inp
  rw [hget] at htaken
  refine State.conditionTaken_of _ _ _ _ _ ?_ ?_ ?_ ?_ ?_ ?_ htaken <;> try rfl
  rw [State.setTrip_trip, State.setTrip_trip, hinputs]
  simp

/-- What a write of polarity and debounce time makes of the timer and of the condition, case by case (R147, R148): `old` is the input
before, `held` the condition before. -/
structure Input.Written (old new : Input) (held now : Bool) : Prop where
  equals : new.line ≠ old.line → new.line = held → new.timer = none ∧ now = held
  starts : new.line ≠ old.line → new.line ≠ held → new.debounce ≠ 0 → new.timer = some 0 ∧ now = held
  immediate : new.line ≠ old.line → new.line ≠ held → new.debounce = 0 → new.timer = none ∧ now = new.line
  runs : new.line = old.line → (new.debounce = old.debounce ∨ ∀ e, old.timer = some e → e < new.debounce * 10000) →
    new.timer = old.timer ∧ now = held
  ends : ∀ e, new.line = old.line → new.debounce ≠ old.debounce → old.timer = some e → new.debounce * 10000 ≤ e →
    new.timer = none ∧ now = new.line

theorem Input.due_iff (inp : Input) : inp.due = true ↔ ∃ e, inp.timer = some e ∧ inp.debounce * 10000 ≤ e := by
  cases h : inp.timer with
  | none => simp [Input.due, h]
  | some e =>
    simp only [Input.due, h, cyclesPerMs, Option.some.injEq, exists_eq_left']
    exact decide_eq_true_iff

/-- The write in its cases: the timer acts at most once. -/
theorem State.writeInput_set (v : State) (k : Fin 8) (p : Polarity) (d : Nat) :
    ∃ timer now, v.InputSet (v.writeInput k p d) k ⟨p, d, lineState p v.pins[k], timer⟩ now ∧
      (v.trip.inputs[k]).Written ⟨p, d, lineState p v.pins[k], timer⟩ (v.trip.sources[sourceOfInput k]).condition now := by
  generalize hold : v.trip.inputs[k] = old
  generalize hheld : (v.trip.sources[sourceOfInput k]).condition = held
  generalize hline : lineState p v.pins[k] = line
  let x : State := v.setTrip (v.trip.putInput k { old with polarity := p, debounce := d })
  have hxk : x.trip.inputs[k] = { old with polarity := p, debounce := d } := v.trip.putInput_get_self k _
  have hpin : x.pinLine k = line := by
    rw [State.pinLine, hxk]
    exact hline
  have hput (inp : Input) : x.setTrip (x.trip.putInput k inp) = v.setTrip (v.trip.putInput k inp) := by
    simp [x, State.setTrip, TripUnit.putInput]
  have hwrite : v.writeInput k p d =
      if d ≠ old.debounce && ((x.deriveLine k).trip.inputs[k]).due then (x.deriveLine k).takeLine k else x.deriveLine k := by
    simp only [State.writeInput, hold]
    rfl
  have hstays (inp : Input) (hx : x.deriveLine k = v.setTrip (v.trip.putInput k inp)) (hdue : inp.due = false) :
      v.writeInput k p d = v.setTrip (v.trip.putInput k inp) := by
    rw [hwrite, hx, State.setTrip_trip, TripUnit.putInput_get_self, hdue]
    simp
  by_cases hsame : line = old.line
  · have hderive : x.deriveLine k = x := State.deriveLine_of_same (by rw [hpin, hxk]; exact hsame)
    by_cases hdue : d ≠ old.debounce ∧ ∃ e, old.timer = some e ∧ d * 10000 ≤ e
    · obtain ⟨hd, e, htimer, he⟩ := hdue
      have hx : v.writeInput k p d = x.takeLine k := by
        rw [hwrite, hderive, hxk, (Input.due_iff { old with polarity := p, debounce := d }).2 ⟨e, htimer, he⟩]
        simp [hd]
      refine ⟨none, line, ?_, ?_⟩
      · rw [hx, hsame]
        exact v.putInput_takeLine_set k _
      · constructor
        case runs =>
          rintro - (hkept | hlow)
          · exact absurd hkept hd
          · exact absurd he (Nat.not_le.2 (hlow e htimer))
        all_goals simp_all
    · have hx : v.writeInput k p d = x := by
        rw [hwrite, hderive, hxk, if_neg]
        rw [Bool.and_eq_true, decide_eq_true_eq, Input.due_iff]
        exact hdue
      refine ⟨old.timer, held, ?_, ?_⟩
      · rw [hx, ← hheld, hsame]
        exact v.putInput_set k _
      · constructor
        case ends => exact fun e _ hd htimer he => absurd ⟨hd, e, htimer, he⟩ hdue
        all_goals simp_all
  · have hchanged : x.pinLine k ≠ (x.trip.inputs[k]).line := by rw [hpin, hxk]; exact hsame
    by_cases hequal : line = held
    · have hcond : x.pinLine k = (x.trip.sources[sourceOfInput k]).condition := by rw [hpin, hequal, ← hheld]; rfl
      have hx := hstays ⟨p, d, line, none⟩ (by rw [State.deriveLine_of_equal hchanged hcond, hpin, hxk, hput]) rfl
      refine ⟨none, held, ?_, ?_⟩
      · rw [hx, ← hheld]
        exact v.putInput_set k _
      · constructor <;> simp_all
    · have hcond : x.pinLine k ≠ (x.trip.sources[sourceOfInput k]).condition := by rw [hpin]; exact hheld.symm ▸ hequal
      by_cases hzero : d = 0
      · have hderive : x.deriveLine k = (v.setTrip (v.trip.putInput k ⟨p, d, line, some 0⟩)).takeLine k := by
          rw [State.deriveLine_of_immediate hchanged hcond (by rw [hxk]; exact hzero), hpin, hxk, hput]
        have hset := v.putInput_takeLine_set k ⟨p, d, line, some 0⟩
        have hx : v.writeInput k p d = (v.setTrip (v.trip.putInput k ⟨p, d, line, some 0⟩)).takeLine k := by
          have hk : ((v.setTrip (v.trip.putInput k ⟨p, d, line, some 0⟩)).takeLine k).trip.inputs[k] = ⟨p, d, line, none⟩ := by
            rw [hset.inputs]; simp
          rw [hwrite, hderive, hk]
          simp [Input.due]
        refine ⟨none, line, by rw [hx]; exact hset, ?_⟩
        constructor <;> simp_all
      · have hx := hstays ⟨p, d, line, some 0⟩
          (by rw [State.deriveLine_of_differs hchanged hcond (by rw [hxk]; exact hzero), hpin, hxk, hput])
          (Bool.eq_false_iff.2 fun hdue => by obtain ⟨e, he, hle⟩ := (Input.due_iff _).1 hdue; simp_all; omega)
        refine ⟨some 0, held, ?_, ?_⟩
        · rw [hx, ← hheld]
          exact v.putInput_set k _
        · constructor <;> simp_all

/-! ## SET_TRIP (R155) -/

theorem byte_index (i : Fin 15) : (byte i.val).toNat = i.val := by
  rw [byte_toNat]
  omega

/-- SET_TRIP of a source that is no input: the action alone. -/
theorem State.serveSetTrip_of_other (s : State) {i : Fin 15} (h : ¬ i.val < 8) (action polarity debounce : Byte) :
    s.serveSetTrip (byte i.val) action polarity debounce =
      (s.writeAction i (storedAction i action), (s.writeAction i (storedAction i action)).tripReply
        (Result.okOr (decide ((storedAction i action).code ≠ action))) i) := by
  have hlt : (byte i.val).toNat < 15 := by rw [byte_index]; exact i.isLt
  have hi : (⟨(byte i.val).toNat, hlt⟩ : Fin 15) = i := Fin.ext (byte_index i)
  have hinput : inputOfSource i = none := dif_neg h
  simp only [State.serveSetTrip, dif_pos hlt, hi, hinput]

/-- SET_TRIP of an input: the action, and then polarity and debounce time. -/
theorem State.serveSetTrip_of_input (s : State) {i : Fin 15} (h : i.val < 8) (action polarity debounce : Byte) :
    s.serveSetTrip (byte i.val) action polarity debounce =
      ((s.writeAction i (storedAction i action)).writeInput ⟨i.val, h⟩ (Polarity.ofByte polarity) (min debounce.toNat 50),
        ((s.writeAction i (storedAction i action)).writeInput ⟨i.val, h⟩ (Polarity.ofByte polarity)
          (min debounce.toNat 50)).tripReply
          (Result.okOr (decide ((storedAction i action).code ≠ action) || decide (min debounce.toNat 50 ≠ debounce.toNat)))
          i) := by
  have hlt : (byte i.val).toNat < 15 := by rw [byte_index]; exact i.isLt
  have hi : (⟨(byte i.val).toNat, hlt⟩ : Fin 15) = i := Fin.ext (byte_index i)
  have hinput : inputOfSource i = some ⟨i.val, h⟩ := dif_pos h
  simp only [State.serveSetTrip, dif_pos hlt, hi, hinput]

theorem State.tripReply_eq (s : State) (r : Result) (i : Fin 15) : s.tripReply r i =
    [r.code, byte i.val, (s.trip.sources[i]).action.code] ++
      (if h : i.val < 8 then [(s.trip.inputs[i.val]).polarity.code, byte (s.trip.inputs[i.val]).debounce] else [0, 0]) ++
      [(s.trip.sources[i]).state.code, s.trip.level.code] := by
  by_cases h : i.val < 8
  · have hinput : inputOfSource i = some ⟨i.val, h⟩ := dif_pos h
    simp only [State.tripReply, hinput, dif_pos h]
    rfl
  · have hinput : inputOfSource i = none := dif_neg h
    simp only [State.tripReply, hinput, dif_neg h]

theorem Result.code_okOr (b : Bool) :
    ((Result.okOr b).code = 0x00 ↔ b = false) ∧ ((Result.okOr b).code = 0x00 ∨ (Result.okOr b).code = 0x01) := by
  cases b <;> simp [Result.okOr, Result.code]

theorem lineState_ofByte (p : Byte) (high : Bool) : lineState (Polarity.ofByte p) high = if p = 0 then high else !high := by
  simp only [Polarity.ofByte]
  split <;> rfl

/-- What a SET_TRIP leaves of the sources, the level and the changes and notices that follow (R153, R154, R159): the action written, and
then the source's condition `now`. -/
structure State.Configured (s u : State) (i : Fin 15) (a : Action) : Prop where
  action : (u.trip.sources[i]).action = a
  state : (u.trip.sources[i]).state =
    (if (u.trip.sources[i]).condition ≠ (s.trip.sources[i]).condition ∧
        ((u.trip.sources[i]).condition = true ∨ (s.trip.sources[i]).state = .active)
      then if (u.trip.sources[i]).condition then .active
        else if (u.trip.sources[i]).action ∈ [Action.hold, .halt, .quickStop] then .latched else .clear
      else (s.trip.sources[i]).state)
  count : (u.trip.sources[i]).count =
    (if (u.trip.sources[i]).condition ≠ (s.trip.sources[i]).condition ∧ (u.trip.sources[i]).condition = true
      then min ((s.trip.sources[i]).count + 1) 255 else (s.trip.sources[i]).count)
  others : ∀ j : Fin 15, j ≠ i → u.trip.sources[j] = s.trip.sources[j]
  level : u.trip.level = levelOf u.trip.sources
  handed :
    let acted : LevelChange :=
      ⟨s.trip.level, levelOf (s.trip.sources.set i.val { s.trip.sources[i] with action := (u.trip.sources[i]).action })⟩
    let handed := (if acted.after = acted.before then [] else [acted]) ++
      (if u.trip.level = acted.after then [] else [⟨acted.after, u.trip.level⟩])
    let first := if acted.after = acted.before then s.notice.trip
      else Pending.coalesce s.notice.trip ⟨i, (s.trip.sources[i]).state, acted.after, s.trip.slotSet i⟩
    u.seq = { s.seq with changes := s.seq.changes ++ handed } ∧
    u.bus = { s.bus with changes := s.bus.changes ++ handed } ∧
    u.notice = { s.notice with
      trip := if (u.trip.sources[i]).condition ≠ (s.trip.sources[i]).condition ∧
          ((u.trip.sources[i]).condition = true ∨ (s.trip.sources[i]).state = .active) ∧
          (u.trip.sources[i]).action ≠ .ignore
        then Pending.coalesce first ⟨i, (u.trip.sources[i]).state, u.trip.level, none⟩ else first }

/-- The action written and then a condition taken, that of an input's source where it moves. -/
theorem State.configured_of_taken {s u : State} {i : Fin 15} {a : Action} {now : Bool} (inputs : Vector Input 8)
    (htaken : ((s.writeAction i a).setTrip { (s.writeAction i a).trip with inputs := inputs }).ConditionTaken u i now)
    (hbus : u.bus = { (s.writeAction i a).bus with changes := u.bus.changes })
    (hslot : now ≠ (s.trip.sources[i]).condition → u.trip.slotSet i = none) (hagrees : u.LevelAgrees) :
    s.Configured u i a := by
  have hupdate := s.writeAction_update i a
  dsimp only at hupdate
  generalize hsources : s.trip.sources.set i.val { s.trip.sources[i] with action := a } = sources at hupdate
  have hself : sources[i] = { s.trip.sources[i] with action := a } := by rw [← hsources]; simp
  have hothers : ∀ j : Fin 15, j ≠ i → sources[j] = s.trip.sources[j] := fun j hj => by
    rw [← hsources]
    exact Vector.getElem_set_ne i.isLt j.isLt fun e => hj (Fin.ext e.symm)
  rw [hupdate] at htaken hbus
  obtain ⟨hsrc, hrest, -, -, ⟨hseq, hchanges⟩, hnotice⟩ := htaken
  simp only [State.setTrip_trip, State.setTrip_seq, State.setTrip_bus, State.setTrip_notice] at hsrc hrest hseq hchanges hnotice
  have haction : (u.trip.sources[i]).action = a := by
    rw [hsrc]
    exact congrArg Source.action hself
  have hcond : (u.trip.sources[i]).condition = now := by rw [hsrc]
  have hold : (sources[i]).condition = (s.trip.sources[i]).condition ∧ (sources[i]).state = (s.trip.sources[i]).state ∧
      (sources[i]).count = (s.trip.sources[i]).count ∧ (sources[i]).action = a := by rw [hself]; simp
  obtain ⟨holdc, holds, holdn, holda⟩ := hold
  have hne : (s.trip.sources[i]).condition ≠ now ↔ now ≠ (s.trip.sources[i]).condition := ne_comm
  constructor
  case action => exact haction
  case state => rw [haction, hcond, hsrc]; simp only [holdc, holds, holda, hne]
  case count => rw [hcond, hsrc]; simp only [holdc, holdn, hne]
  case others => exact fun j hj => (hrest j hj).trans (hothers j hj)
  case level => exact hagrees
  case handed =>
    rw [haction, hsources]
    refine ⟨?_, ?_, ?_⟩
    · rw [hseq, List.append_assoc]
      rfl
    · rw [hbus, hchanges, List.append_assoc]
      rfl
    · rw [hnotice, hcond]
      simp only [holdc, holds, holda]
      by_cases hmoved : now ≠ (s.trip.sources[i]).condition
      · simp only [hslot hmoved, hmoved, ne_eq, not_false_eq_true, true_and, Ne.symm hmoved]
      · simp only [not_not.1 hmoved, ne_eq, not_true_eq_false, false_and, if_false]

/-- Settles O57: a source out of range, a source that is no input, and an input, each from the action written. -/
theorem setTripConfiguresSource : Obligations.SetTripConfiguresSource := by
  intro s tag action polarity debounce ht
  refine ⟨fun index h => ?_, fun i => ?_⟩
  · refine exec_answered .setTrip ht rfl rfl rfl rfl ?_
    show s.serveSetTrip index action polarity debounce = _
    rw [State.serveSetTrip, dif_neg (Nat.not_lt.2 h)]
    rfl
  by_cases h : i.val < 8
  · generalize ha : storedAction i action = a
    have hserve := s.serveSetTrip_of_input h action polarity debounce
    rw [ha] at hserve
    obtain ⟨timer, now, hset, hwritten⟩ :=
      (s.writeAction i a).writeInput_set ⟨i.val, h⟩ (Polarity.ofByte polarity) (min debounce.toNat 50)
    have hagrees := ((s.writeAction i a).writeInput_handed ⟨i.val, h⟩ (Polarity.ofByte polarity)
      (min debounce.toNat 50)).agrees (s.writeAction_agrees i a)
    have hstands : ∀ v : State, v = (s.writeAction i a).writeInput ⟨i.val, h⟩ (Polarity.ofByte polarity)
        (min debounce.toNat 50) → v.queue = s.queue ∧ v.interp = s.interp ∧ v.stroke = s.stroke ∧
        v.classifier = s.classifier ∧ v.settings = s.settings ∧ v.override = s.override ∧ v.link = s.link :=
      fun v hv => by rw [hv]; simp
    generalize (s.writeAction i a).writeInput ⟨i.val, h⟩ (Polarity.ofByte polarity) (min debounce.toNat 50) = u
      at hserve hset hagrees hstands
    have hold : (s.writeAction i a).trip.inputs = s.trip.inputs ∧ (s.writeAction i a).pins = s.pins ∧
        ((s.writeAction i a).trip.sources[i]).condition = (s.trip.sources[i]).condition := by
      rw [s.writeAction_update i a]; simp
    obtain ⟨holdi, holdp, holdc⟩ := hold
    have hsource : sourceOfInput ⟨i.val, h⟩ = i := rfl
    have htaken := hset.taken
    have hinputs := hset.inputs
    rw [hsource] at htaken
    rw [holdi] at hinputs
    rw [holdp] at hinputs
    have hwritten : (s.trip.inputs[i.val]).Written ⟨Polarity.ofByte polarity, min debounce.toNat 50,
        lineState (Polarity.ofByte polarity) s.pins[i.val], timer⟩ (s.trip.sources[i]).condition now := by
      have hbehind : ((s.writeAction i a).trip.inputs[i.val]).Written ⟨Polarity.ofByte polarity, min debounce.toNat 50,
        lineState (Polarity.ofByte polarity) (s.writeAction i a).pins[i.val], timer⟩
        ((s.writeAction i a).trip.sources[i]).condition now := hwritten
      rw [holdc] at hbehind
      simpa only [holdi, holdp] using hbehind
    have hconf : s.Configured u i a := State.configured_of_taken _ htaken hset.bus
      (fun _ => sourceOfInput_slotSet u.trip ⟨i.val, h⟩) hagrees
    have hnow : (u.trip.sources[i]).condition = now := htaken.condition_eq
    have hnew : u.trip.inputs[i.val] =
        ⟨Polarity.ofByte polarity, min debounce.toNat 50, lineState (Polarity.ofByte polarity) s.pins[i.val], timer⟩ := by
      rw [hinputs]
      simp
    have hcode : (storedAction i action).code.toNat = _ := storedAction_code i action
    have hgood := storedAction_code_eq h action
    rw [ha] at hcode hgood
    refine ⟨u, (Result.okOr (decide (a.code ≠ action) || decide (min debounce.toNat 50 ≠ debounce.toNat))).code,
      exec_answered .setTrip ht rfl rfl rfl rfl (hserve.trans ?_), ?_, fun h8 => absurd h (by omega),
      fun _ => ⟨?_, ?_, ?_, ?_, (Result.code_okOr _).2, ?_⟩, ⟨hconf.state, hconf.count⟩, hconf.others, fun j hj => ?_,
      hconf.level, hconf.handed, hstands u rfl⟩
    · rw [u.tripReply_eq]
    · rw [hconf.action, hcode]
    · rw [hnew]; rfl
    · rw [hnew]
    · rw [hnew]
      exact lineState_ofByte polarity _
    · rw [(Result.code_okOr _).1, Bool.or_eq_false_iff, decide_eq_false_iff_not, decide_eq_false_iff_not, not_not, not_not,
        hgood]
      omega
    · rw [hnew, hnow]
      exact ⟨hwritten.equals, hwritten.starts, hwritten.immediate, hwritten.runs, hwritten.ends⟩
    · rw [hinputs]
      exact Vector.getElem_set_ne h j.isLt fun e => hj e.symm
  · generalize ha : storedAction i action = a
    have hserve := s.serveSetTrip_of_other h action polarity debounce
    rw [ha] at hserve
    have hupdate := s.writeAction_update i a
    have hcond : ((s.writeAction i a).trip.sources[i]).condition = (s.trip.sources[i]).condition := by rw [hupdate]; simp
    have hconf : s.Configured (s.writeAction i a) i a :=
      State.configured_of_taken _ (State.conditionTaken_refl _ i) rfl (fun hne => absurd hcond hne) (s.writeAction_agrees i a)
    have hcode : (storedAction i action).code.toNat = _ := storedAction_code i action
    rw [ha] at hcode
    refine ⟨s.writeAction i a, (Result.okOr (decide (a.code ≠ action))).code, exec_answered .setTrip ht rfl rfl rfl rfl (hserve.trans ?_), by rw [hconf.action, hcode],
      fun _ => ⟨?_, by simp, ?_, (Result.code_okOr _).2⟩, fun h8 => absurd h8 h, ⟨hconf.state, hconf.count⟩, hconf.others,
      fun j _ => by simp, hconf.level, hconf.handed, by simp, by simp, by simp, by simp, by simp, by simp, by simp⟩
    · rw [State.tripReply_eq]
    · rw [hconf.action, hupdate]
      simp
    · rw [(Result.code_okOr _).1, decide_eq_false_iff_not, not_not, hconf.action]

/-! ## CLEAR_TRIPS (R157) -/

/-- The trip unit with its LATCHED sources cleared and their slot sets emptied, before the level is recomputed. -/
def TripUnit.unlatched (t : TripUnit) : TripUnit := { t with
  sources := t.sources.map Source.cleared
  faultSet := if t.sources[13].state = .latched then 0 else t.faultSet
  lostSet := if t.sources[14].state = .latched then 0 else t.lostSet }

theorem TripUnit.unlatched_source (t : TripUnit) (i : Fin 15) : t.unlatched.sources[i] =
    if (t.sources[i]).state = .latched then { t.sources[i] with state := .clear } else t.sources[i] := by
  have hmap : t.unlatched.sources[i] = (t.sources[i]).cleared := by simp [TripUnit.unlatched]
  rw [hmap, Source.cleared]

theorem TripUnit.unlatched_active (t : TripUnit) : t.unlatched.countIn .active = t.countIn .active := by
  simp only [TripUnit.countIn, TripUnit.unlatched, Vector.toList_map, List.countP_map]
  refine List.countP_congr fun src _ => ?_
  cases hs : src.state <;> simp [Source.cleared, hs]

/-- The records of the sources cleared, in index order: the TRIP record alone changes. -/
theorem State.clearNotices_eq (t : TripUnit) (s : State) : State.clearNotices t s = { s with
    notice := { s.notice with
      trip := (List.finRange 15).foldl (fun (p : Option (Pending TripContent)) i =>
        if (t.sources[i]).state = .latched ∧ (t.sources[i]).action ≠ .ignore
        then Pending.coalesce p ⟨i, (s.trip.sources[i]).state, s.trip.level, s.trip.slotSet i⟩ else p) s.notice.trip } } := by
  have hlist : ([0, 1, 2, 3, 4, 5, 6, 7, 8, 9, 10, 11, 12, 13, 14] : List (Fin 15)) = List.finRange 15 := by decide
  rw [State.clearNotices, hlist]
  suffices h : ∀ (is : List (Fin 15)) (p : Option (Pending TripContent)),
      is.foldl (fun (u : State) (i : Fin 15) =>
        if (t.sources[i]).state = .latched ∧ (t.sources[i]).action ≠ .ignore then u.tripNotice i else u)
        { s with notice := { s.notice with trip := p } } = { s with notice := { s.notice with
          trip := is.foldl (fun (p : Option (Pending TripContent)) i =>
            if (t.sources[i]).state = .latched ∧ (t.sources[i]).action ≠ .ignore
            then Pending.coalesce p ⟨i, (s.trip.sources[i]).state, s.trip.level, s.trip.slotSet i⟩ else p) p } } from
    h _ s.notice.trip
  intro is
  induction is with
  | nil => exact fun p => rfl
  | cons i is ih =>
    intro p
    by_cases hi : (t.sources[i]).state = .latched ∧ (t.sources[i]).action ≠ .ignore
    · rw [List.foldl_cons, List.foldl_cons, if_pos hi, if_pos hi, ← ih]
      rfl
    · rw [List.foldl_cons, List.foldl_cons, if_neg hi, if_neg hi, ih]

/-- Settles O58: the sources cleared, the level recomputed once, and the records in index order. -/
theorem clearTripsClearsLatched : Obligations.ClearTripsClearsLatched := by
  intro s tag ht
  have hclear : s.clearTrips = State.clearNotices s.trip (s.setTrip s.trip.unlatched).recompute := rfl
  rw [State.clearNotices_eq, State.recompute_update] at hclear
  have hsources : s.clearTrips.trip.sources = s.trip.unlatched.sources := by rw [hclear]; rfl
  have hlevel : s.clearTrips.trip.level = levelOf s.trip.unlatched.sources := by rw [hclear]; rfl
  have hactive : s.clearTrips.trip.countIn .active = s.trip.countIn .active := by
    rw [TripUnit.countIn, hsources]
    exact s.trip.unlatched_active
  have hserve : s.serve .clearTrips [] = (s.clearTrips, [0x00,
      byte (s.trip.sources.toList.countP fun src => src.state == .latched),
      byte (s.trip.sources.toList.countP fun src => src.state == .active), s.clearTrips.trip.level.code]) := by
    show (s.clearTrips, [_, byte (s.trip.countIn .latched), byte (s.clearTrips.trip.countIn .active), _]) = _
    rw [hactive]
    rfl
  refine ⟨s.clearTrips, exec_answered .clearTrips ht rfl rfl rfl rfl hserve, fun i => ?_, ?_, ?_, by rw [hlevel, hsources], ?_,
    ⟨?_, ?_⟩, ?_, by simp, by simp, by simp, by simp, by simp, by simp, by simp⟩
  · rw [hsources, TripUnit.unlatched_source]
  · rw [hclear]; rfl
  · rw [hclear]; rfl
  · rw [hclear]; rfl
  · rw [hlevel, hclear]; rfl
  · rw [hlevel, hclear]; rfl
  · have hcleared (i : Fin 15) (hi : (s.trip.sources[i]).state = .latched) : (s.trip.unlatched.sources[i]).state = .clear := by
      rw [TripUnit.unlatched_source, if_pos hi]
    have hslot (i : Fin 15) : s.clearTrips.trip.slotSet i = s.trip.unlatched.slotSet i := by rw [hclear]; rfl
    have hfold : (fun (p : Option (Pending TripContent)) (i : Fin 15) =>
        if (s.trip.sources[i]).state = .latched ∧ (s.trip.sources[i]).action ≠ .ignore
        then Pending.coalesce p ⟨i, (s.trip.unlatched.sources[i]).state, levelOf s.trip.unlatched.sources,
          s.trip.unlatched.slotSet i⟩ else p) =
      fun p i => if (s.trip.sources[i]).state = .latched ∧ (s.trip.sources[i]).action ≠ .ignore
        then Pending.coalesce p ⟨i, .clear, s.clearTrips.trip.level, s.clearTrips.trip.slotSet i⟩ else p := by
      funext p i
      by_cases hi : (s.trip.sources[i]).state = .latched ∧ (s.trip.sources[i]).action ≠ .ignore
      · rw [if_pos hi, if_pos hi, hcleared i hi.1, hslot, hlevel]
      · rw [if_neg hi, if_neg hi]
    rw [← hfold, hclear]
    rfl

end Sys2Proof.Machine
end

section
/-! SUPPORT. The completion of a measurement window in its stages (R104): the figures, the judgement of the stroke (R96 to R99), the
classifier (R117 to R123), the tare (R108, R109) and the next window (R101). -/

namespace Sys2Proof.Machine

/-! ## The stages -/

/-- The figures of the completed window stored (R104). -/
def State.windowFigured (s : State) (w : Window) (p : Nat) : State :=
  s.setStroke { s.stroke with fm := w.figure p, lf := w.load p, window := none }

/-- The stroke judged by the window (R96 to R98). -/
def State.windowJudged (s : State) (w : Window) (p : Nat) : State := (s.windowFigured w p).judge (w.figure p)

/-- The record that the classifier takes (R106). -/
def State.windowRecord (s : State) (w : Window) (p : Nat) : WindowRecord :=
  w.record (w.figure p) (w.load p) s.stroke.state

/-- The classifier's stage, once the settings load has ended (R113, R117). -/
def State.windowRecorded (s : State) (w : Window) (p : Nat) : State :=
  if s.startup.phase = .started then (s.windowJudged w p).takeWindowRecord (s.windowRecord w p) else s.windowJudged w p

/-- The state that the last pulse of a window leaves. -/
def State.windowCompleted (s : State) (w : Window) (p : Nat) : State :=
  ((s.windowRecorded w p).tareWindow (w.load p)).openWindow

theorem exec_sidxPulse_completes {s : State} {w : Window} {cycles : Nat} (h : s.CompletesWindow w cycles) :
    exec (.sidxPulse cycles) s = .next (s.windowCompleted w (w.p + cycles)).commit := by
  obtain ⟨hphase, hwindow, hpos, hlow, hlast⟩ := h
  have hno : ¬ overflowCount ≤ w.p + cycles := by rw [overflowCount]; omega
  have hmax : max (w.p + cycles) 1 = w.p + cycles := max_eq_left hpos
  rw [exec_sidxPulse, if_neg hphase]
  simp only [State.indexPulse, hwindow, if_neg hno, State.pulseInWindow, if_pos hlast, State.completeWindow, frequencyFigure,
    loadFigure, hmax]
  rfl

@[simp] theorem State.windowFigured_frame (s : State) (w : Window) (p : Nat) :
    (s.windowFigured w p).trip = s.trip ∧ (s.windowFigured w p).classifier = s.classifier ∧
    (s.windowFigured w p).notice = s.notice ∧ (s.windowFigured w p).settings = s.settings ∧
    (s.windowFigured w p).startup = s.startup ∧ (s.windowFigured w p).seq = s.seq ∧ (s.windowFigured w p).queue = s.queue ∧
    (s.windowFigured w p).interp = s.interp ∧ (s.windowFigured w p).link = s.link ∧
    (s.windowFigured w p).override = s.override ∧
    (s.windowFigured w p).stroke = { s.stroke with fm := w.figure p, lf := w.load p, window := none } := by
  simp [State.windowFigured]

@[simp] theorem State.windowJudged_frame (s : State) (w : Window) (p : Nat) :
    (s.windowJudged w p).classifier = s.classifier ∧ (s.windowJudged w p).settings = s.settings ∧
    (s.windowJudged w p).startup = s.startup ∧ (s.windowJudged w p).seq.engine = s.seq.engine ∧
    (s.windowJudged w p).queue = s.queue ∧ (s.windowJudged w p).interp = s.interp ∧ (s.windowJudged w p).link = s.link ∧
    (s.windowJudged w p).override = s.override ∧ (s.windowJudged w p).notice.band = s.notice.band ∧
    (s.windowJudged w p).stroke.fm = w.figure p ∧ (s.windowJudged w p).stroke.lf = w.load p ∧
    (s.windowJudged w p).stroke.fSet = s.stroke.fSet := by
  simp [State.windowJudged]

@[simp] theorem State.windowRecorded_frame (s : State) (w : Window) (p : Nat) :
    (s.windowRecorded w p).settings = s.settings ∧ (s.windowRecorded w p).seq.engine = s.seq.engine ∧
    (s.windowRecorded w p).queue = s.queue ∧ (s.windowRecorded w p).interp = s.interp ∧
    (s.windowRecorded w p).link = s.link ∧ (s.windowRecorded w p).override = s.override ∧
    (s.windowRecorded w p).classifier.bands = s.classifier.bands ∧
    (s.windowRecorded w p).stroke = (s.windowJudged w p).stroke ∧
    (s.windowRecorded w p).notice.tareDone = (s.windowJudged w p).notice.tareDone := by
  simp only [State.windowRecorded]
  split <;> simp

/-- What the tare's stage and the opening leave of the state before. -/
@[simp] theorem State.windowCompleted_frame (s : State) (w : Window) (p : Nat) :
    (s.windowCompleted w p).classifier = (s.windowRecorded w p).classifier ∧
    (s.windowCompleted w p).trip = (s.windowRecorded w p).trip ∧
    (s.windowCompleted w p).notice.band = (s.windowRecorded w p).notice.band ∧
    (s.windowCompleted w p).seq.engine = s.seq.engine ∧ (s.windowCompleted w p).queue = s.queue ∧
    (s.windowCompleted w p).interp = s.interp ∧ (s.windowCompleted w p).link = s.link ∧
    (s.windowCompleted w p).override = s.override ∧ (s.windowCompleted w p).stroke.fm = w.figure p ∧
    (s.windowCompleted w p).stroke.lf = w.load p ∧ (s.windowCompleted w p).stroke.fSet = s.stroke.fSet := by
  simp [State.windowCompleted]

/-! ## The stroke judgement (R96 to R99) -/

/-- The stall condition that `u` holds has been handed on as source 9's where it changed (R99), and no other source has moved. -/
def State.StallTaken (s u : State) : Prop :=
  (u.stroke.stall ≠ s.stroke.stall → (u.trip.sources[9]).condition = u.stroke.stall) ∧
  ∀ j : Fin 15, j ≠ 9 → u.trip.sources[j] = s.trip.sources[j]

theorem State.stallTaken_of_eq {s u : State} (ht : u.trip = s.trip) (hs : u.stroke.stall = s.stroke.stall) :
    s.StallTaken u := ⟨fun h => absurd hs h, fun _ _ => by rw [ht]⟩

theorem State.StallTaken.congr {s u v : State} (h : s.StallTaken u) (ht : v.trip = u.trip)
    (hs : v.stroke.stall = u.stroke.stall) : s.StallTaken v := by
  simpa only [State.StallTaken, ht, hs] using h

theorem State.setStall_taken (s : State) (k : StrokeUnit) (b : Bool) (hk : k.stall = s.stroke.stall) :
    s.StallTaken ((s.setStroke k).setStall b) := by
  obtain ⟨hself, hothers⟩ := State.setStall_source (s.setStroke k) b
  rw [State.StallTaken, State.setStall_stroke]
  exact ⟨fun h => hself fun e => h (e.symm.trans hk), hothers⟩

theorem State.strokeRuns_taken (s : State) : s.StallTaken s.strokeRuns := by
  refine (s.setStall_taken { s.stroke with state := .running, slow := 0 } false rfl).congr ?_ ?_ <;>
    simp only [State.strokeRuns] <;> split <;> simp

theorem State.strokeStalls_taken (s : State) : s.StallTaken s.strokeStalls :=
  (s.setStall_taken { s.stroke with state := .stalled, startTimer := none, slow := 0 } true rfl).congr
    (by simp [State.strokeStalls]) (by simp [State.strokeStalls])

/-- The judgement hands on the stall condition where it changes that. -/
theorem State.judge_taken (s : State) (fm : Nat) : s.StallTaken (s.judge fm) := by
  cases hs : s.stroke.state <;> simp only [State.judge, hs]
  case starting =>
    split
    · split
      · exact State.stallTaken_of_eq rfl rfl
      · exact State.strokeRuns_taken (s.setStroke { s.stroke with startTimer := none, good := 0 })
    · exact State.stallTaken_of_eq rfl rfl
  case running =>
    split
    · split
      · exact State.stallTaken_of_eq rfl rfl
      · exact s.strokeStalls_taken
    · exact State.stallTaken_of_eq rfl rfl
  case stalled =>
    split
    · exact s.strokeRuns_taken
    · exact State.stallTaken_of_eq rfl rfl
  all_goals exact State.stallTaken_of_eq rfl rfl

theorem goodWindow_iff (fm fSet : Nat) : goodWindow fm fSet = true ↔ ((fm : Int) - fSet).natAbs * 10 ≤ fSet := by
  simp [goodWindow]

theorem slowWindow_iff (fm fSet : Nat) : slowWindow fm fSet = true ↔ fm * 2 < fSet := by simp [slowWindow]

/-- Entry into RUNNING leaves the stroke with the stall condition false, and takes a waiting tare to MEASURING. -/
theorem State.strokeRuns_stroke (s : State) : s.strokeRuns.stroke = { s.stroke with
    state := .running, slow := 0, stall := false
    tareState := if s.stroke.tareState = .waiting then .measuring else s.stroke.tareState } := by
  simp only [State.strokeRuns, State.setStall_stroke, State.setStroke_stroke]
  split <;> simp [State.setStall_stroke]

theorem StrokeUnit.not_waiting_of {k : StrokeUnit} (h : k.tareInFlight = false) :
    k.tareState ≠ .waiting ∧ k.tareState ≠ .measuring := by
  constructor <;> intro he <;> simp [StrokeUnit.tareInFlight, he] at h

/-- Without a tare in flight an entry into RUNNING leaves the tare's state. -/
theorem State.strokeRuns_of_no_tare {s : State} (h : s.stroke.tareInFlight = false) :
    s.strokeRuns.stroke = { s.stroke with state := .running, slow := 0, stall := false } := by
  rw [State.strokeRuns_stroke, if_neg (StrokeUnit.not_waiting_of h).1]

section
variable {s : State} {fm : Nat}

theorem State.judge_starting_first (hs : s.stroke.state = .starting) (hg : goodWindow fm s.stroke.fSet = true)
    (h : s.stroke.good = 0) : s.judge fm = s.setStroke { s.stroke with good := 1 } := by
  simp only [State.judge, hs, hg, h, if_true]

theorem State.judge_starting_second (hs : s.stroke.state = .starting) (hg : goodWindow fm s.stroke.fSet = true)
    (h : s.stroke.good ≠ 0) : s.judge fm = (s.setStroke { s.stroke with startTimer := none, good := 0 }).strokeRuns := by
  simp only [State.judge, hs, hg, h, if_true, if_false]

theorem State.judge_starting_bad (hs : s.stroke.state = .starting) (hg : goodWindow fm s.stroke.fSet = false) :
    s.judge fm = s.setStroke { s.stroke with good := 0 } := by
  simp only [State.judge, hs, hg]
  rfl

theorem State.judge_running_first (hs : s.stroke.state = .running) (hl : slowWindow fm s.stroke.fSet = true)
    (h : s.stroke.slow = 0) : s.judge fm = s.setStroke { s.stroke with slow := 1 } := by
  simp only [State.judge, hs, hl, h, if_true]

theorem State.judge_running_second (hs : s.stroke.state = .running) (hl : slowWindow fm s.stroke.fSet = true)
    (h : s.stroke.slow ≠ 0) : s.judge fm = s.strokeStalls := by
  simp only [State.judge, hs, hl, h, if_true, if_false]

theorem State.judge_running_fast (hs : s.stroke.state = .running) (hl : slowWindow fm s.stroke.fSet = false) :
    s.judge fm = s.setStroke { s.stroke with slow := 0 } := by
  simp only [State.judge, hs, hl]
  rfl

theorem State.judge_stalled_good (hs : s.stroke.state = .stalled) (hg : goodWindow fm s.stroke.fSet = true) :
    s.judge fm = s.strokeRuns := by
  simp only [State.judge, hs, hg, if_true]

theorem State.judge_stalled_bad (hs : s.stroke.state = .stalled) (hg : goodWindow fm s.stroke.fSet = false) :
    s.judge fm = s := by
  simp only [State.judge, hs, hg]
  rfl

theorem State.judge_stopped (hs : s.stroke.state = .stopped ∨ s.stroke.state = .stopping) : s.judge fm = s := by
  obtain hs | hs := hs <;> simp only [State.judge, hs]

end

/-! ## The classifier's stage (R117 to R123) -/

/-- The classifier's stage hands on a condition of source 8 alone. -/
theorem State.takeWindowRecord_source (s : State) (r : WindowRecord) :
    ((s.takeWindowRecord r).classifier.overload ≠ s.classifier.overload →
      ((s.takeWindowRecord r).trip.sources[8]).condition = (s.takeWindowRecord r).classifier.overload) ∧
    ∀ j : Fin 15, j ≠ 8 → (s.takeWindowRecord r).trip.sources[j] = s.trip.sources[j] := by
  generalize hv : (if r.runningAtCompletion then
    s.setOverload (decide (s.params.overloadCeiling ≤ cuttingLoad r.lf s.params.airFigure)) else s) = v
  have hstage : (s.takeWindowRecord r).trip = v.trip ∧
      (s.takeWindowRecord r).classifier.overload = v.classifier.overload := by
    simp only [State.takeWindowRecord, hv]
    split
    · simp only [State.classify, State.confirmBand]
      repeat' split
      all_goals simp
    · exact ⟨rfl, rfl⟩
  rw [hstage.1, hstage.2, ← hv]
  split
  · obtain ⟨hself, hothers⟩ := State.setOverload_source s
      (decide (s.params.overloadCeiling ≤ cuttingLoad r.lf s.params.airFigure))
    rw [State.setOverload_classifier]
    exact ⟨fun h => hself (Ne.symm h), hothers⟩
  · exact ⟨fun h => absurd rfl h, fun _ _ => rfl⟩

/-- The overload condition after the stage: judged where the stroke was RUNNING at completion (R119). -/
theorem State.takeWindowRecord_overload (s : State) (r : WindowRecord) : (s.takeWindowRecord r).classifier.overload =
    if r.runningAtCompletion then decide (s.params.overloadCeiling ≤ cuttingLoad r.lf s.params.airFigure)
    else s.classifier.overload := by
  simp only [State.takeWindowRecord, State.classify, State.confirmBand]
  cases r.runningAtCompletion <;> simp only [Bool.false_eq_true, if_false, if_true] <;>
    (repeat' split) <;> simp [State.setOverload_classifier]

/-- A window that does not qualify touches the overload condition alone. -/
theorem State.takeWindowRecord_unqualified {s : State} {r : WindowRecord} (h : r.qualifies s.params.classFloor = false) :
    (s.takeWindowRecord r).classifier =
      { s.classifier with overload := (s.takeWindowRecord r).classifier.overload } ∧
    (s.takeWindowRecord r).notice.band = s.notice.band := by
  simp only [State.takeWindowRecord, h, Bool.false_eq_true, if_false]
  split <;> simp [State.setOverload_classifier]

/-- The lowest band whose ceiling reaches DF, or band 7 (R121). -/
theorem bandOf_eq {bands : Vector BandEntry 8} {df : Nat} {band : Fin 8}
    (hbelow : ∀ j : Fin 8, j < band → (bands[j]).ceiling < df) (hreach : band = 7 ∨ df ≤ (bands[band]).ceiling) :
    bandOf bands df = band := by
  rw [bandOf]
  fin_cases band <;> simp [Fin.forall_fin_succ] at hbelow hreach <;> split_ifs <;> first | rfl | omega

/-- The band of a window that qualifies, confirmed (R122, R123). -/
structure State.BandConfirmed (s u : State) (band : Fin 8) (df : Nat) : Prop where
  same : band = s.classifier.material →
    u.classifier = ⟨s.classifier.bands, s.classifier.material, none, df, u.classifier.overload⟩ ∧
    u.notice.band = s.notice.band
  confirms : band ≠ s.classifier.material → s.classifier.candidate = some band →
    u.classifier = ⟨s.classifier.bands, band, none, df, u.classifier.overload⟩ ∧
    u.notice.band = Pending.coalesce s.notice.band ⟨band, s.classifier.material, df⟩
  becomes : band ≠ s.classifier.material → s.classifier.candidate ≠ some band →
    u.classifier = ⟨s.classifier.bands, s.classifier.material, some band, df, u.classifier.overload⟩ ∧
    u.notice.band = s.notice.band

theorem State.takeWindowRecord_qualified {s : State} {r : WindowRecord} (h : r.qualifies s.params.classFloor = true) :
    s.BandConfirmed (s.takeWindowRecord r)
      (bandOf s.classifier.bands (densityFigure (cuttingLoad r.lf s.params.airFigure) r.averageBite))
      (densityFigure (cuttingLoad r.lf s.params.airFigure) r.averageBite) := by
  generalize hv : (if r.runningAtCompletion then
    s.setOverload (decide (s.params.overloadCeiling ≤ cuttingLoad r.lf s.params.airFigure)) else s) = v
  have hkept : v.classifier = { s.classifier with overload := v.classifier.overload } ∧ v.notice.band = s.notice.band := by
    rw [← hv]
    split <;> simp [State.setOverload_classifier]
  obtain ⟨hclass, hband⟩ := hkept
  generalize hdf : densityFigure (cuttingLoad r.lf s.params.airFigure) r.averageBite = df
  have hstage : s.takeWindowRecord r = (v.setClassifier { v.classifier with df := df }).confirmBand
      (bandOf s.classifier.bands df) := by
    simp only [State.takeWindowRecord, hv, h, if_true, State.classify, hdf]
    rw [hclass]
  rw [hstage, hclass]
  generalize bandOf s.classifier.bands df = band
  constructor
  case same => intro hb; simp [State.confirmBand, hb, hband]
  case confirms => intro hb hc; simp [State.confirmBand, hb, hc, hband, State.noteBand]
  case becomes => intro hb hc; simp [State.confirmBand, hb, hc, hband]

/-! ## The next window (R101), and the statements about a completion -/

theorem State.openWindow_stroke (s : State) : s.openWindow.stroke = { s.stroke with
    window := some ⟨2 ^ s.settings.params.windowExp, 0, 0, 0, 0, false, true, decide (s.stroke.state = .running)⟩
    tare := if s.stroke.tareState = .measuring then s.stroke.tare.map fun t => { t with windowCounts := true }
      else s.stroke.tare } := rfl

theorem State.tareWindow_windowExp (s : State) (lf : Nat) :
    (s.tareWindow lf).settings.params.windowExp = s.settings.params.windowExp := by
  simp only [State.tareWindow]
  repeat' split
  all_goals simp [State.tareSuccess]

theorem State.windowCompleted_window (s : State) (w : Window) (p : Nat) : (s.windowCompleted w p).stroke.window =
    some ⟨2 ^ s.settings.params.windowExp, 0, 0, 0, 0, false, true, decide ((s.windowCompleted w p).stroke.state = .running)⟩ := by
  simp only [State.windowCompleted, State.openWindow_stroke, State.tareWindow_windowExp, State.windowRecorded_frame]

theorem WindowRecord.qualifies_iff (r : WindowRecord) (n : Nat) : r.qualifies n = true ↔
    r.material = true ∧ r.runningAtOpening = true ∧ r.runningAtCompletion = true ∧ n ≤ r.averageBite := by
  simp [WindowRecord.qualifies, and_assoc]

theorem State.windowRecord_fields (s : State) (w : Window) (p : Nat) :
    (s.windowRecord w p).lf = w.load p ∧ (s.windowRecord w p).averageBite = w.distance / 1000 / w.w ∧
    ((s.windowRecord w p).material = true ↔ w.frameSeen = true ∧ w.material = true) ∧
    (s.windowRecord w p).runningAtOpening = w.runningAtOpening ∧
    ((s.windowRecord w p).runningAtCompletion = true ↔ s.stroke.state = .running) := by
  refine ⟨rfl, rfl, ?_, rfl, ?_⟩ <;> simp [State.windowRecord, Window.record]

/-- Settles O34: the figures, and what the classifier's stage makes of the record. -/
theorem windowCompletionGivesFigures : Obligations.WindowCompletionGivesFigures := by
  intro s w cycles h
  dsimp only
  have hexec := exec_sidxPulse_completes h
  generalize w.p + cycles = p at hexec ⊢
  obtain ⟨hlf, hbite, hmaterial, hopening, hcompletion⟩ := s.windowRecord_fields w p
  have hjudged : (s.windowJudged w p).trip.sources[8] = s.trip.sources[8] :=
    ((s.windowFigured w p).judge_taken (w.figure p)).2 8 (by decide)
  have hparams : (s.windowJudged w p).params = s.settings.params := by simp
  have hcl : cuttingLoad (s.windowRecord w p).lf (s.windowJudged w p).params.airFigure =
      w.load p - s.settings.params.airFigure := by rw [hlf, hparams, cuttingLoad]
  have hqualifies : (s.windowRecord w p).qualifies (s.windowJudged w p).params.classFloor = true ↔
      s.stroke.state = .running ∧ w.frameSeen = true ∧ w.material = true ∧ w.runningAtOpening = true ∧
        s.settings.params.classFloor ≤ w.distance / 1000 / w.w := by
    rw [WindowRecord.qualifies_iff, hmaterial, hopening, hcompletion, hbite, hparams]
    tauto
  have hsource : (s.windowRecorded w p).classifier.overload ≠ s.classifier.overload →
      ((s.windowRecorded w p).trip.sources[8]).condition = (s.windowRecorded w p).classifier.overload := by
    simp only [State.windowRecorded]
    split
    · simpa using (State.takeWindowRecord_source (s.windowJudged w p) (s.windowRecord w p)).1
    · simp
  refine ⟨s.windowCompleted w p, hexec, by simp [Window.figure], by simp [Window.load], s.windowCompleted_window w p, ?_, ?_,
    fun hno => ?_, fun hyes band hbelow hreach => ?_, by simp, by simp, by simp, by simp, by simp, by simp, by simp⟩
  · rw [(s.windowCompleted_frame w p).1, State.windowRecorded]
    by_cases hp : s.startup.phase = .started
    · rw [if_pos hp, State.takeWindowRecord_overload, hcl, hparams]
      simp only [hcompletion, hp, true_and]
      simp
    · rw [if_neg hp, if_neg fun hj => hp hj.1]
      simp
  · simpa using hsource
  · rw [(s.windowCompleted_frame w p).1, (s.windowCompleted_frame w p).2.2.1, State.windowRecorded]
    by_cases hp : s.startup.phase = .started
    · rw [if_pos hp]
      have hun : (s.windowRecord w p).qualifies (s.windowJudged w p).params.classFloor = false :=
        Bool.eq_false_iff.2 fun hq => by
          obtain ⟨hrun, hrest⟩ := hqualifies.1 hq
          exact hno ⟨⟨hp, hrun⟩, hrest⟩
      simpa using State.takeWindowRecord_unqualified hun
    · rw [if_neg hp]
      simp
  · obtain ⟨⟨hp, hrun⟩, hrest⟩ := hyes
    have hconfirmed := State.takeWindowRecord_qualified (hqualifies.2 ⟨hrun, hrest⟩)
    have hclass : (s.windowJudged w p).classifier = s.classifier := by simp
    rw [hcl, hbite, hclass, densityFigure, bandOf_eq hbelow hreach] at hconfirmed
    have hdone : s.windowRecorded w p = (s.windowJudged w p).takeWindowRecord (s.windowRecord w p) := by
      rw [State.windowRecorded, if_pos hp]
    rw [← hdone] at hconfirmed
    obtain ⟨hsame, hconfirms, hbecomes⟩ := hconfirmed
    simp only [State.windowJudged_frame] at hsame hconfirms hbecomes
    simpa using ⟨hsame, hconfirms, hbecomes⟩

/-- Without a tare being measured the tare's stage does nothing. -/
theorem State.tareWindow_of_not_measuring {s : State} (lf : Nat) (h : s.stroke.tareState ≠ .measuring) :
    s.tareWindow lf = s := by
  rw [State.tareWindow, if_neg h]

/-- Without a tare in flight the stroke after the completion is that of the judgement, with the next window. -/
theorem State.windowCompleted_stroke {s : State} {w : Window} {p : Nat} (k : StrokeUnit)
    (hk : (s.windowJudged w p).stroke = { k with fm := w.figure p, lf := w.load p, window := none })
    (ht : k.tareState ≠ .measuring) :
    (s.windowCompleted w p).stroke = { k with
      fm := w.figure p, lf := w.load p
      window := some ⟨2 ^ s.settings.params.windowExp, 0, 0, 0, 0, false, true, decide (k.state = .running)⟩ } := by
  have hrecorded : (s.windowRecorded w p).stroke = { k with fm := w.figure p, lf := w.load p, window := none } := by
    simpa using hk
  have hstill : (s.windowRecorded w p).tareWindow (w.load p) = s.windowRecorded w p :=
    State.tareWindow_of_not_measuring _ (by rw [hrecorded]; exact ht)
  rw [State.windowCompleted, hstill, State.openWindow_stroke, hrecorded]
  simp [ht]

/-- Settles O35: the judgement in each stroke state. -/
theorem windowJudgesStroke : Obligations.WindowJudgesStroke := by
  intro s w cycles h htare
  dsimp only
  have hexec := exec_sidxPulse_completes h
  generalize w.p + cycles = p at hexec ⊢
  have hnot := (StrokeUnit.not_waiting_of htare).2
  have hgood := goodWindow_iff (w.figure p) s.stroke.fSet
  have hslow := slowWindow_iff (w.figure p) s.stroke.fSet
  have hbad (hb : ¬ ((w.figure p : Int) - s.stroke.fSet).natAbs * 10 ≤ s.stroke.fSet) :
      goodWindow (w.figure p) s.stroke.fSet = false := Bool.eq_false_iff.2 (mt hgood.1 hb)
  have hfigured : (s.windowFigured w p).stroke = { s.stroke with fm := w.figure p, lf := w.load p, window := none } := rfl
  refine ⟨s.windowCompleted w p, hexec, fun hs hg h0 => ?_, fun hs hg h0 => ?_, fun hs hg => ?_, fun hs hl h0 => ?_,
    fun hs hl h0 => ?_, fun hs hl => ?_, fun hs hg => ?_, fun hs hg => ?_, fun hs => ?_, ?_⟩
  · exact State.windowCompleted_stroke { s.stroke with good := 1 } (by
      rw [State.windowJudged, State.judge_starting_first (s := s.windowFigured w p) hs (hgood.2 hg) h0]; rfl) hnot
  · exact State.windowCompleted_stroke { s.stroke with state := .running, startTimer := none, good := 0, slow := 0, stall := false } (by
      rw [State.windowJudged, State.judge_starting_second (s := s.windowFigured w p) hs (hgood.2 hg) h0,
        State.strokeRuns_of_no_tare]
      · rfl
      · exact htare) hnot
  · exact State.windowCompleted_stroke { s.stroke with good := 0 } (by
      rw [State.windowJudged, State.judge_starting_bad (s := s.windowFigured w p) hs (hbad hg)]; rfl) hnot
  · exact State.windowCompleted_stroke { s.stroke with slow := 1 } (by
      rw [State.windowJudged, State.judge_running_first (s := s.windowFigured w p) hs (hslow.2 hl) h0]; rfl) hnot
  · exact State.windowCompleted_stroke { s.stroke with state := .stalled, startTimer := none, slow := 0, stall := true } (by
      rw [State.windowJudged, State.judge_running_second (s := s.windowFigured w p) hs (hslow.2 hl) h0,
        (State.strokeStalls_spec (s := s.windowFigured w p) htare).1]; rfl) hnot
  · exact State.windowCompleted_stroke { s.stroke with slow := 0 } (by
      rw [State.windowJudged, State.judge_running_fast (s := s.windowFigured w p) hs
        (Bool.eq_false_iff.2 (mt hslow.1 (Nat.not_lt.2 hl)))]; rfl) hnot
  · exact State.windowCompleted_stroke { s.stroke with state := .running, slow := 0, stall := false } (by
      rw [State.windowJudged, State.judge_stalled_good (s := s.windowFigured w p) hs (hgood.2 hg),
        State.strokeRuns_of_no_tare]
      · rfl
      · exact htare) hnot
  · exact State.windowCompleted_stroke s.stroke (by
      rw [State.windowJudged, State.judge_stalled_bad (s := s.windowFigured w p) hs (hbad hg)]; rfl) hnot
  · exact State.windowCompleted_stroke s.stroke (by
      rw [State.windowJudged, State.judge_stopped (s := s.windowFigured w p) hs]; rfl) hnot
  · have hjudged := (s.windowFigured w p).judge_taken (w.figure p)
    have htrip : (s.windowCompleted w p).trip.sources[9] = (s.windowJudged w p).trip.sources[9] := by
      rw [(s.windowCompleted_frame w p).2.1, State.windowRecorded]
      split
      · exact (State.takeWindowRecord_source _ _).2 9 (by decide)
      · rfl
    have hstall : (s.windowCompleted w p).stroke.stall = (s.windowJudged w p).stroke.stall := by
      simp [State.windowCompleted]
    rw [htrip, hstall]
    exact hjudged.1

end Sys2Proof.Machine
end


section
/-! SUPPORT. The drive frame (R127) as a chain of stages: the frame opened, the interpolator's work, the frame's report, what the
sequencer makes of it, the setpoints, the timers and the records sent; and what each stage leaves of the program. -/

namespace Sys2Proof.Machine

/-! ## What a stage leaves of the program -/

/-- The program's part of the state: the queue, the interpolator, the sequencer but for the changes handed on to it, its notices, the
settings and the override stand. -/
structure State.SameProgram (s u : State) : Prop where
  queue : u.queue = s.queue
  interp : u.interp = s.interp
  engine : u.seq.engine = s.seq.engine
  resume : u.seq.resume = s.seq.resume
  dwell : u.seq.dwellCount = s.seq.dwellCount
  starve : u.seq.starve = s.seq.starve
  interrupted : u.seq.interrupted = s.seq.interrupted
  engineState : u.notice.engineState = s.notice.engineState
  segmentDone : u.notice.segmentDone = s.notice.segmentDone
  queueLow : u.notice.queueLow = s.notice.queueLow
  settings : u.settings = s.settings
  override : u.override = s.override

theorem State.SameProgram.refl (s : State) : s.SameProgram s := by constructor <;> rfl

theorem State.SameProgram.trans {s u v : State} (h : s.SameProgram u) (k : u.SameProgram v) : s.SameProgram v where
  queue := k.queue.trans h.queue
  interp := k.interp.trans h.interp
  engine := k.engine.trans h.engine
  resume := k.resume.trans h.resume
  dwell := k.dwell.trans h.dwell
  starve := k.starve.trans h.starve
  interrupted := k.interrupted.trans h.interrupted
  engineState := k.engineState.trans h.engineState
  segmentDone := k.segmentDone.trans h.segmentDone
  queueLow := k.queueLow.trans h.queueLow
  settings := k.settings.trans h.settings
  override := k.override.trans h.override

theorem State.openFrame_sameProgram (s : State) : s.SameProgram s.openFrame := by constructor <;> simp

theorem State.frameReport_sameProgram (s : State) (a : Nat) (m : Bool) : s.SameProgram (s.frameReport a m) := by
  constructor <;> simp

theorem State.sendFrame_sameProgram (s : State) : s.SameProgram s.sendFrame := by constructor <;> simp

/-! ## The stages -/

/-- The frame opened, the interpolator's work done and the frame's report made. -/
def State.stepped (s : State) : State :=
  s.openFrame.interpolate.1.frameReport s.openFrame.interpolate.2.advance s.openFrame.interpolate.2.material

/-- The sequencer's part of the frame done: what follows a landing or a pivot's end, and the rest test. -/
def State.worked (s : State) : State := (s.stepped.afterWork s.openFrame.interpolate.2).restTest

theorem State.frameWork_eq (s : State) : s.frameWork = s.worked.deriveFSet.takeSetpoints := rfl

theorem State.frameWork_sameProgram (s : State) : s.worked.SameProgram s.frameWork := by
  constructor <;> simp [State.frameWork_eq]

theorem State.stepped_sameProgram (s : State) : s.openFrame.interpolate.1.SameProgram s.stepped :=
  State.frameReport_sameProgram _ _ _

/-- The timers of the program in a frame (R62, R85). -/
def State.programTimers (s : State) (e : Engine) : State :=
  let s1 := if e = .dwelling ∧ s.seq.engine = .dwelling then s.countDwell else s
  if e = .starved ∧ s1.seq.engine = .starved then s1.countStarve else s1

/-- The timers of the stroke in a frame (R94, R95). -/
def State.strokeTimers (s : State) (t : StrokeState) : State :=
  let s1 := if t = .starting ∧ s.stroke.state = .starting then s.countStart else s
  if t = .stopping ∧ s1.stroke.state = .stopping then s1.countStop else s1

theorem State.beginFrame_eq (s : State) : s.beginFrame =
    ((s.frameWork.programTimers s.seq.engine).strokeTimers s.stroke.state).sendFrame := rfl

theorem State.strokeTimers_sameProgram (s : State) (t : StrokeState) : s.SameProgram (s.strokeTimers t) := by
  simp only [State.strokeTimers]
  split_ifs <;> constructor <;> simp

theorem State.programTimers_of_calm {e : Engine} (s : State) (hd : e ≠ .dwelling) (hs : e ≠ .starved) :
    s.programTimers e = s := by
  simp [State.programTimers, hd, hs]

/-- What follows the program's timers of a frame leaves the program. -/
theorem State.beginFrame_sameProgram (s : State) :
    (s.frameWork.programTimers s.seq.engine).SameProgram s.beginFrame := by
  rw [State.beginFrame_eq]
  exact (State.strokeTimers_sameProgram _ _).trans (State.sendFrame_sameProgram _)

/-- A frame that begins outside DWELLING and STARVED leaves of the program what the sequencer's part of the frame made of it. -/
theorem State.beginFrame_of_calm {s : State} (hd : s.seq.engine ≠ .dwelling) (hs : s.seq.engine ≠ .starved) :
    s.worked.SameProgram s.beginFrame := by
  have h := s.beginFrame_sameProgram
  rw [State.programTimers_of_calm _ hd hs] at h
  exact s.frameWork_sameProgram.trans h

/-! ## The interpolator's work (R50) -/

theorem State.interpolate_pivots {s : State} {t : Turn} (ht : s.interp.turn = some t) (he : s.seq.engine.pivots = true) :
    s.interpolate = s.pivotStep t s.restFlag := by
  simp [State.interpolate, ht, he]

theorem State.interpolate_steps {s : State} {r : Record} {rest : List Record} {m : Moving} (ht : s.interp.turn = none)
    (hp : s.interp.turnPending = false) (he : s.seq.engine.steps = true) (hq : s.queue.records = r :: rest)
    (hb : r.body = .moving m) : s.interpolate = s.pathStep r m := by
  simp [State.interpolate, ht, hp, he, hq, hb]

/-- A frame without a step to make leaves the state. -/
theorem State.interpolate_rests {s : State} (ht : s.interp.turn = none ∨ s.seq.engine.pivots = false)
    (h : s.interp.turn = none → s.seq.engine.steps = true → s.interp.turnPending = true ∨
      ∀ r ∈ s.queue.records.head?, r.moves = false) :
    s.interpolate = (s, ⟨0, s.restFlag, false, false⟩) := by
  simp only [State.interpolate]
  split
  · rename_i t hturn
    have hpivots : s.seq.engine.pivots = false := by simpa [hturn] using ht
    rw [if_neg (by simp [hpivots])]
  · rename_i hturn
    split
    · rename_i hstep
      obtain ⟨hsteps, hpend⟩ : s.seq.engine.steps = true ∧ s.interp.turnPending = false := by simpa using hstep
      have hhead : ∀ r ∈ s.queue.records.head?, r.moves = false := by simpa [hpend] using h hturn hsteps
      split
      · rfl
      · rename_i r rest hq
        have hr : r.moves = false := hhead r (by simp [hq])
        split
        · rename_i m hb
          simp [Record.moves_of_body hb] at hr
        all_goals rfl
    · rfl

/-! ## The sequencer's part (R41, R69, R70) -/

theorem State.afterWork_of_neither {s : State} {w : FrameWork} (hl : w.landed = false ∨ s.seq.engine ≠ .running)
    (hp : w.pivotEnded = false ∨ s.seq.engine ≠ .pivoting) : s.afterWork w = s := by
  have hl' : (w.landed && s.seq.engine == .running) = false := by
    obtain h | h := hl <;> simp [h]
  have hp' : (w.pivotEnded && s.seq.engine == .pivoting) = false := by
    obtain h | h := hp <;> simp [h]
  simp [State.afterWork, hl', hp']

theorem State.restTest_of_not {s : State} (h : s.interp.turn.isSome = true ∨ s.interp.feed ≠ 0 ∨
    s.seq.engine ∉ [Engine.holding, .halting, .cancelling]) : s.restTest = s := by
  simp only [State.restTest, Bool.and_eq_true, Option.isNone_iff_eq_none, beq_iff_eq]
  split
  · rename_i hrest
    obtain ⟨hturn, hfeed⟩ := hrest
    have he : s.seq.engine ∉ [Engine.holding, .halting, .cancelling] := by simpa [hturn, hfeed] using h
    split <;> first | rfl | simp_all
  · rfl

/-- The rest of HOLDING, HALTING and CANCELLING completes (R69). -/
theorem State.restTest_completes {s : State} (he : s.seq.engine ∈ [Engine.holding, .halting, .cancelling])
    (ht : s.interp.turn = none) (hf : s.interp.feed = 0) :
    s.RestCompletes s.restTest s.queue.records s.interp.x s.interp.y s.interp.heading s.interp.progress := by
  have hstop := s.strokeStop_asked.1
  obtain ⟨fseq, fqueue, finterp, fnotice, fstroke, -⟩ := s.cancelFlush_spec .drained
  have hreport : s.seq.engine = .cancelling → s.report =
      ⟨s.queue.records.head?.map fun r => (r.tag, s.interp.progress / 1000), s.interp.x, s.interp.y⟩ := fun h => by
    simp [State.report, State.activeRecord, h, Engine.holdsSegment]
  refine ⟨by simp, by simp, by simp, by simpa using hf, by simpa using ht, fun h => ?_, fun h => ?_, fun h => ?_, fun h hs => ?_⟩
  · have hrest : s.restTest = s.enterEngine .held .drained none := by simp [State.restTest, h, ht, hf]
    simp [hrest, State.enterEngine_engineState, h]
  · have hrest : s.restTest = s.strokeStop.enterEngine .halted .drained none := by simp [State.restTest, h, ht, hf]
    simp [hrest, State.enterEngine_engineState, h]
  · have hrest : s.restTest = s.cancelFlush .drained := by simp [State.restTest, h, ht, hf]
    rw [hrest, fnotice (by rw [h]; decide), fseq, fqueue, finterp, h, hreport h]
    exact ⟨rfl, rfl, rfl, rfl, rfl, rfl, rfl, rfl⟩
  · obtain h' | h' : s.seq.engine = .halting ∨ s.seq.engine = .cancelling := by simpa [h] using he
    · have hrest : s.restTest = s.strokeStop.enterEngine .halted .drained none := by simp [State.restTest, h', ht, hf]
      rw [hrest]
      simpa using And.intro (hstop hs).1 (hstop hs).2.1
    · have hrest : s.restTest = s.cancelFlush .drained := by simp [State.restTest, h', ht, hf]
      rw [hrest]
      exact fstroke hs

/-! ## The stroke within a frame -/

/-- The failure of a tare stops no stroke outside IDLE, HALTED and ABORTED (R111). -/
theorem State.failTare_keeps {s : State} (h : s.seq.engine.leavesStrokeToTare = false) :
    s.failTare.stroke = { s.stroke with tareState := s.failTare.stroke.tareState, tare := s.failTare.stroke.tare } := by
  cases ht : s.stroke.tareInFlight
  · rw [s.failTare_spec.1 ht]
  · have hno : s.tareStops = false := by
      simp only [State.tareStops, h, Bool.and_false]
      split <;> rfl
    rw [State.failTare_stroke ht, hno]
    rfl

/-- A window with a frame's report taken (R64, R103). -/
def Window.take (w : Window) (a : Nat) (m : Bool) : Window :=
  { w with distance := w.distance + a, frameSeen := true, material := w.material && m }

/-- The stroke with a frame's report taken by its open window. -/
def State.reportWindow (s : State) (a : Nat) (m : Bool) : State :=
  s.setStroke { s.stroke with window := s.stroke.window.map (·.take a m) }

theorem State.frameReport_eq (s : State) (a : Nat) (m : Bool) :
    s.frameReport a m = if m then (s.reportWindow a m).failTare else s.reportWindow a m := by
  simp only [State.frameReport, State.reportWindow]
  cases hw : s.stroke.window with
  | none =>
    have hsame : s.setStroke { s.stroke with window := none } = s := by rw [← hw]; rfl
    simp only [Option.map_none, hsame]
  | some w => rfl

/-- A frame's report that fails no tare leaves the stroke but for its window. -/
theorem State.frameReport_quiet {s : State} (a : Nat) {m : Bool} (h : m = false ∨ s.stroke.tareInFlight = false) :
    s.frameReport a m = s.reportWindow a m := by
  rw [State.frameReport_eq]
  split
  · exact (State.failTare_spec _).1 (h.resolve_left (by simp [*]))
  · rfl

/-- A frame's report on a material segment fails a tare in flight (R110). -/
theorem State.frameReport_fails {s : State} (a : Nat) (h : s.stroke.tareInFlight = true) :
    s.TareFails (s.frameReport a true) := by
  obtain ⟨hstate, htare, hdone⟩ := (s.reportWindow a true).failTare_spec.2.1 h
  rw [State.frameReport_eq, if_pos rfl]
  exact ⟨hstate, htare, by simp [State.reportWindow], hdone⟩

/-- A frame's report leaves the stroke's state and its timers where the end of a tare stops no stroke (R111). -/
theorem State.frameReport_stroke {s : State} (a : Nat) {m : Bool}
    (h : m = false ∨ s.stroke.tareInFlight = false ∨ s.seq.engine.leavesStrokeToTare = false) :
    (s.frameReport a m).stroke = { s.stroke with
      window := s.stroke.window.map (·.take a m)
      tareState := (s.frameReport a m).stroke.tareState, tare := (s.frameReport a m).stroke.tare } := by
  by_cases hq : m = false ∨ s.stroke.tareInFlight = false
  · rw [State.frameReport_quiet a hq]
    rfl
  · have he : (s.reportWindow a m).seq.engine.leavesStrokeToTare = false := by
      obtain ⟨hm, ht⟩ := not_or.1 hq
      exact (h.resolve_left hm).resolve_left ht
    rw [State.frameReport_eq]
    split
    · rw [State.failTare_keeps he]
      rfl
    · rfl

theorem State.frameReport_stops {s : State} (a : Nat) {m : Bool} (h : s.stroke.state ∈ [StrokeState.stopping, .stopped]) :
    (s.frameReport a m).stroke.state = s.stroke.state ∧ (s.frameReport a m).stroke.stopTimer = s.stroke.stopTimer ∧
    (s.frameReport a m).stroke.startTimer = s.stroke.startTimer := by
  rw [State.frameReport_eq]
  split
  · obtain ⟨hstate, hstop, hstart, -⟩ := (s.reportWindow a m).failTare_spec.2.2.2 h
    exact ⟨hstate, hstop, hstart⟩
  · exact ⟨rfl, rfl, rfl⟩

/-- In IDLE, STARVED and ABORTED no segment is active, and a frame's report carries no material flag. -/
theorem State.restFlag_of_none {s : State} (h : s.seq.engine.holdsSegment = false) : s.restFlag = false := by
  simp [State.restFlag, State.activeRecord, h]

/-! ## The timers of the stroke -/

theorem State.strokeTimers_of_still {s : State} {t : StrokeState} (h : t ≠ .starting ∨ s.stroke.state ≠ .starting)
    (h' : t ≠ .stopping ∨ s.stroke.state ≠ .stopping) : s.strokeTimers t = s := by
  have hno : ¬ (t = .starting ∧ s.stroke.state = .starting) := not_and_or.2 h
  have hno' : ¬ (t = .stopping ∧ s.stroke.state = .stopping) := not_and_or.2 h'
  rw [State.strokeTimers, if_neg hno, if_neg hno']

theorem State.strokeTimers_starting {s : State} (h : s.stroke.state = .starting) : s.strokeTimers .starting = s.countStart := by
  simp [State.strokeTimers, h]

theorem State.strokeTimers_stopping {s : State} (h : s.stroke.state = .stopping) : s.strokeTimers .stopping = s.countStop := by
  simp [State.strokeTimers, h]

/-- The timers of the stroke leave a stop that the frame asked for. -/
theorem State.StrokeStopAsked.strokeTimers {s u : State} (h : s.StrokeStopAsked u) :
    s.StrokeStopAsked (u.strokeTimers s.stroke.state) := by
  obtain ⟨hstops, hstands⟩ := h
  by_cases ht : s.stroke.state = .stopping ∧ u.stroke.state = .stopping
  · refine ⟨fun hs => ?_, ?_⟩
    · simp [ht.1] at hs
    · rw [ht.1, State.strokeTimers_stopping ht.2, State.countStop]
      split
      · exact hstands
      · split
        · rw [u.strokeStopped_spec.1]
          simp
        · exact hstands
  · have hstill : u.strokeTimers s.stroke.state = u := State.strokeTimers_of_still
      (.inr fun hu => by simp [hu] at hstands) (not_and_or.1 ht)
    rw [hstill]
    exact ⟨hstops, hstands⟩

/-! ## What a frame hands on of the rest, the stop and the dispatch -/

theorem State.RestCompletes.congr {s t u v : State} {q : List Record} {x y : Int} {h : Half} {p : Nat}
    (hr : t.RestCompletes u q x y h p) (he : t.seq.engine = s.seq.engine) (hresume : t.seq.resume = s.seq.resume)
    (hdwell : t.seq.dwellCount = s.seq.dwellCount) (htail : t.queue.tail = s.queue.tail)
    (hnote : t.notice.engineState = s.notice.engineState) (hset : t.settings = s.settings)
    (hstate : t.stroke.state = s.stroke.state) (hprog : u.SameProgram v)
    (hstops : u.stroke.state = .stopping → s.stroke.state ≠ .stopping →
      v.stroke.state = .stopping ∧ v.stroke.stopTimer = u.stroke.stopTimer) :
    s.RestCompletes v q x y h p := by
  simp only [State.RestCompletes, he, hresume, hdwell, htail, hnote, hset, hstate] at hr
  obtain ⟨hx, hy, hh, hf, ht, hhold, hhalt, hcancel, hstroke⟩ := hr
  simp only [State.RestCompletes, hprog.interp, hprog.engine, hprog.queue, hprog.resume, hprog.dwell, hprog.starve,
    hprog.interrupted, hprog.engineState]
  refine ⟨hx, hy, hh, hf, ht, hhold, hhalt, hcancel, fun hne hturns => ?_⟩
  obtain ⟨hstate', htimer⟩ := hstroke hne hturns
  obtain ⟨hv, hv'⟩ := hstops hstate' (fun h => by simp [h] at hturns)
  exact ⟨hv, hv'.trans htimer⟩

theorem State.Starves.after {s u v : State} (h : s.Starves u) (hprog : u.SameProgram v)
    (hstop : s.StrokeStopAsked u → s.StrokeStopAsked v) : s.Starves v := by
  obtain ⟨hengine, hnote, hrun, hexpire⟩ := h
  exact ⟨hprog.engine.trans hengine, hprog.engineState.trans hnote, fun hp => hprog.starve.trans (hrun hp),
    fun hz => ⟨hprog.starve.trans (hexpire hz).1, hstop (hexpire hz).2⟩⟩

/-- What follows the program's timers of a frame leaves a stop that was asked for. -/
theorem State.beginFrame_stops {s : State} (h : s.StrokeStopAsked (s.frameWork.programTimers s.seq.engine)) :
    s.StrokeStopAsked s.beginFrame := by
  rw [State.beginFrame_eq]
  exact h.strokeTimers.congr rfl rfl (by simp) (by simp) (by simp)

theorem exec_frameBegin_of_started {s : State} (h : s.bus.started = true) : exec .frameBegin s = .next s.beginFrame.commit := by
  rw [exec_frameBegin, if_pos h]

end Sys2Proof.Machine
end


section
/-! SUPPORT. The frames of a pivot (R59, R61, R69) and the statement about them. -/

namespace Sys2Proof.Machine

/-- The sequencer makes nothing of the interpolator's work where nothing ended and nothing rests. -/
theorem State.worked_of_moving {s : State} (hl : s.openFrame.interpolate.2.landed = false ∨ s.seq.engine ≠ .running)
    (hp : s.openFrame.interpolate.2.pivotEnded = false ∨ s.seq.engine ≠ .pivoting)
    (hr : s.openFrame.interpolate.1.interp.turn.isSome = true ∨ s.openFrame.interpolate.1.interp.feed ≠ 0 ∨
      s.seq.engine ∉ [Engine.holding, .halting, .cancelling]) : s.worked = s.stepped := by
  have he : s.stepped.seq.engine = s.seq.engine := by simp [State.stepped]
  rw [State.worked, State.afterWork_of_neither (by rwa [he]) (by rwa [he]),
    State.restTest_of_not (by simpa [State.stepped] using hr)]

theorem State.restTest_turnPending {s : State} (h : s.interp.turnPending = false) : s.restTest.interp.turnPending = false := by
  simp only [State.restTest]
  split
  · split <;> first | simpa using h | rw [(s.cancelFlush_spec .drained).2.2.1]
  · exact h

/-- The rest of HOLDING, HALTING and CANCELLING in a frame (R69): the interpolator's work leaves the turn absent and the feed at 0. -/
theorem State.beginFrame_rests {s : State} (he : s.seq.engine ∈ [Engine.holding, .halting, .cancelling])
    (ht : s.openFrame.interpolate.1.interp.turn = none) (hf : s.openFrame.interpolate.1.interp.feed = 0) :
    let i := s.openFrame.interpolate.1
    s.RestCompletes s.beginFrame i.queue.records i.interp.x i.interp.y i.interp.heading i.interp.progress ∧
      s.beginFrame.notice.segmentDone = i.notice.segmentDone ∧ s.beginFrame.notice.queueLow = i.notice.queueLow ∧
      (i.interp.turnPending = false → s.beginFrame.interp.turnPending = false) := by
  intro i
  obtain ⟨hd, hs, hrun, hpiv, hleaves⟩ : s.seq.engine ≠ .dwelling ∧ s.seq.engine ≠ .starved ∧ s.seq.engine ≠ .running ∧
      s.seq.engine ≠ .pivoting ∧ s.seq.engine.leavesStrokeToTare = false := by
    simp only [List.mem_cons, List.not_mem_nil, or_false] at he
    obtain he | he | he := he <;> rw [he] <;> decide
  have hstep : i.SameProgram s.stepped := s.stepped_sameProgram
  have hengine : s.stepped.seq.engine = s.seq.engine := by simp [State.stepped]
  have hworked : s.worked = s.stepped.restTest := by
    rw [State.worked, State.afterWork_of_neither (.inr (by rwa [hengine])) (.inr (by rwa [hengine]))]
  have hframe := State.beginFrame_of_calm hd hs
  have hrest := State.restTest_completes (s := s.stepped) (by rwa [hengine]) (by rw [hstep.interp]; exact ht)
    (by rw [hstep.interp]; exact hf)
  rw [← hworked, hstep.queue, hstep.interp] at hrest
  have hstroke : s.stepped.stroke.state = s.stroke.state := by
    rw [State.stepped, State.frameReport_stroke _ (.inr (.inr (by simpa using hleaves)))]
    simp
  have hstops : s.worked.stroke.state = .stopping → s.stroke.state ≠ .stopping →
      s.beginFrame.stroke.state = .stopping ∧ s.beginFrame.stroke.stopTimer = s.worked.stroke.stopTimer := fun hw hne => by
    rw [State.beginFrame_eq, State.programTimers_of_calm _ hd hs,
      State.strokeTimers_of_still (.inr (by simp [State.frameWork_eq, hw])) (.inl hne)]
    simpa [State.frameWork_eq] using hw
  refine ⟨hrest.congr hengine (by simp [State.stepped]) (by simp [State.stepped]) (by simp [State.stepped])
    (by simp [State.stepped]) (by simp [State.stepped]) hstroke hframe hstops, ?_, ?_, fun hp => ?_⟩
  · rw [hframe.segmentDone, hworked]
    simp [State.stepped, i]
  · rw [hframe.queueLow, hworked]
    simp [State.stepped, i]
  · rw [hframe.interp, hworked]
    exact State.restTest_turnPending (by rw [hstep.interp]; exact hp)

/-- The interpolator in a pivot step (R59). -/
def Interpolator.pivot (i : Interpolator) (t : Turn) (n : Nat) : Interpolator :=
  { i with heading := turnBy i.heading t.ccw n
           turn := if n < t.remaining then some { t with remaining := t.remaining - n } else none
           turnPending := if n < t.remaining then i.turnPending else false }

theorem State.pivotStep_turns {s : State} {t : Turn} (m : Bool) (h : s.settings.params.pivotRate < t.remaining) :
    s.pivotStep t m = (s.setInterp (s.interp.pivot t s.settings.params.pivotRate), ⟨0, m, false, false⟩) := by
  simp [State.pivotStep, Interpolator.pivot, h]

theorem State.pivotStep_ends {s : State} {t : Turn} (m : Bool) (h : t.remaining ≤ s.settings.params.pivotRate) :
    s.pivotStep t m = (s.setInterp (s.interp.pivot t t.remaining), ⟨0, m, false, true⟩) := by
  simp [State.pivotStep, Interpolator.pivot, Nat.not_lt.2 h]

/-- A frame in the middle of a pivot: the heading and the turn record alone move. -/
theorem State.beginFrame_turns {s : State} {t : Turn} (ht : s.interp.turn = some t) (he : s.seq.engine.pivots = true)
    (h : s.settings.params.pivotRate < t.remaining) :
    s.beginFrame.interp = s.interp.pivot t s.settings.params.pivotRate ∧ s.beginFrame.queue = s.queue ∧
      s.beginFrame.seq.engine = s.seq.engine ∧ s.beginFrame.notice.engineState = s.notice.engineState := by
  have hd : s.seq.engine ≠ .dwelling := fun hx => by simp [hx, Engine.pivots] at he
  have hs : s.seq.engine ≠ .starved := fun hx => by simp [hx, Engine.pivots] at he
  have hwork : s.openFrame.interpolate =
      (s.openFrame.setInterp (s.interp.pivot t s.settings.params.pivotRate), ⟨0, s.openFrame.restFlag, false, false⟩) := by
    rw [State.interpolate_pivots (t := t) (by simpa using ht) (by simpa using he), State.pivotStep_turns _ (by simpa using h)]
    simp
  have hframe := State.beginFrame_of_calm hd hs
  rw [State.worked_of_moving (by simp [hwork]) (by simp [hwork]) (.inl (by simp [hwork, Interpolator.pivot, h]))] at hframe
  have hall := s.stepped_sameProgram.trans hframe
  rw [hwork] at hall
  exact ⟨hall.interp, by simpa using hall.queue, by simpa using hall.engine, by simpa using hall.engineState⟩

/-- Settles O17: the step and the end of a pivot, in PIVOTING and in the three states that come to rest. -/
theorem pivotStepTurnsHeading : Obligations.PivotStepTurnsHeading := by
  refine ⟨fun s t hb he ht => ?_, fun s t hb he ht hf => ?_⟩
  · refine ⟨s.beginFrame, exec_frameBegin_of_started hb, ?_⟩
    have hpivots : s.seq.engine.pivots = true := by rw [he]; rfl
    by_cases hr : s.settings.params.pivotRate < t.remaining
    · obtain ⟨hinterp, hqueue, hengine, hnote⟩ := State.beginFrame_turns ht hpivots hr
      rw [hinterp, hqueue, hengine, hnote]
      exact ⟨rfl, rfl, rfl, rfl, rfl, fun _ => ⟨by simp [Interpolator.pivot, hr], rfl, he, rfl⟩, fun h => absurd h (by omega)⟩
    · have hr' : t.remaining ≤ s.settings.params.pivotRate := by omega
      have hwork : s.openFrame.interpolate =
          (s.openFrame.setInterp (s.interp.pivot t t.remaining), ⟨0, s.openFrame.restFlag, false, true⟩) := by
        rw [State.interpolate_pivots (t := t) (by simpa using ht) (by simpa using hpivots),
          State.pivotStep_ends _ (by simpa using hr')]
        simp
      have hstep := s.stepped_sameProgram
      rw [hwork] at hstep
      have hengine : s.stepped.seq.engine = .pivoting := hstep.engine.trans (by simpa using he)
      have hworked : s.worked = s.stepped.enterEngine .running .ending none := by
        have hafter : s.stepped.afterWork s.openFrame.interpolate.2 = s.stepped.enterEngine .running .ending none := by
          rw [← State.enterProgram_of_runs (by rw [hengine]; rfl)]
          simp [State.afterWork, hwork, hengine]
        rw [State.worked, hafter, State.restTest_of_not]
        exact .inr (.inr (by simp))
      have hframe := State.beginFrame_of_calm (s := s) (by rw [he]; decide) (by rw [he]; decide)
      rw [hworked] at hframe
      have hinterp : s.beginFrame.interp = s.interp.pivot t t.remaining := by
        rw [hframe.interp, ← show s.stepped.interp = s.interp.pivot t t.remaining from hstep.interp]
        simp
      have hnote : s.stepped.notice.engineState = s.notice.engineState := hstep.engineState.trans (by simp)
      rw [hinterp, hframe.queue, hframe.engine, hframe.engineState, State.enterEngine_engineState, hengine, hnote]
      exact ⟨rfl, rfl, rfl, rfl, by simpa using hstep.queue, fun h => absurd h hr,
        fun _ => ⟨by simp [Interpolator.pivot], by simp [Interpolator.pivot], rfl, by simp, rfl⟩⟩
  · have hpivots : s.seq.engine.pivots = true := by
      simp only [List.mem_cons, List.not_mem_nil, or_false] at he
      obtain he | he | he := he <;> rw [he] <;> rfl
    refine ⟨s.beginFrame, exec_frameBegin_of_started hb, fun hr => ?_, fun hr => ?_⟩
    · obtain ⟨hinterp, hqueue, hengine, hnote⟩ := State.beginFrame_turns ht hpivots hr
      refine ⟨?_, hengine, hqueue, hnote⟩
      rw [hinterp, Interpolator.pivot, if_pos hr, if_pos hr]
      rfl
    · have hwork : s.openFrame.interpolate =
          (s.openFrame.setInterp (s.interp.pivot t t.remaining), ⟨0, s.openFrame.restFlag, false, true⟩) := by
        rw [State.interpolate_pivots (t := t) (by simpa using ht) (by simpa using hpivots),
          State.pivotStep_ends _ (by simpa using hr)]
        simp
      have hmade : (s.interp.pivot t t.remaining).turn = none ∧ (s.interp.pivot t t.remaining).turnPending = false := by
        simp [Interpolator.pivot]
      obtain ⟨hrest, -, -, hpending⟩ := State.beginFrame_rests he (by rw [hwork]; exact hmade.1) (by rw [hwork]; exact hf)
      rw [hwork] at hrest hpending
      simp only [State.setInterp_queue, State.openFrame_frame] at hrest
      exact ⟨hpending hmade.2, hrest⟩

end Sys2Proof.Machine
end


section
/-! SUPPORT. The frames of a path step (R54 to R56): one that stops short of an end, one carried into the next record, and the statement
about both. -/

namespace Sys2Proof.Machine

theorem State.newFeed_openFrame (s : State) (r : Record) (m : Moving) : s.openFrame.newFeed r m = s.stepFeed r m := by
  simp [State.newFeed, State.stepFeed, State.target, State.runningTarget, State.biteTerm, State.materialEntry, wantedFeed,
    State.params]

/-- The interpolator on a moving record at a progress, with a feed (R51 to R54). -/
def Interpolator.along (i : Interpolator) (m : Moving) (feed progress : Nat) : Interpolator :=
  { i with x := (m.pose progress).1, y := (m.pose progress).2.1, heading := (m.pose progress).2.2
           feed := feed, progress := progress }

/-- The interpolator landed on the end point of a moving record (R55). -/
def Interpolator.landedOn (i : Interpolator) (m : Moving) : Interpolator :=
  { i with x := m.endX, y := m.endY, heading := m.exitHeading, feed := 0 }

theorem State.atProgress_of_along {u : State} {i : Interpolator} {m : Moving} {feed p : Nat} (h : u.interp = i.along m feed p) :
    u.AtProgress m p := by
  rw [State.AtProgress, h]
  refine ⟨fun hp => ?_, fun g hp => ?_⟩ <;> simp [Interpolator.along, Moving.pose, hp]

theorem Record.length_of_body {r : Record} {m : Moving} (h : r.body = .moving m) : r.length = m.length := by
  simp [Record.length, h]

/-! ## The four ends of a path step -/

theorem State.pathStep_still {s : State} {r : Record} {m : Moving} (hv : s.newFeed r m = 0) :
    s.pathStep r m = (s.setInterp { s.interp with feed := 0 }, ⟨0, r.material, false, false⟩) := by
  rw [State.pathStep, if_pos hv]

theorem State.pathStep_within {s : State} {r : Record} {rest : List Record} {m : Moving} (hq : s.queue.records = r :: rest)
    (hb : r.body = .moving m) (hv : 0 < s.newFeed r m) (hs : s.interp.progress + s.newFeed r m < m.length * 1000) :
    s.pathStep r m = (s.setInterp (s.interp.along m (s.newFeed r m) (s.interp.progress + s.newFeed r m)),
      ⟨s.newFeed r m, r.material, false, false⟩) := by
  have htravel : travel s.params.rampStep s.queue.records s.interp.progress (s.newFeed r m) =
      ⟨[], r :: rest, s.interp.progress + s.newFeed r m, false, 0⟩ := by
    rw [hq, travel]
    exact if_pos (by rw [Record.length_of_body hb]; omega)
  simp only [State.pathStep, if_neg (Nat.pos_iff_ne_zero.1 hv), htravel]
  simp [State.completeAll, State.stopWithin, hq, hb, Travel.allMaterial, Interpolator.along]

theorem State.pathStep_carries {s : State} {r n : Record} {rest : List Record} {m mn : Moving} {excess : Nat}
    (hq : s.queue.records = r :: n :: rest) (hb : r.body = .moving m) (hn : n.body = .moving mn) (hv : 0 < s.newFeed r m)
    (hexit : 0 < activeExit s.settings.params.rampStep s.queue.records)
    (hs : s.interp.progress + s.newFeed r m = m.length * 1000 + excess) (hp : s.interp.progress ≤ m.length * 1000)
    (hshort : excess < mn.length * 1000) :
    s.pathStep r m = (s.completeHead.setInterp (s.completeHead.interp.along mn (min (s.newFeed r m)
        (allowance s.settings.params.rampStep (activeExit s.settings.params.rampStep (n :: rest)) mn.length excess)) excess),
      ⟨s.newFeed r m, r.material && n.material, false, false⟩) := by
  have hleft : s.newFeed r m - (r.length * 1000 - s.interp.progress) = excess := by
    rw [Record.length_of_body hb]; omega
  have htravel : travel s.params.rampStep s.queue.records s.interp.progress (s.newFeed r m) =
      ⟨[r], n :: rest, excess, false, 0⟩ := by
    rw [hq, travel]
    simp only [hleft]
    rw [if_neg (by rw [Record.length_of_body hb]; omega), if_neg (by rw [← hq]; exact Nat.pos_iff_ne_zero.1 hexit), travel]
    simp only [Nat.zero_add, Nat.sub_zero, Record.length_of_body hn]
    rw [if_pos hshort]
  have hqueue := (s.completeHead_spec r (n :: rest) hq).1
  simp only [State.pathStep, if_neg (Nat.pos_iff_ne_zero.1 hv), htravel]
  simp [State.completeAll, State.stopWithin, hqueue, hn, Travel.allMaterial, Interpolator.along]

theorem State.pathStep_lands {s : State} {r : Record} {rest : List Record} {m : Moving} (hq : s.queue.records = r :: rest)
    (hb : r.body = .moving m) (hv : 0 < s.newFeed r m) (hs : m.length * 1000 ≤ s.interp.progress + s.newFeed r m)
    (hexit : activeExit s.settings.params.rampStep s.queue.records = 0) :
    ∃ a, s.pathStep r m = (s.completeHead.setInterp (s.completeHead.interp.landedOn m), ⟨a, r.material, true, false⟩) := by
  have htravel : travel s.params.rampStep s.queue.records s.interp.progress (s.newFeed r m) =
      ⟨[r], rest, 0, true, s.newFeed r m - (r.length * 1000 - s.interp.progress)⟩ := by
    rw [hq, travel]
    simp only
    rw [if_neg (by rw [Record.length_of_body hb]; omega), if_pos (by rw [← hq]; exact hexit)]
  refine ⟨s.newFeed r m - (s.newFeed r m - (r.length * 1000 - s.interp.progress)), ?_⟩
  simp only [State.pathStep, if_neg (Nat.pos_iff_ne_zero.1 hv), htravel]
  simp [State.completeAll, State.landOn, hb, Travel.allMaterial, Interpolator.landedOn]

/-! ## The frame of a step that goes on -/

theorem State.strokeTimers_window (s : State) (t : StrokeState) : (s.strokeTimers t).stroke.window = s.stroke.window := by
  simp only [State.strokeTimers, State.countStart, State.countStop]
  repeat' split
  all_goals simp

/-- The states whose frames can step, with what that rules out. -/
theorem Engine.steps_iff {e : Engine} : e ∈ [Engine.running, .holding, .halting, .cancelling] ↔ e.steps = true := by
  cases e <;> decide

theorem Engine.not_resting_of_still {e : Engine} (h : e.steps = false) : e ∉ [Engine.holding, .halting, .cancelling] := by
  cases e <;> first | decide | cases h

theorem Engine.steps_calm {e : Engine} (h : e.steps = true) : e ≠ .dwelling ∧ e ≠ .starved ∧ e ≠ .pivoting := by
  cases e <;> first | decide | simp [Engine.steps] at h

/-- A frame whose path step ends with the feed above 0 on the head of the queue: nothing follows the step. -/
theorem State.beginFrame_goesOn {s i : State} {a : Nat} {m : Bool} (he : s.seq.engine.steps = true)
    (hwork : s.openFrame.interpolate = (i, ⟨a, m, false, false⟩)) (hf : 0 < i.interp.feed) :
    i.SameProgram s.beginFrame ∧ s.WindowTakesFrame s.beginFrame a m := by
  obtain ⟨hd, hs, -⟩ := Engine.steps_calm he
  have hworked : s.worked = s.stepped := State.worked_of_moving (by simp [hwork]) (by simp [hwork])
    (.inr (.inl (by simpa [hwork] using Nat.pos_iff_ne_zero.1 hf)))
  have hstep := s.stepped_sameProgram
  have hframe := State.beginFrame_of_calm hd hs
  rw [hworked] at hframe
  rw [hwork] at hstep
  refine ⟨hstep.trans hframe, fun w hw => ?_⟩
  have hiw : i.stroke.window = some w := by
    have := congrArg (fun p => p.1.stroke.window) hwork
    simpa [hw] using this.symm
  have hwindow : s.stepped.stroke.window = some (w.take a m) := by
    rw [State.stepped, hwork, State.frameReport_eq]
    split <;> simp [State.reportWindow, hiw]
  rw [State.beginFrame_eq, State.programTimers_of_calm _ hd hs]
  simp [State.strokeTimers_window, State.frameWork_eq, hworked, hwindow, Window.take]

/-- Settles O19: the step on the head record, and its excess on the record that follows. -/
theorem pathStepAdvancesAlongLine : Obligations.PathStepAdvancesAlongLine := by
  intro s r rest m hb he ht hp hq hbody hv
  have hsteps := Engine.steps_iff.1 he
  have hoq : s.openFrame.queue.records = r :: rest := by simpa using hq
  have hfeed := s.newFeed_openFrame r m
  have hwork : s.openFrame.interpolate = s.openFrame.pathStep r m :=
    State.interpolate_steps (by simpa using ht) (by simpa using hp) (by simpa using hsteps) hoq hbody
  refine ⟨fun hshort => ⟨s.beginFrame, exec_frameBegin_of_started hb, ?_⟩,
    fun n rest' mn excess feed hrest hn hexit hsum hless hle hmin hpos => ⟨s.beginFrame, exec_frameBegin_of_started hb, ?_⟩⟩
  · rw [State.pathStep_within hoq hbody (by rwa [hfeed]) (by rw [hfeed]; simpa using hshort), hfeed] at hwork
    obtain ⟨hprog, hwindow⟩ := State.beginFrame_goesOn hsteps hwork hv
    have hinterp : s.beginFrame.interp = s.interp.along m (s.stepFeed r m) (s.interp.progress + s.stepFeed r m) := by
      simpa using hprog.interp
    refine ⟨by rw [hinterp]; rfl, by rw [hinterp]; rfl, State.atProgress_of_along hinterp, by simpa using hprog.queue,
      by simpa using hprog.engine, by rw [hinterp]; exact ht, by rw [hinterp]; exact hp, by simpa using hprog.segmentDone,
      by simpa using hprog.queueLow, hwindow⟩
  · subst hrest
    rw [State.pathStep_carries hoq hbody hn (by rwa [hfeed]) (by simpa using hexit) (by rw [hfeed]; simpa using hsum)
      (by simpa using hle) hless, hfeed] at hwork
    simp only [State.openFrame_frame, ← hmin] at hwork
    obtain ⟨hprog, hwindow⟩ := State.beginFrame_goesOn hsteps hwork hpos
    obtain ⟨hqueue, hinterp, hdone⟩ := s.openFrame.completeHead_spec r (n :: rest') hoq
    have hlow := State.completeHead_queueLow hoq
    obtain ⟨_, _, hcons, -, -, hturns⟩ := activeExit_pos (Nat.pos_iff_ne_zero.1 (hq ▸ hexit))
    obtain ⟨rfl, rfl⟩ := List.cons.inj hcons
    have hin : s.beginFrame.interp = (s.interp.onto (n :: rest')).along mn feed excess := by
      rw [hprog.interp, State.setInterp_interp, hinterp]
      simp [Interpolator.onto]
    refine ⟨by rw [hin]; rfl, by rw [hin]; rfl, State.atProgress_of_along hin, ?_, by simpa using hprog.engine,
      by rw [hin]; exact ht, by rw [hin]; exact hturns, ?_, ?_, hwindow⟩
    · rw [hprog.queue, State.setInterp_queue, hqueue]
      simp
    · rw [hprog.segmentDone, State.setInterp_notice, hdone]
      simp [State.segmentDoneAfter]
    · rw [hprog.queueLow, State.setInterp_notice, hlow]
      simp [State.queueLowAfter]

end Sys2Proof.Machine
end


section
/-! SUPPORT. The frames of a landing (R41, R55) and of a rest (R69), and the statement about both. -/

namespace Sys2Proof.Machine

/-- A dispatch enters none of the states that wait for a rest (R70). -/
theorem State.dispatch_engine_not_resting {s : State} (he : s.seq.engine ∉ [Engine.holding, .halting, .cancelling]) (c : Cause)
    (keep : Bool) : (s.dispatch c keep).seq.engine ∉ [Engine.holding, .halting, .cancelling] := by
  simp only [State.dispatch]
  split
  · rw [s.enterStarved_spec.1]
    decide
  · split
    · simp
    · simp only [State.endReached]
      split
      · simpa using he
      · simp
    · split <;> simp

/-- A stop that the sequencer's part of a frame asked for stands after the frame. -/
theorem State.beginFrame_stops_of_calm {s : State} (hd : s.seq.engine ≠ .dwelling) (hs : s.seq.engine ≠ .starved)
    (h : s.StrokeStopAsked s.worked) : s.StrokeStopAsked s.beginFrame := by
  refine State.beginFrame_stops ?_
  rw [State.programTimers_of_calm _ hd hs]
  exact h.congr rfl rfl (by simp [State.frameWork_eq]) (by simp [State.frameWork_eq]) (by simp [State.frameWork_eq])

/-- A landing in RUNNING: the sequencer's part of the frame is the dispatch with cause END (R41). -/
theorem State.worked_lands {s : State} (he : s.seq.engine = .running) (hl : s.openFrame.interpolate.2.landed = true) :
    s.worked = s.stepped.dispatch .ending false ∧ s.stepped.Dispatches s.worked := by
  have hengine : s.stepped.seq.engine = .running := by simpa [State.stepped] using he
  have hworked : s.worked = s.stepped.dispatch .ending false := by
    rw [State.worked, State.afterWork, if_pos (by simp [hl, hengine]), State.restTest_of_not]
    exact .inr (.inr (State.dispatch_engine_not_resting (by rw [hengine]; decide) _ _))
  exact ⟨hworked, hworked ▸ State.dispatch_dispatches (.inl hengine)⟩

/-- Settles O20: the dispatch after a landing in RUNNING, and the rest that a landing or the want of a step is in the three other states. -/
theorem landingOnEmptyQueueStarves : Obligations.LandingOnEmptyQueueStarves := by
  refine ⟨fun s r rest m hb ht hp hq hbody hv hfar hexit => ?_, fun s hb he ht hrest => ?_⟩
  · have hoq : s.openFrame.queue.records = r :: rest := by simpa using hq
    have hfeed := s.newFeed_openFrame r m
    obtain ⟨a, hlands⟩ := State.pathStep_lands hoq hbody (by rwa [hfeed]) (by rw [hfeed]; simpa using hfar) (by simpa using hexit)
    obtain ⟨hqueue, hinterp, hdone⟩ := s.openFrame.completeHead_spec r rest hoq
    have hlow := State.completeHead_queueLow hoq
    have hwork : s.seq.engine.steps = true → s.openFrame.interpolate =
        (s.openFrame.completeHead.setInterp (s.openFrame.completeHead.interp.landedOn m), ⟨a, r.material, true, false⟩) := fun h => by
      rw [State.interpolate_steps (by simpa using ht) (by simpa using hp) (by simpa using h) hoq hbody, hlands]
    have hlanded : s.openFrame.completeHead.interp.landedOn m = (s.interp.onto rest).landedOn m := by
      rw [hinterp]
      simp [Interpolator.onto]
    have hdone' : s.openFrame.completeHead.notice.segmentDone = s.segmentDoneAfter r := by
      rw [hdone]
      simp [State.segmentDoneAfter]
    have hlow' : s.openFrame.completeHead.notice.queueLow = s.queueLowAfter rest.length := by
      rw [hlow]
      simp [State.queueLowAfter]
    refine ⟨fun he => ⟨s.beginFrame, exec_frameBegin_of_started hb, ?_⟩,
      fun he => ⟨s.beginFrame, exec_frameBegin_of_started hb, ?_⟩⟩
    · have hwork := hwork (by rw [he]; rfl)
      have hdw : s.seq.engine ≠ .dwelling := by rw [he]; decide
      have hst : s.seq.engine ≠ .starved := by rw [he]; decide
      obtain ⟨hworked, hd⟩ := State.worked_lands he (by rw [hwork])
      have hstep := s.stepped_sameProgram
      have hframe := State.beginFrame_of_calm hdw hst
      have hstroke : s.stepped.stroke.state = s.stroke.state := by
        rw [State.stepped, State.frameReport_stroke _ (.inr (.inr (by simp [he, Engine.leavesStrokeToTare])))]
        simp
      have hset : s.stepped.settings = s.settings := by simp [State.stepped]
      rw [hwork] at hstep
      have hrecords : s.stepped.queue.records = rest := by rw [hstep.queue, State.setInterp_queue, hqueue]
      have htail : s.stepped.queue.tail = s.queue.tail := by rw [hstep.queue]; simp
      have hin : s.stepped.interp = (s.interp.onto rest).landedOn m := hstep.interp.trans hlanded
      have hengine : s.stepped.seq.engine = .running := by simpa [State.stepped] using he
      have hnote : s.stepped.notice.engineState = s.notice.engineState := by simp [State.stepped]
      have hends : s.stepped.notice.segmentDone = s.segmentDoneAfter r ∧
          s.stepped.notice.queueLow = s.queueLowAfter rest.length :=
        ⟨hstep.segmentDone.trans hdone', hstep.queueLow.trans hlow'⟩
      have hstops : s.stepped.StrokeStopAsked s.worked → s.StrokeStopAsked s.beginFrame := fun h =>
        State.beginFrame_stops_of_calm hdw hst (h.congr hstroke.symm (by rw [hset]) rfl rfl rfl)
      have hcons : ∀ n, rest.head? = some n → s.stepped.queue.records = n :: rest.tail := fun n hn => by
        rw [hrecords]; exact List.eq_cons_of_mem_head? hn
      have hturns : ∀ (n : Record) (mn : Moving), rest.head? = some n → n.body = .moving mn →
          s.stepped.interp.turnPending = decide (mn.junction = .pivot) := fun n mn hn hbn => by
        rw [hin, ← Record.turns_of_body hbn]
        simp [Interpolator.landedOn, Interpolator.onto, hn]
      have hmoved : ∀ e : Engine, s.worked.seq.engine = e → e ≠ .starved → e ≠ .running →
          s.beginFrame.notice.engineState = Pending.coalesce s.notice.engineState ⟨e, .running, .ending, none⟩ :=
        fun e hw hns hnr => by
          rw [hframe.engineState, hd.noted (by rwa [hw]) (by rw [hw, hengine]; exact hnr.symm), hw, hengine, hnote]
      obtain ⟨hx, hy, hh⟩ := hd.pose
      refine ⟨?_, ?_, ?_, ?_, ?_, ?_, fun hne => ?_, fun hnil => ?_, fun n mn hn hbn hj => ?_, fun n mn hn hbn hj => ?_,
        fun n d hn hbn => ?_, fun n rest' hn hbn => ?_⟩
      · rw [hframe.interp, hx, hin]; rfl
      · rw [hframe.interp, hy, hin]; rfl
      · rw [hframe.interp, hh, hin]; rfl
      · rw [hframe.interp, hworked]
        exact State.dispatch_feed_zero (by rw [hin]; rfl) _ _
      · rw [hframe.interp]
        exact hd.progress (by rw [hin]; rfl)
      · rw [hframe.queue, hd.tail, htail]
      · obtain ⟨hqueue', hdone'', hlow''⟩ := hd.others (by rw [hrecords]; exact hne)
        exact ⟨by rw [hframe.queue, hqueue', hrecords], by rw [hframe.segmentDone, hdone'', hends.1],
          by rw [hframe.queueLow, hlow'', hends.2]⟩
      · have hstarves := (hd.empty (hrecords.trans hnil)).congr (t := s) (v := s.worked) (he.trans hengine.symm) hnote.symm
          hstroke.symm (by rw [hset]) rfl rfl rfl rfl rfl rfl
        exact hstarves.after hframe (State.beginFrame_stops_of_calm hdw hst)
      · have hmade : s.stepped.interp.turnPending = false := by rw [hturns n mn hn hbn, hj]; rfl
        obtain ⟨hrun, hsame⟩ := hd.blends n _ mn (hcons n hn) hbn hmade
        refine ⟨hframe.engine.trans hrun, ?_, ?_, ?_⟩
        · rw [hframe.interp, hsame, hin]
          exact ht
        · rw [hframe.interp, hsame, hmade]
        · rw [hframe.engineState, hd.same (hengine.trans hrun.symm), hnote]
      · have hpend : s.stepped.interp.turnPending = true := by rw [hturns n mn hn hbn, hj]; rfl
        obtain ⟨hpivot, hturned⟩ := hd.pivots n _ mn (hcons n hn) hbn hpend
        refine ⟨hframe.engine.trans hpivot, ?_, ?_, hmoved _ hpivot (by decide) (by decide)⟩
        · rw [hframe.interp, hturned]
          exact hpend
        · rw [hframe.interp, hturned]
      · obtain ⟨hdwell, hcount⟩ := hd.dwells n _ d (hcons n hn) hbn
        exact ⟨hframe.engine.trans hdwell, hframe.dwell.trans hcount, hmoved _ hdwell (by decide) (by decide)⟩
      · obtain ⟨hleft, hidle, hresume, hstop⟩ := hd.ends n rest' (by rw [hrecords, hn]) hbn
        exact ⟨hframe.engine.trans hidle, hframe.resume.trans hresume, by rw [hframe.queue, hleft],
          hmoved _ hidle (by decide) (by decide), hstops hstop⟩
    · have hwork := hwork (by
        simp only [List.mem_cons, List.not_mem_nil, or_false] at he
        obtain he | he | he := he <;> rw [he] <;> rfl)
      obtain ⟨hrests, hdone'', hlow'', -⟩ := State.beginFrame_rests he (by rw [hwork, State.setInterp_interp, hlanded]; exact ht)
        (by rw [hwork]; rfl)
      simp only [hwork, State.setInterp_interp, State.setInterp_queue, State.setInterp_notice, hlanded, hqueue, hdone',
        hlow'] at hrests hdone'' hlow''
      exact ⟨hrests, hdone'', hlow''⟩
  · refine ⟨s.beginFrame, exec_frameBegin_of_started hb, ?_⟩
    have hsteps : s.seq.engine.steps = true := by
      simp only [List.mem_cons, List.not_mem_nil, or_false] at he
      obtain he | he | he := he <;> rw [he] <;> rfl
    obtain ⟨m, hwork⟩ : ∃ m, s.openFrame.interpolate =
        (s.openFrame.setInterp { s.interp with feed := 0 }, ⟨0, m, false, false⟩) := by
      obtain ⟨hf, hno⟩ | ⟨hp, r, m, hr, hbody, hv⟩ := hrest
      · refine ⟨s.openFrame.restFlag, ?_⟩
        have hzero : { s.interp with feed := 0 } = s.openFrame.interp := by rw [← hf]; simp
        rw [State.interpolate_rests (.inl (by simpa using ht)) (fun _ _ => by simpa using hno), hzero]
        rfl
      · obtain ⟨rest, hq⟩ : ∃ rest, s.queue.records = r :: rest := ⟨_, List.eq_cons_of_mem_head? hr⟩
        refine ⟨r.material, ?_⟩
        rw [State.interpolate_steps (by simpa using ht) (by simpa using hp) (by simpa using hsteps) (by simpa using hq) hbody,
          State.pathStep_still (by rw [State.newFeed_openFrame]; exact hv)]
        simp
    obtain ⟨hrests, hdone, hlow, -⟩ := State.beginFrame_rests he (by rw [hwork]; exact ht) (by rw [hwork]; rfl)
    simp only [hwork, State.setInterp_interp, State.setInterp_queue, State.setInterp_notice, State.openFrame_frame] at hrests hdone hlow
    exact ⟨hrests, hdone, hlow⟩

end Sys2Proof.Machine
end


section
/-! SUPPORT. The feed within a frame: what bounds it in a path step (R31, R36, R37, R40), and what follows the step never raises it. -/

namespace Sys2Proof.Machine

/-! ## What follows the step never raises the feed -/

theorem State.dispatch_feed_le (s : State) (c : Cause) (keep : Bool) : (s.dispatch c keep).interp.feed ≤ s.interp.feed := by
  simp only [State.dispatch, State.endReached, State.pivotStart]
  repeat' split
  all_goals simp

theorem State.dwellExpire_feed_le (s : State) : s.dwellExpire.interp.feed ≤ s.interp.feed :=
  (State.dispatch_feed_le _ _ _).trans (by simp)

theorem State.afterWork_feed_le (s : State) (w : FrameWork) : (s.afterWork w).interp.feed ≤ s.interp.feed := by
  simp only [State.afterWork]
  split_ifs
  · exact s.dispatch_feed_le _ _
  · simp
  · exact le_refl _

theorem State.countTimers_feed_le (s : State) (e : Engine) (t : StrokeState) :
    (s.countTimers e t).interp.feed ≤ s.interp.feed := by
  have hdwell : s.countDwell.interp.feed ≤ s.interp.feed := by
    simp only [State.countDwell]
    repeat' split
    · exact le_refl _
    · exact State.dwellExpire_feed_le (s.setDwell _)
    · exact le_refl _
  simp only [State.countTimers]
  split_ifs <;> simp [hdwell]

theorem State.beginFrame_feed_le (s : State) : s.beginFrame.interp.feed ≤ s.openFrame.interpolate.1.interp.feed := by
  have hstep : s.stepped.interp.feed = s.openFrame.interpolate.1.interp.feed := by simp [State.stepped]
  have hwork : s.frameWork.interp.feed ≤ s.openFrame.interpolate.1.interp.feed := by
    rw [s.frameWork_sameProgram.interp, State.worked, ← hstep]
    simpa using s.stepped.afterWork_feed_le _
  simpa [State.beginFrame] using (State.countTimers_feed_le _ _ _).trans hwork

/-! ## The feed of a path step -/

theorem wantedFeed_le (v d target : Nat) : wantedFeed v d target ≤ v + d ∧ wantedFeed v d target ≤ max v target := by
  simp only [wantedFeed]
  split <;> omega

theorem State.target_le_cap (s : State) (r : Record) (m : Moving) : s.target r m ≤ m.cap := by
  simp only [State.target, State.runningTarget]
  split_ifs <;> omega

/-- On a MATERIAL record the target is 0 while the stroke is not RUNNING (R33). -/
theorem State.target_of_material {s : State} {r : Record} {m : Moving} (hm : r.material = true)
    (hs : s.stroke.state ≠ .running) : s.target r m = 0 := by
  simp [State.target, State.runningTarget, State.biteTerm, hm, hs]

theorem State.stopWithin_moving {s : State} (t : Travel) (v : Nat) {r : Record} {rest : List Record} {m : Moving}
    (hq : s.queue.records = r :: rest) (hb : r.body = .moving m) : s.stopWithin t v = s.setInterp (s.interp.along m
      (if t.completed.isEmpty then v
        else min v (allowance s.params.rampStep (activeExit s.params.rampStep s.queue.records) m.length t.progress))
      t.progress) := by
  simp only [State.stopWithin, hq, hb]
  rfl

/-- The feed that a path step leaves: the new feed at most, and the allowance of the record on which it stops. -/
theorem State.pathStep_feed {s : State} {r : Record} {rest : List Record} {m : Moving} (hq : s.queue.records = r :: rest)
    (hb : r.body = .moving m) :
    (s.pathStep r m).1.interp.feed ≤ s.newFeed r m ∧
    ∀ (r' : Record) (m' : Moving), (s.pathStep r m).1.queue.records.head? = some r' → r'.body = .moving m' →
      (s.pathStep r m).1.interp.feed ≤ allowance s.settings.params.rampStep
        (activeExit s.settings.params.rampStep (s.pathStep r m).1.queue.records) m'.length
        (if (s.pathStep r m).1.queue.records = s.queue.records then s.interp.progress
          else (s.pathStep r m).1.interp.progress) := by
  simp only [State.pathStep]
  split
  · exact ⟨by simp, fun _ _ _ _ => by simp⟩
  have hsplit := travel_split s.params.rampStep s.queue.records s.interp.progress (s.newFeed r m)
  have hstop := travel_stop (d := s.params.rampStep) (rs := s.queue.records) (p := s.interp.progress) (dist := s.newFeed r m)
  have hland := travel_landed (d := s.params.rampStep) (r := r) (rest := rest) (p := s.interp.progress)
    (dist := s.newFeed r m)
  rw [← hq] at hland
  generalize travel s.params.rampStep s.queue.records s.interp.progress (s.newFeed r m) = t at *
  obtain ⟨hqueue, -⟩ := s.completeAll_spec hsplit.symm
  split
  · rename_i hl
    obtain ⟨last, hlast⟩ : ∃ last, t.completed.getLast? = some last :=
      ⟨_, List.getLast?_eq_some_getLast (hland hl)⟩
    simp only [hlast, State.landOn_feed]
    exact ⟨Nat.zero_le _, fun _ _ _ _ => Nat.zero_le _⟩
  · rename_i hl
    obtain ⟨r', rest', hleft, hcarried⟩ := hstop (Bool.eq_false_iff.2 hl)
    have hrecords : (State.completeAll t.completed s).queue.records = r' :: rest' := by rw [hqueue, hleft]
    by_cases hc : t.completed = []
    · obtain ⟨rfl, rfl⟩ : r = r' ∧ rest = rest' := by
        rw [hc, hleft, List.nil_append, hq] at hsplit
        exact ⟨(List.cons.inj hsplit.symm).1, (List.cons.inj hsplit.symm).2⟩
      rw [State.stopWithin_moving t _ hrecords hb, if_pos (by rw [hc]; rfl)]
      simp only [State.setInterp_interp, State.setInterp_queue, hrecords, Interpolator.along]
      refine ⟨le_refl _, fun n mn hn hbn => ?_⟩
      obtain rfl : r = n := by simpa using hn
      obtain rfl : m = mn := by rw [hb] at hbn; exact RecordBody.moving.inj hbn
      rw [if_pos hq.symm, ← hq]
      exact Nat.min_le_right _ _
    · obtain ⟨m', hb'⟩ := Record.body_of_moves (hcarried hc).1
      have hshort : r' :: rest' ≠ s.queue.records := fun h => hc <| by
        have hlen := congrArg List.length hsplit
        rw [← h, hleft, List.length_append] at hlen
        exact List.length_eq_zero_iff.1 (by omega)
      rw [State.stopWithin_moving t _ hrecords hb', if_neg (by simpa using hc)]
      simp only [State.setInterp_interp, State.setInterp_queue, hrecords, Interpolator.along]
      refine ⟨Nat.min_le_left _ _, fun n mn hn hbn => ?_⟩
      obtain rfl : r' = n := by simpa using hn
      obtain rfl : m' = mn := by rw [hb'] at hbn; exact RecordBody.moving.inj hbn
      rw [if_neg hshort]
      simp [State.params]

end Sys2Proof.Machine
end


section
/-! SUPPORT. The bounds of the feed through a frame (R31, R36 to R38). -/

namespace Sys2Proof.Machine

/-- The interpolator's work leaves the feed, or is a path step on the moving head. -/
theorem State.interpolate_feed_cases (s : State) : s.interpolate.1.interp.feed = s.interp.feed ∨
    ∃ r rest m, s.queue.records = r :: rest ∧ r.body = .moving m ∧ s.interpolate = s.pathStep r m := by
  simp only [State.interpolate]
  split
  · split <;> simp
  · split
    · split
      · exact .inl rfl
      · rename_i r rest hq
        split
        · exact .inr ⟨r, rest, _, hq, ‹_›, rfl⟩
        all_goals exact .inl rfl
    · exact .inl rfl

theorem State.newFeed_le (s : State) (r : Record) (m : Moving) :
    s.newFeed r m ≤ wantedFeed s.interp.feed s.settings.params.rampStep (s.target r m) := Nat.min_le_left _ _

/-- The feed of a frame (R36, R38): it rises by RAMP_STEP at most, on material only while the stroke is RUNNING, and never above the
greater of the feed before and the head's planning cap. -/
theorem State.interpolate_feed (s : State) :
    s.interpolate.1.interp.feed ≤ s.interp.feed + s.settings.params.rampStep ∧
    (∀ r, s.queue.records.head? = some r → r.material = true → s.stroke.state ≠ .running →
      s.interpolate.1.interp.feed ≤ s.interp.feed) ∧
    (∀ b, (∀ r ∈ s.queue.records, r.cap ≤ b) → s.interp.feed ≤ b → s.interpolate.1.interp.feed ≤ b) := by
  obtain h | ⟨r, rest, m, hq, hb, hwork⟩ := s.interpolate_feed_cases
  · exact ⟨by omega, fun _ _ _ _ => by omega, fun _ _ _ => by omega⟩
  · have hfeed := (State.pathStep_feed hq hb).1
    have hnew := s.newFeed_le r m
    obtain ⟨hrise, hmax⟩ := wantedFeed_le s.interp.feed s.settings.params.rampStep (s.target r m)
    rw [hwork]
    refine ⟨by omega, fun r' hr' hm hs => ?_, fun b hcap hle => ?_⟩
    · obtain rfl : r = r' := by simpa [hq] using hr'
      have htarget := State.target_of_material (m := m) hm hs
      omega
    · have hcap' : m.cap ≤ b := by simpa [Record.cap, hb] using hcap r (by simp [hq])
      have htarget := s.target_le_cap r m
      omega

/-- The whole frame's feed, by the interpolator's. -/
theorem State.beginFrame_feed (s : State) :
    s.beginFrame.interp.feed ≤ s.interp.feed + s.settings.params.rampStep ∧
    (∀ r, s.queue.records.head? = some r → r.material = true → s.stroke.state ≠ .running →
      s.beginFrame.interp.feed ≤ s.interp.feed) ∧
    (∀ b, (∀ r ∈ s.queue.records, r.cap ≤ b) → s.interp.feed ≤ b → s.beginFrame.interp.feed ≤ b) := by
  have hle := s.beginFrame_feed_le
  have hwork := s.openFrame.interpolate_feed
  simp only [State.openFrame_frame] at hwork
  obtain ⟨hrise, hmaterial, hcap⟩ := hwork
  exact ⟨hle.trans hrise, fun r hr hm hs => hle.trans (hmaterial r hr hm hs), fun b hb hf => hle.trans (hcap b hb hf)⟩

/-- The feed after a frame in which a path step can be made is within the allowance of the record then at the head (R31, R37, R40). -/
theorem State.beginFrame_allowed {s : State} {r : Record} {m : Moving} (he : s.seq.engine.steps = true)
    (ht : s.interp.turn = none) (hp : s.interp.turnPending = false) (hr : s.beginFrame.queue.records.head? = some r)
    (hb : r.body = .moving m) : s.beginFrame.interp.feed ≤ allowance s.settings.params.rampStep
      (activeExit s.settings.params.rampStep s.beginFrame.queue.records) m.length
      (if s.beginFrame.queue.records = s.queue.records then s.interp.progress else s.beginFrame.interp.progress) := by
  have hle := s.beginFrame_feed_le
  by_cases hzero : s.openFrame.interpolate.1.interp.feed = 0
  · exact (hle.trans hzero.le).trans (Nat.zero_le _)
  by_cases hhead : ∃ r₀ m₀, s.queue.records.head? = some r₀ ∧ r₀.body = .moving m₀
  · obtain ⟨r₀, m₀, hr₀, hb₀⟩ := hhead
    obtain ⟨rest, hq⟩ : ∃ rest, s.queue.records = r₀ :: rest := ⟨_, List.eq_cons_of_mem_head? hr₀⟩
    have hoq : s.openFrame.queue.records = r₀ :: rest := by simpa using hq
    have hot : s.openFrame.interp.turn = none := by simpa using ht
    have hop : s.openFrame.interp.turnPending = false := by simpa using hp
    have hoe : s.openFrame.seq.engine.steps = true := by simpa using he
    have hwork := State.interpolate_steps hot hop hoe hoq hb₀
    have hland := (State.pathStep_moves hoq hb₀ hoe hot hop).2
    have hend := s.openFrame.pathStep_pivotEnded r₀ m₀
    have hallowed := (State.pathStep_feed hoq hb₀).2
    rw [hwork] at hzero
    generalize hi : s.openFrame.pathStep r₀ m₀ = p at *
    obtain ⟨i, a, mat, landed, ended⟩ := p
    obtain rfl : landed = false := Bool.eq_false_iff.2 fun h => hzero (hland h)
    obtain rfl : ended = false := hend
    obtain ⟨hprog, -⟩ := State.beginFrame_goesOn he hwork (Nat.pos_of_ne_zero hzero)
    rw [hprog.queue] at hr ⊢
    rw [hprog.interp]
    simpa using hallowed r m hr hb
  · have hrests : s.openFrame.interpolate = (s.openFrame, ⟨0, s.openFrame.restFlag, false, false⟩) := by
      refine State.interpolate_rests (.inl (by simpa using ht)) fun _ _ => .inr fun r₀ hr₀ => ?_
      rw [State.openFrame_frame s |>.2.2.2.1] at hr₀
      by_contra hmoves
      exact hhead ⟨r₀, _, hr₀, (Record.body_of_moves (Bool.eq_true_of_not_eq_false hmoves)).choose_spec⟩
    rw [hrests] at hzero
    have hprog := (State.beginFrame_goesOn he hrests (Nat.pos_of_ne_zero hzero)).1
    rw [hprog.queue] at hr
    exact absurd ⟨r, m, by simpa using hr, hb⟩ hhead

end Sys2Proof.Machine
end


section
/-! SUPPORT. The bound of the feed (R38), operation by operation, and the statement about the feed. -/

namespace Sys2Proof.Machine

/-- A bound of the feed stands where the feed does not rise, no record comes and the two feed limits stand. -/
theorem State.FeedBounded.of_le {s u : State} (h : s.FeedBounded) (hf : u.interp.feed ≤ s.interp.feed)
    (hq : u.queue.records <:+ s.queue.records) (hc : u.settings.params.maxCutFeed = s.settings.params.maxCutFeed)
    (ha : u.settings.params.maxAirFeed = s.settings.params.maxAirFeed) : u.FeedBounded := by
  obtain ⟨hfeed, hcaps, hcut, hair⟩ := h
  exact ⟨hf.trans hfeed, fun r hr => hcaps r (hq.subset hr), hc.trans_le hcut, ha.trans_le hair⟩

theorem State.beginFrame_bounded {s : State} (h : s.FeedBounded) : s.beginFrame.FeedBounded := by
  obtain ⟨hfeed, hcaps, hcut, hair⟩ := h
  exact ⟨s.beginFrame_feed.2.2 _ hcaps hfeed, fun r hr => hcaps r (s.beginFrame_suffix.subset hr), by simpa using hcut,
    by simpa using hair⟩

/-! ## The caps of the records that SEGMENTS appends (R15) -/

theorem planningCap_le {p : Params} (hc : p.maxCutFeed ≤ 5000) (ha : p.maxAirFeed ≤ 5000) (material : Bool)
    (radius : Option Nat) : planningCap p material radius ≤ 500000 := by
  have hmax : p.maxFeed material ≤ 5000 := by
    simp only [Params.maxFeed]
    split <;> assumption
  simp only [planningCap]
  split <;> omega

theorem finishMoving_cap {p : Params} (hc : p.maxCutFeed ≤ 5000) (ha : p.maxAirFeed ≤ 5000) {tail : Tail} {g : SentSegment}
    {path : Path} {length : Nat} {entry exit : Half} {radius : Option Nat} {r : Record} {b : Bool}
    (h : finishMoving p tail g path length entry exit radius = .accepted r b) : r.cap ≤ 500000 := by
  simp only [finishMoving] at h
  split at h
  · cases h
  · cases h
    exact planningCap_le hc ha _ _

theorem judgeSegment_cap {p : Params} (hc : p.maxCutFeed ≤ 5000) (ha : p.maxAirFeed ≤ 5000) {tail : Tail} {g : SentSegment}
    {draws : Nat} {r : Record} {b : Bool} (h : judgeSegment p tail g draws = .accepted r b) : r.cap ≤ 500000 := by
  have harc : checkArcRecord p tail g draws = .accepted r b → r.cap ≤ 500000 := fun h => by
    simp only [checkArcRecord] at h
    repeat' split at h
    · cases h
    · cases h
    · exact finishMoving_cap hc ha h
  simp only [judgeSegment] at h
  split at h
  · simp only [checkLine] at h
    split_ifs at h
    exact finishMoving_cap hc ha h
  · exact harc h
  · exact harc h
  · cases h
    exact Nat.zero_le _
  · cases h
    exact Nat.zero_le _

theorem State.examine_cap {s : State} {body : List Byte} {r : Record} {b : Bool} (h : s.FeedBounded)
    (hv : (s.examine body).verdict = .accepted r b) : r.cap ≤ 500000 := by
  obtain ⟨-, -, hc, ha⟩ := h
  simp only [State.examine] at hv
  repeat' split at hv
  all_goals first
    | exact judgeSegment_cap hc ha hv
    | cases hv

theorem State.append_bounded {s : State} (h : s.FeedBounded) {r : Record} (hr : r.cap ≤ 500000) : (s.append r).FeedBounded := by
  obtain ⟨hfeed, hcaps, hcut, hair⟩ := h
  refine ⟨by simpa using hfeed, fun q hq => ?_, by simpa using hcut, by simpa using hair⟩
  obtain hq | rfl := by simpa [State.append_records] using hq
  · exact hcaps q hq
  · exact hr

theorem State.takeSegments_feedBounded (fuel : Nat) (body : List Byte) (b : Batch) {s : State} (h : s.FeedBounded) :
    (State.takeSegments fuel body b s).1.FeedBounded := by
  induction fuel generalizing body b s with
  | zero => exact h
  | succ n ih =>
    simp only [State.takeSegments]
    split
    · exact h
    · split
      · exact h
      · rename_i hv
        exact ih _ _ (State.append_bounded (s := s.setDraws (s.examine body).draws) h (State.examine_cap h hv))

theorem State.dispatch_bounded {s : State} (h : s.FeedBounded) (c : Cause) (keep : Bool) : (s.dispatch c keep).FeedBounded :=
  h.of_le (s.dispatch_feed_le c keep) (s.dispatch_suffix c keep) (by simp) (by simp)

theorem State.serveSegments_feedBounded {s : State} (h : s.FeedBounded) (body : List Byte) :
    (s.serveSegments body).1.FeedBounded := by
  have hbody : (s.takeBody body).1.FeedBounded := by
    simp only [State.takeBody]
    split <;> first | exact h | exact State.takeSegments_feedBounded _ _ _ h
  have harrival : ∀ t : State, t.FeedBounded → t.arrival.FeedBounded := fun t ht => by
    simp only [State.arrival]
    split
    · exact State.dispatch_bounded (s := t.setStarve .stopped) ht _ _
    · exact ht
  simp only [State.serveSegments]
  split
  · exact hbody
  · exact harrival _ hbody

/-! ## Requests -/

/-- A parameter stored in its range keeps the two feed limits at 5000 or less (R185). -/
theorem Params.put_limits {p : Params} (hc : p.maxCutFeed ≤ 5000) (ha : p.maxAirFeed ≤ 5000) (n : Nat) (v : Int) :
    (p.put n (p.clampValue n v)).maxCutFeed ≤ 5000 ∧ (p.put n (p.clampValue n v)).maxAirFeed ≤ 5000 := by
  have hlimit : ∀ k, k = 5 ∨ k = 6 → p.clampValue k v ≤ 5000 := fun k hk => by
    rw [p.clampValue_of_simple v (by obtain rfl | rfl := hk <;> decide)]
    obtain rfl | rfl := hk <;> exact (clampInt_mem v (by decide)).2
  have hother : ∀ k, k ≠ n → (p.put n (p.clampValue n v)).get k = p.get k := fun k hk => p.get_put_other _ hk
  constructor
  · by_cases hn : n = 5
    · subst hn
      have := hlimit 5 (.inl rfl)
      simp only [Params.put]
      omega
    · have := hother 5 (Ne.symm hn)
      simp only [Params.get, Option.some.injEq] at this
      omega
  · by_cases hn : n = 6
    · subst hn
      have := hlimit 6 (.inr rfl)
      simp only [Params.put]
      omega
    · have := hother 6 (Ne.symm hn)
      simp only [Params.get, Option.some.injEq] at this
      omega

theorem State.serveSetParam_bounded {s : State} (h : s.FeedBounded) (number : Byte) (v : Int) :
    (s.serveSetParam number v).1.FeedBounded := by
  have hput := Params.put_limits h.2.2.1 h.2.2.2 number.toNat v
  simp only [State.serveSetParam]
  split_ifs
  · exact h
  · exact h
  · exact ⟨h.1, h.2.1, hput⟩

/-- No request but SET_PARAM changes a feed limit, and none raises the feed. -/
theorem State.serve_bounded {s : State} (h : s.FeedBounded) (k : RequestKind) (body : List Byte) :
    (s.serve k body).1.FeedBounded := by
  by_cases hk : k = .segments
  · subst hk
    exact State.serveSegments_feedBounded h body
  have hsuffix := s.serve_suffix k body hk
  cases k
  case segments => exact absurd rfl hk
  case setParam => exact State.serveSetParam_bounded h _ _
  case start =>
    simp only [State.serve, resultBody, State.serveStart]
    split_ifs <;> first | exact h | exact State.dispatch_bounded h _ _
  case resume =>
    have hstart : s.strokeStart.FeedBounded := h.of_le (by simp) (by simp) (by simp) (by simp)
    have hmemory : ∀ t : State, t.FeedBounded → t.actOnMemory.FeedBounded := fun t ht =>
      State.dispatch_bounded (s := t.setResume none) ht _ _
    simp only [State.serve, resultBody, State.serveResume]
    repeat' split
    all_goals first
      | exact h
      | exact hmemory _ h
      | exact hmemory _ hstart
      | exact h.of_le (by simp) (by simp) (by simp) (by simp)
  case recover =>
    refine h.of_le ?_ hsuffix (by simp [State.serve, resultBody]) (by simp [State.serve, resultBody])
    simp only [State.serve, resultBody, State.serveRecover]
    split_ifs <;> simp [State.recoverEffect]
  case cancel =>
    refine h.of_le ?_ hsuffix (by simp [State.serve, resultBody]) (by simp [State.serve, resultBody])
    simp only [State.serve, resultBody, State.serveCancel]
    split <;> simp
  all_goals
    exact h.of_le (by simp [State.serve, resultBody]) hsuffix (by simp [State.serve, resultBody])
      (by simp [State.serve, resultBody])

/-! ## Events -/

theorem State.reqReset_bounded {s : State} (h : s.FeedBounded) : s.reqReset.FeedBounded := by
  have hfeed : s.reqReset.interp.feed = 0 := by
    by_contra hf
    obtain ⟨-, -, -, r, hr, -⟩ := s.reqReset_moves hf
    simp [s.reqReset_records] at hr
  exact h.of_le (by omega) (by rw [s.reqReset_records]; exact List.nil_suffix) (by simp) (by simp)

/-- A success of a tare stores AIR_FIGURE alone (R109). -/
theorem State.tareWindow_limits (s : State) (lf : Nat) :
    (s.tareWindow lf).settings.params.maxCutFeed = s.settings.params.maxCutFeed ∧
    (s.tareWindow lf).settings.params.maxAirFeed = s.settings.params.maxAirFeed := by
  simp only [State.tareWindow, State.tareSuccess]
  repeat' split
  all_goals simp

theorem State.indexPulse_bounded {s : State} (h : s.FeedBounded) (n : Nat) : (s.indexPulse n).FeedBounded := by
  have hlimits : (s.indexPulse n).settings.params.maxCutFeed = s.settings.params.maxCutFeed ∧
      (s.indexPulse n).settings.params.maxAirFeed = s.settings.params.maxAirFeed := by
    simp only [State.indexPulse, State.pulseInWindow, State.completeWindow]
    repeat' split
    all_goals simp [State.tareWindow_limits]
  exact h.of_le (by simp) (by simp) hlimits.1 hlimits.2

/-- The settings load fills the feed limits from an image in range or from the defaults (R185, R190). -/
theorem State.fillWorkingSet_limits (s : State) (acked : Nat) (image : List Byte) :
    (s.fillWorkingSet acked image).settings.params.maxCutFeed ≤ 5000 ∧
    (s.fillWorkingSet acked image).settings.params.maxAirFeed ≤ 5000 := by
  simp only [State.fillWorkingSet, State.setTrip_settings, State.setClassifier_settings, State.setSettings_settings]
  split
  · rename_i hstored
    have hgood := imageGood_of_stored hstored
    have hrange : ∀ n lo hi dflt, (n, lo, hi, dflt) ∈ parameterTable → lo ≤ readInt image (5 + 4 * (n - 1)) ∧
        readInt image (5 + 4 * (n - 1)) ≤ hi := hgood.2.2.2.1
    have hcut := (hrange 5 10 5000 2500 (by decide)).2
    have hair := (hrange 6 10 5000 4000 (by decide)).2
    have hget5 := imageParams_get image hgood 5 (by decide) (by decide)
    have hget6 := imageParams_get image hgood 6 (by decide) (by decide)
    simp only [Params.get, Option.some.injEq] at hget5 hget6
    omega
  · decide

theorem State.endLoad_bounded {s : State} (h : s.FeedBounded) (acked : Nat) (image : List Byte) :
    (s.endLoad acked image).FeedBounded := by
  have hlimits := s.fillWorkingSet_limits acked image
  have hread : (((s.fillWorkingSet acked image).takeWorkingSet).readInputs).startBus.FeedBounded :=
    ⟨by simpa using h.1, by simpa using h.2.1, by simpa using hlimits.1, by simpa using hlimits.2⟩
  exact (State.beginFrame_bounded hread).of_le (by simp [State.endLoad, State.busStart]) (by simp [State.endLoad, State.busStart])
    (by simp [State.endLoad, State.busStart]) (by simp [State.endLoad, State.busStart])

theorem State.takeRiseQuickStop_bounded {s : State} (h : s.FeedBounded) : s.takeRiseQuickStop.FeedBounded := by
  refine h.of_le ?_ s.takeRiseQuickStop_suffix (by simp) (by simp)
  simp only [State.takeRiseQuickStop, State.takeChange]
  repeat' split
  · exact le_refl _
  · simp only [State.failTare_frame, State.quickStopEffect]
    split <;> simp [State.quickStop]
  · exact le_refl _

theorem feedBounded_kept : KeptByEvents State.FeedBounded where
  por s l f _ := ⟨Nat.zero_le _, fun _ hr => (nomatch hr), show Params.rom.maxCutFeed ≤ 5000 by decide,
    show Params.rom.maxAirFeed ≤ 5000 by decide⟩
  lineReset s h := ⟨Nat.zero_le _, fun _ hr => (nomatch hr), h.2.2.1, h.2.2.2⟩
  releaseLine s h := h.of_le (by simp) (by simp) (by simp) (by simp)
  endLoad s acked image h _ := State.endLoad_bounded h acked image
  beginFrame s h := State.beginFrame_bounded h
  dwellExpire s d h _ := h.of_le (State.dwellExpire_feed_le (s.setDwell d)) (State.dwellExpire_suffix (s.setDwell d))
    (by simp) (by simp)
  starveExpire s h := h.of_le (by simp) (by simp) (by simp) (by simp)
  closeWindow s h := h.of_le (by simp) (by simp) (by simp) (by simp)
  takeReturn s st a c h := h.of_le (by simp) (by simp) (by simp) (by simp)
  strokeStalls s h _ := h.of_le (by simp) (by simp) (by simp) (by simp)
  strokeStopped s h _ := h.of_le (by simp) (by simp) (by simp) (by simp)
  indexPulse s n h := State.indexPulse_bounded h n
  loadPulse s h := h.of_le (by simp) (by simp) (by simp) (by simp)
  overflowWindow s h := h.of_le (by simp) (by simp) (by simp) (by simp)
  setPins s v h := h
  deriveLine s i h := h.of_le (by simp) (by simp) (by simp) (by simp)
  takeLine s i h := h.of_le (by simp) (by simp) (by simp) (by simp)
  takeRiseHold s h := h.of_le (by simp) (by simp) (by simp) (by simp)
  takeRiseHalt s h := h.of_le (by simp) (by simp) (by simp) (by simp)
  takeRiseQuickStop s h := State.takeRiseQuickStop_bounded h
  takeFall s h := h.of_le (by simp) (by simp) (by simp) (by simp)
  takeBusLevel s h := h.of_le (by simp) (by simp) (by simp) (by simp)
  setReceiver s r h := h
  countLink s a b c d h := h
  toInbox s r h := keeps_toInbox (P := State.FeedBounded) (fun _ _ => id) (fun _ k body h => State.serve_bounded h k body) r h
  frameSent s h := keeps_frameSent (P := State.FeedBounded) (fun _ _ => id) (fun _ k body h => State.serve_bounded h k body)
    (fun _ h => State.reqReset_bounded h) h
  toggleBlink s h := h.of_le (by simp) (by simp) (by simp) (by simp)
  pageWritten s h := h.of_le (by simp) (by simp) (by simp) (by simp)
  saveFails s h := h.of_le (by simp) (by simp) (by simp) (by simp)

/-- Settles O18: the bound kept by every step, and the allowance and the rise of the feed in a frame. -/
theorem feedRisesByAtMostRampStep : Obligations.FeedRisesByAtMostRampStep := by
  refine ⟨fun s t hs ht => ?_, fun s t r m ht hb he hturn hpend hr hbody => ?_, fun s t ht => ?_⟩
  · exact feedBounded_kept.step (fun _ h => h.of_le (by simp) (by simp) (by simp) (by simp))
      (fun _ h => h.of_le (by simp) (by simp) (by simp) (by simp)) (fun _ _ h => h) hs ht
  · rw [exec_frameBegin_of_started hb] at ht
    cases ht
    simp only [State.commit_frame] at hr ⊢
    exact State.beginFrame_allowed (Engine.steps_iff.1 he) hturn hpend hr hbody
  · rw [exec_frameBegin] at ht
    cases ht
    simp only [State.commit_frame]
    split
    · exact ⟨s.beginFrame_feed.1, s.beginFrame_feed.2.1⟩
    · exact ⟨Nat.le_add_right _ _, fun _ _ _ _ => le_refl _⟩

end Sys2Proof.Machine
end


section
/-! SUPPORT. The slots of the drive bus at a frame begin (R127 to R130, R137). -/

namespace Sys2Proof.Machine

/-! ## A slot at the frame's opening (R128) -/

/-- A slot as a frame begin takes it from SLOT_MASK: carried on, activated, deactivated or left inactive. S has no following flag of its
own to clear. -/
def SlotState.opened (v : SlotState) (wanted keeps : Bool) : SlotState :=
  if wanted then
    if v.active then { v with sentBefore := v.sentNow, sentNow := none } else SlotState.reset true
  else if v.active then
    { v with active := false, lost := false, fault := false, following := keeps && v.following, actual := none
             adopted := false, sentNow := none, sentBefore := none }
  else v

theorem State.setFollowing_get (s : State) (k : Slot) (b : Bool) : (s.setFollowing k b).bus.get k =
    { s.bus.get k with following := if k = .s then (s.bus.get k).following else b } := by
  by_cases hk : k = .s
  · subst hk
    rfl
  · obtain ⟨f, hf⟩ := s.setFollowing_get_self k b
    have hfollow := State.setFollowing_following (s := s) b hk
    rw [hf] at hfollow ⊢
    rw [if_neg hk, ← hfollow]

theorem State.deactivateSlot_get_self (s : State) (k : Slot) : (s.deactivateSlot k).bus.get k =
    { s.bus.get k with
      active := false, lost := false, fault := false, following := (k == .s) && (s.bus.get k).following, actual := none
      adopted := false, sentNow := none, sentBefore := none } := by
  simp only [State.deactivateSlot, State.putSlot_get_self, State.setFollowing_get, State.setFault_get_self,
    State.setLost_get_self]
  by_cases hk : k = .s <;> simp [hk]

theorem State.deactivateSlot_get_other (s : State) {k j : Slot} (h : j ≠ k) :
    (s.deactivateSlot k).bus.get j = s.bus.get j := by
  simp only [State.deactivateSlot, State.putSlot_get_other _ _ h, State.setFollowing_get_other _ _ h,
    State.setFault_get_other _ _ h, State.setLost_get_other _ _ h]

theorem State.openSlot_get_self (s : State) (k : Slot) :
    (s.openSlot k).bus.get k = (s.bus.get k).opened (s.settings.params.slotActive k) (k == .s) := by
  simp only [State.openSlot, SlotState.opened, State.params_settings]
  split_ifs
  · exact s.putSlot_get_self k _
  · exact s.putSlot_get_self k _
  · exact s.deactivateSlot_get_self k
  · rfl

theorem State.openSlot_get_other (s : State) {k j : Slot} (h : j ≠ k) : (s.openSlot k).bus.get j = s.bus.get j := by
  simp only [State.openSlot]
  split_ifs
  · exact s.putSlot_get_other _ h
  · exact s.putSlot_get_other _ h
  · exact s.deactivateSlot_get_other h
  · rfl

/-- The bus with the frame count raised and nothing yet sent (R127). -/
def State.counted (s : State) : State :=
  s.setBus { s.bus with frameCount := s.bus.frameCount + 1, window := none, opening := none, line := [] }

theorem State.counted_get (s : State) (k : Slot) : s.counted.bus.get k = s.bus.get k := by
  cases k <;> rfl

theorem State.counted_settings (s : State) : s.counted.settings = s.settings := rfl

theorem State.openFrame_eq (s : State) :
    s.openFrame = (((s.counted.openSlot .x).openSlot .y).openSlot .h).openSlot .s := rfl

theorem State.openFrame_get (s : State) (k : Slot) :
    s.openFrame.bus.get k = (s.bus.get k).opened (s.settings.params.slotActive k) (k == .s) := by
  rw [s.openFrame_eq, ← s.counted_get]
  cases k <;> simp [State.openSlot_get_other, State.openSlot_get_self, State.counted_settings]

/-! ## The setpoints fixed, and the frame's work and timers -/

theorem State.worked_get (s : State) (k : Slot) :
    s.worked.bus.get k = (s.bus.get k).opened (s.settings.params.slotActive k) (k == .s) := by
  rw [← s.openFrame_get]
  cases k <;> simp [Bus.get, State.worked, State.stepped]

/-- The state of a frame before its records are sent. -/
def State.timed (s : State) : State := (s.frameWork.programTimers s.seq.engine).strokeTimers s.stroke.state

theorem State.beginFrame_timed (s : State) : s.beginFrame = s.timed.sendFrame := rfl

theorem State.timed_eq (s : State) : s.timed = s.frameWork.countTimers s.seq.engine s.stroke.state := rfl

theorem State.takeSetpoints_get (s : State) (k : Slot) : s.takeSetpoints.bus.get k = (s.bus.get k).fix (s.setpointOf k) := by
  cases k <;> rfl

theorem State.timed_get (s : State) (k : Slot) : s.timed.bus.get k =
    ((s.bus.get k).opened (s.settings.params.slotActive k) (k == .s)).fix (s.worked.deriveFSet.setpointOf k) := by
  have hcount : s.timed.bus.get k = s.frameWork.bus.get k := by
    rw [State.timed_eq]
    cases k <;> simp [Bus.get]
  rw [hcount, State.frameWork_eq, State.takeSetpoints_get, State.deriveFSet_frame s.worked |>.2.2.2.2.2.2.2.2.1, State.worked_get]

/-! ## The records sent (R130) -/

theorem State.sendSlot_get (s : State) (k : Slot) : (s.sendSlot k).bus.get k = { s.bus.get k with
    sentNow := some ⟨(s.bus.get k).setpoint, s.enableOf k⟩
    following := if s.enableOf k = true ∨ k = .s then (s.bus.get k).following else false } := by
  simp only [State.sendSlot]
  split
  · rename_i h
    rw [State.setBus_bus, Bus.get_line_window, Bus.get_put, h]
    simp
  · rename_i h
    rw [State.setFollowing_get, State.setBus_bus, Bus.get_line_window, Bus.get_put]
    by_cases hk : k = .s <;> simp [hk, h]

theorem State.sendSlot_line (s : State) (k : Slot) : (s.sendSlot k).bus.line = s.bus.line ++
    setpointRecord k (s.enableOf k) s.bus.quickStopFlag (s.bus.get k).setpoint := by
  simp only [State.sendSlot]
  split <;> simp

/-- The first active slot of a list is the one whose record is sent (R127). -/
theorem State.sendFirstOf_of_some {ks : List Slot} {s : State} {k : Slot} (h : (ks.find? fun j => (s.bus.get j).active) = some k) :
    State.sendFirstOf ks s = s.sendSlot k := by
  induction ks with
  | nil => cases h
  | cons j rest ih =>
    cases ha : (s.bus.get j).active
    · simp only [List.find?_cons, ha] at h
      simpa [State.sendFirstOf, ha] using ih h
    · obtain rfl : j = k := by simpa [ha] using h
      simp [State.sendFirstOf, ha]

theorem State.sendFirstOf_of_none {ks : List Slot} {s : State} (h : (ks.find? fun j => (s.bus.get j).active) = none) :
    State.sendFirstOf ks s = s.setBus { s.bus with window := none } := by
  induction ks with
  | nil => rfl
  | cons j rest ih =>
    cases ha : (s.bus.get j).active
    · simp only [List.find?_cons, ha] at h
      simpa [State.sendFirstOf, ha] using ih h
    · simp [ha] at h

/-- A slot whose record is not sent stands. -/
theorem State.sendFirstOf_get_of_ne {ks : List Slot} {s : State} {j : Slot}
    (h : (ks.find? fun j => (s.bus.get j).active) ≠ some j) : (State.sendFirstOf ks s).bus.get j = s.bus.get j := by
  cases hf : ks.find? fun j => (s.bus.get j).active with
  | none =>
    rw [State.sendFirstOf_of_none hf]
    cases j <;> rfl
  | some k =>
    rw [State.sendFirstOf_of_some hf]
    exact s.sendSlot_get_other (by rintro rfl; exact h hf)

/-- A slot of which a record may have been sent keeps all but that record and a following flag that falls. -/
theorem State.sendFirstOf_get_any (ks : List Slot) (s : State) (j : Slot) :
    ∃ r f, (State.sendFirstOf ks s).bus.get j = { s.bus.get j with sentNow := r, following := f } ∧
      (f = true → (s.bus.get j).following = true) := by
  by_cases h : (ks.find? fun j => (s.bus.get j).active) = some j
  · rw [State.sendFirstOf_of_some h, State.sendSlot_get]
    refine ⟨_, _, rfl, fun hf => ?_⟩
    split at hf
    · exact hf
    · cases hf
  · rw [State.sendFirstOf_get_of_ne h]
    exact ⟨_, _, rfl, id⟩

/-! ## The slots after a frame begin -/

theorem SlotState.opened_active (v : SlotState) (wanted keeps : Bool) : (v.opened wanted keeps).active = wanted := by
  simp only [SlotState.opened]
  split_ifs with h1 h2 h3
  · rw [h1]; exact h2
  · rw [h1]; rfl
  · exact (Bool.eq_false_iff.2 h1).symm
  · rw [Bool.eq_false_iff.2 h1]; exact Bool.eq_false_iff.2 h3

theorem SlotState.fix_active (v : SlotState) (n : Int) : (v.fix n).active = v.active := by
  simp only [SlotState.fix]
  split <;> rfl

theorem State.timed_active (s : State) (k : Slot) : (s.timed.bus.get k).active = s.settings.params.slotActive k := by
  rw [s.timed_get, SlotState.fix_active, SlotState.opened_active]

theorem State.timed_find (s : State) (ks : List Slot) :
    (ks.find? fun j => (s.timed.bus.get j).active) = ks.find? s.settings.params.slotActive := by
  simp only [s.timed_active]

/-- The line of the drive bus set does not touch the slots. -/
theorem State.setLine_get (s : State) (l : List Byte) (j : Slot) : (s.setBus { s.bus with line := l }).bus.get j = s.bus.get j := by
  cases j <;> rfl

theorem State.sendFrame_window (s : State) :
    s.sendFrame.bus.window = ([Slot.x, .y, .h, .s].find? fun j => (s.bus.get j).active).map (⟨·, false⟩) := by
  rw [State.sendFrame, State.sendFirstOf_window]
  simp only [State.setLine_get]

end Sys2Proof.Machine
end


section
/-! SUPPORT. What a frame begin leaves of the bus (R127 to R130). -/

namespace Sys2Proof.Machine

theorem State.worked_frameCount (s : State) : s.worked.bus.frameCount = s.bus.frameCount + 1 := by
  simp [State.worked, State.stepped, State.openFrame_eq, State.counted]

theorem State.timed_frameCount (s : State) : s.timed.bus.frameCount = s.bus.frameCount + 1 := by
  simp [State.timed_eq, State.frameWork_eq, State.worked_frameCount]

/-- The line of a frame begins with its sync record (R127). -/
theorem State.sendFrame_line (s : State) : ∃ l, s.sendFrame.bus.line = syncRecord s.bus.frameCount ++ l := by
  rw [State.sendFrame]
  cases hf : [Slot.x, .y, .h, .s].find? fun j => ((s.setBus { s.bus with line := syncRecord s.bus.frameCount }).bus.get j).active with
  | none =>
    rw [State.sendFirstOf_of_none hf]
    exact ⟨[], (List.append_nil _).symm⟩
  | some k =>
    rw [State.sendFirstOf_of_some hf, State.sendSlot_line]
    exact ⟨_, rfl⟩

/-- A slot after a frame begin: as the frame's opening took it, with its setpoint and at most its record sent. -/
theorem State.beginFrame_get (s : State) (k : Slot) : ∃ v r f, s.beginFrame.bus.get k =
    { ((s.bus.get k).opened (s.settings.params.slotActive k) (k == .s)).fix v with sentNow := r, following := f } ∧
    (f = true → ((s.bus.get k).opened (s.settings.params.slotActive k) (k == .s)).following = true) := by
  obtain ⟨r, f, hget, hfollow⟩ := State.sendFirstOf_get_any [.x, .y, .h, .s]
    (s.timed.setBus { s.timed.bus with line := syncRecord s.timed.bus.frameCount }) k
  rw [State.setLine_get, s.timed_get] at hget hfollow
  refine ⟨_, r, f, hget, fun hf => ?_⟩
  have := hfollow hf
  simp only [SlotState.fix] at this
  split at this <;> exact this

/-- The record of an inactive slot is not sent. -/
theorem State.beginFrame_get_inactive {s : State} {k : Slot} (h : s.settings.params.slotActive k = false) :
    s.beginFrame.bus.get k = (s.bus.get k).opened false (k == .s) := by
  have hne : ([Slot.x, .y, .h, .s].find? fun j =>
      ((s.timed.setBus { s.timed.bus with line := syncRecord s.timed.bus.frameCount }).bus.get j).active) ≠ some k := fun hf => by
    have := List.find?_some hf
    rw [State.setLine_get, s.timed_active, h] at this
    cases this
  rw [s.beginFrame_timed, State.sendFrame, State.sendFirstOf_get_of_ne hne, State.setLine_get, s.timed_get, h, SlotState.fix,
    SlotState.opened_active]
  rfl

theorem State.beginFrame_window (s : State) :
    s.beginFrame.bus.window = ([Slot.x, .y, .h, .s].find? s.settings.params.slotActive).map (⟨·, false⟩) := by
  rw [s.beginFrame_timed, State.sendFrame_window, s.timed_find]

theorem State.beginFrame_line (s : State) : s.beginFrame.bus.line.take 3 =
    [0xB4, s.bus.frameCount + 1, crc8 [0xB4, s.bus.frameCount + 1]] := by
  obtain ⟨l, hl⟩ := s.timed.sendFrame_line
  rw [s.beginFrame_timed, hl, s.timed_frameCount]
  rfl

/-! ## Sources that the bus leaves -/

/-- A setpoint record sent touches no source but those of the following flags (R137). -/
theorem State.sendFrame_source {s : State} {i : Fin 15} (h : i < 10) : s.sendFrame.trip.sources[i] = s.trip.sources[i] := by
  have hfollow : ∀ (t : State) (k : Slot) (b : Bool), (t.setFollowing k b).trip.sources[i] = t.trip.sources[i] := fun t k b => by
    obtain ⟨htaken, hstands⟩ := t.setFollowing_taken k b
    by_cases hsame : k.followSource = none ∨ (t.bus.get k).following = b
    · rw [hstands hsame]
    · obtain ⟨hsource, hchange⟩ := not_or.1 hsame
      obtain ⟨j, hj⟩ := Option.ne_none_iff_exists'.1 hsource
      have hne : i ≠ j := by
        rintro rfl
        cases k <;> simp only [Slot.followSource, Option.some.injEq, reduceCtorEq] at hj <;> subst hj <;>
          exact absurd h (by decide)
      exact (htaken j hj hchange).2.1 i hne
  rw [State.sendFrame]
  cases hf : [Slot.x, .y, .h, .s].find? fun j => ((s.setBus { s.bus with line := syncRecord s.bus.frameCount }).bus.get j).active with
  | none =>
    rw [State.sendFirstOf_of_none hf]
    rfl
  | some k =>
    rw [State.sendFirstOf_of_some hf]
    simp only [State.sendSlot]
    split
    · rfl
    · exact hfollow _ _ _

/-- A frame whose first record is that of a slot with its following flag clear hands nothing on by it. -/
theorem State.sendFrame_tripStands {s : State} (h : ∀ j, (s.bus.get j).active = true → (s.bus.get j).following = false) :
    s.TripStands s.sendFrame := by
  rw [State.sendFrame]
  refine State.TripStands.trans (u := s.setBus { s.bus with line := syncRecord s.bus.frameCount }) ⟨rfl, rfl, rfl, rfl⟩ ?_
  cases hf : [Slot.x, .y, .h, .s].find? fun j => ((s.setBus { s.bus with line := syncRecord s.bus.frameCount }).bus.get j).active with
  | none =>
    rw [State.sendFirstOf_of_none hf]
    exact ⟨rfl, rfl, rfl, rfl⟩
  | some k =>
    have hactive := List.find?_some hf
    rw [State.setLine_get] at hactive
    rw [State.sendFirstOf_of_some hf]
    exact State.sendSlot_tripStands (by rw [State.setLine_get]; exact h k hactive)

/-! ## One slot deactivated (R134, R135, R137) -/

/-- The trip unit, the conditions of the slots and slot `k` stand. -/
structure State.SlotsStand (s u : State) (k : Slot) : Prop where
  trip : s.TripStands u
  slots : ∀ j, (u.bus.get j).active = (s.bus.get j).active ∧ (u.bus.get j).lost = (s.bus.get j).lost ∧
    (u.bus.get j).fault = (s.bus.get j).fault
  self : u.bus.get k = s.bus.get k
  settings : u.settings = s.settings

theorem State.SlotsStand.trans {s u v : State} {k : Slot} (h : s.SlotsStand u k) (g : u.SlotsStand v k) : s.SlotsStand v k where
  trip := h.trip.trans g.trip
  slots j := ⟨(g.slots j).1.trans (h.slots j).1, (g.slots j).2.1.trans (h.slots j).2.1, (g.slots j).2.2.trans (h.slots j).2.2⟩
  self := g.self.trans h.self
  settings := g.settings.trans h.settings

/-- A slot whose activity stands is carried on or left inactive, and nothing is handed on. -/
theorem State.openSlot_stands {s : State} {j k : Slot} (h : (s.bus.get j).active = s.settings.params.slotActive j) (hk : k ≠ j) :
    s.SlotsStand (s.openSlot j) k where
  trip := by
    simp only [State.openSlot, State.params_settings, ← h]
    cases ha : (s.bus.get j).active
    · exact ⟨rfl, rfl, rfl, rfl⟩
    · exact s.putSlot_tripStands j _
  slots i := by
    by_cases hi : i = j
    · subst hi
      rw [s.openSlot_get_self, ← h]
      cases ha : (s.bus.get i).active <;> simp [SlotState.opened, ha]
    · rw [s.openSlot_get_other hi]
      exact ⟨rfl, rfl, rfl⟩
  self := s.openSlot_get_other hk
  settings := by simp

/-- The sets of lost and of faulted slots hold no inactive slot. -/
theorem Bus.lostSlots_of_and {b c : Bus}
    (h : ∀ j, ((b.get j).active && (b.get j).lost) = ((c.get j).active && (c.get j).lost)) : b.lostSlots = c.lostSlots := by
  have hx := h .x
  have hy := h .y
  have hh := h .h
  have hs := h .s
  simp only [Bus.get] at hx hy hh hs
  simp only [Bus.lostSlots, hx, hy, hh, hs]

theorem Bus.faultSlots_of_and {b c : Bus}
    (h : ∀ j, ((b.get j).active && (b.get j).fault) = ((c.get j).active && (c.get j).fault)) : b.faultSlots = c.faultSlots := by
  have hx := h .x
  have hy := h .y
  have hh := h .h
  have hs := h .s
  simp only [Bus.get] at hx hy hh hs
  simp only [Bus.faultSlots, hx, hy, hh, hs]

theorem State.ConditionTaken.stands {s v u : State} {i : Fin 15} {b : Bool} (ht : s.ConditionTaken v i b) (h : v.TripStands u) :
    s.ConditionTaken u i b := by
  obtain ⟨htrip, hseq, hbus, hnotice⟩ := h
  simpa only [State.ConditionTaken, htrip, hseq, hbus, hnotice] using ht

/-- A slot deactivated (R128): its lost, fault and following flag fall in turn, each handed on. -/
theorem State.deactivateSlot_taken (s : State) (k : Slot) : ∃ v w : State,
    s.SlotSetTaken v 14 ((s.bus.get k).lost = true) (s.deactivateSlot k).bus.lostSlots ∧
    v.SlotSetTaken w 13 ((s.bus.get k).fault = true) (s.deactivateSlot k).bus.faultSlots ∧
    (∀ i, k.followSource = some i → (s.bus.get k).following = true → w.ConditionTaken (s.deactivateSlot k) i false) ∧
    (k = .s ∨ (s.bus.get k).following = false → w.TripStands (s.deactivateSlot k)) := by
  have hlost := s.setLost_taken k false
  have hfault := (s.setLost k false).setFault_taken k false
  obtain ⟨hfollow, hstands⟩ := ((s.setLost k false).setFault k false).setFollowing_taken k false
  have hput := (((s.setLost k false).setFault k false).setFollowing k false).putSlot_tripStands k
    { (((s.setLost k false).setFault k false).setFollowing k false).bus.get k with
      active := false, actual := none, adopted := false, sentNow := none, sentBefore := none }
  have hother : ∀ j, j ≠ k → (s.deactivateSlot k).bus.get j = s.bus.get j := fun j => s.deactivateSlot_get_other
  have hlostSlots : (s.deactivateSlot k).bus.lostSlots = (s.setLost k false).bus.lostSlots := Bus.lostSlots_of_and fun j => by
    by_cases hj : j = k
    · subst hj
      rw [s.deactivateSlot_get_self, State.setLost_get_self]
      simp
    · rw [hother j hj, State.setLost_get_other _ _ hj]
  have hfaultSlots : (s.deactivateSlot k).bus.faultSlots = ((s.setLost k false).setFault k false).bus.faultSlots :=
    Bus.faultSlots_of_and fun j => by
      by_cases hj : j = k
      · subst hj
        rw [s.deactivateSlot_get_self, State.setFault_get_self]
        simp
      · rw [hother j hj, State.setFault_get_other _ _ hj, State.setLost_get_other _ _ hj]
  rw [hlostSlots, hfaultSlots]
  rw [ne_eq, Bool.not_eq_false] at hlost hfault
  have hfaulted : ((s.setLost k false).bus.get k).fault = (s.bus.get k).fault := by rw [State.setLost_get_self]
  have hfollowing : (((s.setLost k false).setFault k false).bus.get k).following = (s.bus.get k).following := by
    rw [State.setFault_get_self, State.setLost_get_self]
  rw [hfaulted] at hfault
  rw [hfollowing] at hfollow hstands
  refine ⟨_, _, hlost, hfault, fun i hi hf => (hfollow i hi (by simp [hf])).stands hput, fun h => ?_⟩
  have hsame := hstands (h.imp_left (by rintro rfl; rfl))
  rw [hsame] at hput
  simp only [State.deactivateSlot, hsame]
  exact hput

/-- Slots whose activity stands, opened in turn. -/
theorem State.openSlots_stand {ks : List Slot} {s : State} {k : Slot} (hk : k ∉ ks)
    (h : ∀ j ∈ ks, (s.bus.get j).active = s.settings.params.slotActive j) : s.SlotsStand (ks.foldl State.openSlot s) k := by
  induction ks generalizing s with
  | nil => exact ⟨⟨rfl, rfl, rfl, rfl⟩, fun _ => ⟨rfl, rfl, rfl⟩, rfl, rfl⟩
  | cons j rest ih =>
    obtain ⟨hne, hrest⟩ := List.ne_and_not_mem_of_not_mem_cons hk
    have hfirst : s.SlotsStand (s.openSlot j) k := State.openSlot_stands (h j List.mem_cons_self) hne
    refine hfirst.trans (ih hrest fun i hi => ?_)
    rw [(hfirst.slots i).1, hfirst.settings]
    exact h i (List.mem_cons_of_mem j hi)

theorem State.counted_stands (s : State) (k : Slot) : s.SlotsStand s.counted k :=
  ⟨⟨rfl, rfl, rfl, rfl⟩, fun j => by rw [s.counted_get]; exact ⟨rfl, rfl, rfl⟩, s.counted_get k, rfl⟩

/-- The frame's opening where the activity of one slot alone falls (R128). -/
theorem State.openFrame_deactivates {s : State} {k : Slot} (hk : (s.bus.get k).active = true)
    (hwanted : s.settings.params.slotActive k = false)
    (hothers : ∀ j, j ≠ k → (s.bus.get j).active = s.settings.params.slotActive j) :
    ∃ t, s.SlotsStand t k ∧ (t.deactivateSlot k).TripStands s.openFrame ∧
      s.openFrame.bus.lostSlots = (t.deactivateSlot k).bus.lostSlots ∧
      s.openFrame.bus.faultSlots = (t.deactivateSlot k).bus.faultSlots := by
  obtain ⟨pre, post, hpre, hpost, hopen⟩ : ∃ pre post : List Slot, k ∉ pre ∧ k ∉ post ∧
      s.openFrame = post.foldl State.openSlot ((pre.foldl State.openSlot s.counted).openSlot k) := by
    cases k
    · exact ⟨[], [.y, .h, .s], by decide, by decide, rfl⟩
    · exact ⟨[.x], [.h, .s], by decide, by decide, rfl⟩
    · exact ⟨[.x, .y], [.s], by decide, by decide, rfl⟩
    · exact ⟨[.x, .y, .h], [], by decide, by decide, rfl⟩
  have hkept : ∀ j, j ≠ k → (s.counted.bus.get j).active = s.counted.settings.params.slotActive j := fun j hj => by
    rw [s.counted_get]
    exact hothers j hj
  have hbefore : s.SlotsStand (pre.foldl State.openSlot s.counted) k :=
    (s.counted_stands k).trans (State.openSlots_stand hpre fun j hj => hkept j fun e => hpre (e ▸ hj))
  generalize pre.foldl State.openSlot s.counted = t at *
  have hdeactivate : t.openSlot k = t.deactivateSlot k := by
    rw [State.openSlot, State.params_settings, hbefore.settings, hbefore.self, hwanted, hk]
    rfl
  rw [hdeactivate] at hopen
  have hafter : (t.deactivateSlot k).SlotsStand s.openFrame k := by
    rw [hopen]
    refine State.openSlots_stand hpost fun j hj => ?_
    have hne : j ≠ k := fun e => hpost (e ▸ hj)
    rw [t.deactivateSlot_get_other hne, (hbefore.slots j).1, hothers j hne]
    simp [hbefore.settings]
  exact ⟨t, hbefore, hafter.trip,
    Bus.lostSlots_congr fun j => ⟨(hafter.slots j).1, (hafter.slots j).2.1⟩,
    Bus.faultSlots_congr fun j => ⟨(hafter.slots j).1, (hafter.slots j).2.2⟩⟩

end Sys2Proof.Machine
end


section
/-! SUPPORT. The stroke through a frame (R92 to R95, R110, R111): where nothing in the frame stops it, the sequencer's part leaves it to its
timers. -/

namespace Sys2Proof.Machine

/-! ## Frames of the engine states without motion -/

/-- In the states without a step or a pivot the sequencer's part of a frame is the report of a frame at rest. -/
theorem State.worked_of_still {s : State} (hs : s.seq.engine.steps = false) (hp : s.seq.engine.pivots = false) :
    s.worked = s.openFrame.frameReport 0 s.restFlag := by
  have hwork : s.openFrame.interpolate = (s.openFrame, ⟨0, s.restFlag, false, false⟩) := by
    have hflag : s.openFrame.restFlag = s.restFlag := by simp [State.restFlag, State.activeRecord]
    rw [← hflag]
    exact State.interpolate_rests (.inr (by simpa using hp)) fun _ h => by simp [hs] at h
  rw [State.worked_of_moving (.inl (by rw [hwork])) (.inl (by rw [hwork])) (.inr (.inr fun h => ?_)), State.stepped, hwork]
  simp only [List.mem_cons, List.not_mem_nil, or_false] at h
  obtain h | h | h := h <;> rw [h] at hs <;> cases hs

/-! ## Nothing stops the stroke -/

theorem State.strokeStop_of_stopped {s : State} (h : s.stroke.state ∈ [StrokeState.stopping, .stopped]) : s.strokeStop = s :=
  s.strokeStop_spec.2 h

/-- No stop of the stroke can follow from a dispatch: it has been stopped, or no END and no starve timeout of 0 can stop it. -/
def State.StrokeQuiet (s : State) : Prop :=
  s.stroke.state ∈ [StrokeState.stopping, .stopped] ∨
    (∀ r ∈ s.queue.records, r.body ≠ .programEnd) ∧ 0 < s.settings.params.starveTimeout

/-- The stroke and the notice of the tare stand. -/
def State.StrokeStands (s u : State) : Prop := u.stroke = s.stroke ∧ u.notice.tareDone = s.notice.tareDone

theorem State.StrokeStands.trans {s u v : State} (h : s.StrokeStands u) (g : u.StrokeStands v) : s.StrokeStands v :=
  ⟨g.1.trans h.1, g.2.trans h.2⟩

theorem State.enterStarved_stands {s : State} (h : s.StrokeQuiet) : s.StrokeStands s.enterStarved := by
  simp only [State.enterStarved, State.params_settings]
  split
  · rename_i hz
    have hstopped := h.resolve_right fun hq => by omega
    rw [State.strokeStop_of_stopped (by simpa [State.setStarve] using hstopped)]
    exact ⟨by simp, by simp⟩
  · exact ⟨by simp, by simp⟩

/-- The dispatch on a moving record or a DWELL from a state that runs the program asks nothing of the stroke (R72). -/
theorem State.dispatch_head_stands {s : State} {n : Record} {rest : List Record} (hr : s.seq.engine.runsProgram = true)
    (hq : s.queue.records = n :: rest) (hne : n.body ≠ .programEnd) : s.StrokeStands (s.dispatch .ending false) := by
  cases hb : n.body with
  | moving m =>
    cases hp : s.interp.turnPending
    · rw [s.dispatch_running _ _ n rest m hq hb hp, State.enterProgram_of_runs hr]
      exact ⟨by simp, by simp⟩
    · rw [s.dispatch_pivoting _ _ n rest m hq hb hp, State.enterProgram_of_runs (by exact hr)]
      exact ⟨by simp, by simp⟩
  | dwell d =>
    rw [s.dispatch_dwelling _ _ n rest d hq hb, if_neg Bool.false_ne_true, State.enterProgram_of_runs (by exact hr)]
    exact ⟨by simp, by simp⟩
  | programEnd => exact absurd hb hne

theorem State.dispatch_stands {s : State} (hr : s.seq.engine.runsProgram = true) (h : s.StrokeQuiet) :
    s.StrokeStands (s.dispatch .ending false) := by
  cases hq : s.queue.records with
  | nil =>
    rw [s.dispatch_starved _ _ hq]
    exact State.enterStarved_stands h
  | cons n rest =>
    by_cases hb : n.body = .programEnd
    · have hidle : s.seq.engine ≠ .idle := fun he => by rw [he] at hr; cases hr
      have hstopped := h.resolve_right fun hno => hno.1 n (by simp [hq]) hb
      rw [s.dispatch_end _ _ n rest hq hb, if_neg hidle, State.strokeStop_of_stopped (by simpa using hstopped)]
      exact ⟨by simp [State.setResume], by simp [State.setResume]⟩
    · exact State.dispatch_head_stands hr hq hb

theorem State.afterWork_stands {s : State} (w : FrameWork) (h : s.StrokeQuiet) : s.StrokeStands (s.afterWork w) := by
  simp only [State.afterWork, Bool.and_eq_true, beq_iff_eq]
  split_ifs with hl hp
  · exact State.dispatch_stands (by rw [hl.2]; rfl) h
  · rw [State.enterProgram_of_runs (by rw [hp.2]; rfl)]
    exact ⟨by simp, by simp⟩
  · exact ⟨rfl, rfl⟩

theorem State.restTest_stands {s : State} (h : s.stroke.state ∈ [StrokeState.stopping, .stopped] ∨
    s.seq.engine ∉ [Engine.halting, .cancelling]) : s.StrokeStands s.restTest := by
  simp only [State.restTest]
  split
  · split <;> rename_i he
    · exact ⟨by simp, by simp⟩
    · rw [State.strokeStop_of_stopped (h.resolve_right (by simp [he]))]
      exact ⟨by simp, by simp⟩
    · have hstopped := h.resolve_right (by simp [he])
      refine ⟨(s.cancelFlush_spec .drained).2.2.2.2.2 hstopped, ?_⟩
      simp only [State.cancelFlush]
      rw [State.strokeStop_of_stopped (by simpa [State.flush] using hstopped)]
      simp [State.flush]
    all_goals exact ⟨rfl, rfl⟩
  · exact ⟨rfl, rfl⟩

theorem State.programTimers_stands {s : State} (e : Engine) (h : s.StrokeQuiet)
    (hs : s.stroke.state ∈ [StrokeState.stopping, .stopped] ∨ (e = .starved → ∀ n, s.seq.starve = .running n → 1 < n)) :
    s.StrokeStands (s.programTimers e) := by
  simp only [State.programTimers]
  by_cases hd : e = .dwelling ∧ s.seq.engine = .dwelling
  · have hne : e ≠ .starved := by rw [hd.1]; decide
    rw [if_pos hd, if_neg fun hx => hne hx.1, State.countDwell]
    split
    · exact ⟨rfl, rfl⟩
    · split
      · have hquiet : (((s.setDwell (s.seq.dwellCount + 1)).completeHead).setDwell 0).StrokeQuiet := by
          refine h.imp (fun hx => by simpa using hx) fun hx => ⟨fun r hr => hx.1 r ?_, by simpa using hx.2⟩
          have : r ∈ s.queue.records.tail := by simpa [State.completeHead_records] using hr
          exact List.mem_of_mem_tail this
        have hstands := State.dispatch_stands (by simp [hd.2, Engine.runsProgram]) hquiet
        exact State.StrokeStands.trans (u := ((s.setDwell (s.seq.dwellCount + 1)).completeHead).setDwell 0)
          ⟨by simp, by simp⟩ hstands
      · exact ⟨rfl, rfl⟩
  · rw [if_neg hd]
    split
    · rename_i hst
      simp only [State.countStarve]
      split
      · exact ⟨rfl, rfl⟩
      · exact ⟨rfl, rfl⟩
      · rename_i n hn
        split
        · have hstopped := hs.resolve_right fun hx => absurd (hx hst.1 n hn) (by omega)
          rw [State.starveExpire, State.strokeStop_of_stopped (by simpa using hstopped)]
          exact ⟨by simp, by simp⟩
        · exact ⟨by simp, by simp⟩
    · exact ⟨rfl, rfl⟩

end Sys2Proof.Machine
end


section
/-! SUPPORT. The start and the stop timer in a frame (R94, R95), and the failure of a tare in it (R110). -/

namespace Sys2Proof.Machine

/-! ## The stroke at the timers of a frame -/

/-- The state of a frame as the stroke's timers find it. -/
def State.programmed (s : State) : State := s.frameWork.programTimers s.seq.engine

theorem State.timed_programmed (s : State) : s.timed = s.programmed.strokeTimers s.stroke.state := rfl

theorem State.programTimers_kept (s : State) (e : Engine) : (s.programTimers e).settings = s.settings ∧
    (s.programTimers e).classifier = s.classifier := by
  simp only [State.programTimers]
  split_ifs <;> exact ⟨by simp, by simp⟩

theorem State.programmed_kept (s : State) : s.programmed.settings = s.settings ∧ s.programmed.classifier = s.classifier := by
  obtain ⟨hset, hclass⟩ := s.frameWork.programTimers_kept s.seq.engine
  exact ⟨hset.trans (by simp), hclass.trans (by simp)⟩

/-- A tare that stops the stroke as it fails in a frame ends in a state at rest on a segment: HALTED. -/
theorem State.frame_tare {s : State} (h : s.seq.engine = .halted → s.stroke.tareInFlight = false) :
    s.openFrame.interpolate.2.material = false ∨ s.stroke.tareInFlight = false ∨ s.seq.engine.leavesStrokeToTare = false := by
  by_cases hl : s.seq.engine.leavesStrokeToTare = true
  · by_cases hh : s.seq.engine = .halted
    · exact .inr (.inl (h hh))
    · have hnone : s.seq.engine.holdsSegment = false := by
        revert hl hh
        cases s.seq.engine <;> decide
      have hstill : s.seq.engine.steps = false ∧ s.seq.engine.pivots = false := by
        revert hnone
        cases s.seq.engine <;> decide
      have hwork : s.openFrame.interpolate = (s.openFrame, ⟨0, s.openFrame.restFlag, false, false⟩) :=
        State.interpolate_rests (.inr (by simpa using hstill.2)) fun _ hx => by simp [hstill.1] at hx
      rw [hwork]
      exact .inl (State.restFlag_of_none (by simpa using hnone))
  · exact .inr (.inr (Bool.eq_false_iff.2 hl))

/-- The stroke after the frame's report: its timers stand where the report stops nothing. -/
theorem State.stepped_stroke {s : State} (h : s.seq.engine = .halted → s.stroke.tareInFlight = false) :
    s.stepped.stroke = { s.stroke with
      window := s.stepped.stroke.window, tareState := s.stepped.stroke.tareState, tare := s.stepped.stroke.tare } := by
  have hreport := State.frameReport_stroke (s := s.openFrame.interpolate.1) s.openFrame.interpolate.2.advance
    (m := s.openFrame.interpolate.2.material) (by simpa using State.frame_tare h)
  have hstroke : s.openFrame.interpolate.1.stroke = s.stroke := by simp
  rw [hstroke] at hreport
  rw [State.stepped, hreport]

/-- The tare after the frame's report: as it was, or failed (R110). -/
theorem State.stepped_tare (s : State) : s.TareFails s.stepped ∨
    s.stepped.stroke.tareState = s.stroke.tareState ∧ s.stepped.stroke.tare = s.stroke.tare ∧
      s.stepped.notice.tareDone = s.notice.tareDone := by
  by_cases hq : s.openFrame.interpolate.2.material = false ∨ s.openFrame.interpolate.1.stroke.tareInFlight = false
  · right
    rw [State.stepped, State.frameReport_quiet _ hq]
    simp [State.reportWindow]
  · obtain ⟨hm, ht⟩ := not_or.1 hq
    left
    have hfails := State.frameReport_fails s.openFrame.interpolate.2.advance (Bool.eq_true_of_not_eq_false ht)
    rw [State.stepped, Bool.eq_true_of_not_eq_false hm]
    simpa [State.TareFails] using hfails

theorem State.afterWork_not_stopping {s : State} (w : FrameWork) (h : s.seq.engine ∉ [Engine.halting, .cancelling]) :
    (s.afterWork w).seq.engine ∉ [Engine.halting, .cancelling] := by
  simp only [State.afterWork, Bool.and_eq_true, beq_iff_eq]
  split_ifs with hl
  · exact fun hx => State.dispatch_engine_not_resting (by rw [hl.2]; decide) _ _ (List.mem_cons_of_mem _ hx)
  · simp
  · exact h

/-- What the sequencer and its timers leave of the stroke where nothing in the frame stops it. -/
theorem State.programmed_stroke {s : State} (h : s.stroke.state ∈ [StrokeState.stopping, .stopped] ∨ s.StrokeUndisturbed) :
    s.programmed.stroke = { s.stepped.stroke with fSet := s.programmed.stroke.fSet } ∧
    s.programmed.notice.tareDone = s.stepped.notice.tareDone := by
  have hstate : s.stroke.state ∈ [StrokeState.stopping, .stopped] → s.stepped.stroke.state ∈ [StrokeState.stopping, .stopped] :=
    fun hx => by
      rw [State.stepped, (State.frameReport_stops _ (by simpa using hx)).1]
      simpa using hx
  have hquiet : s.stepped.StrokeQuiet := h.imp hstate fun ⟨_, _, _, hno, htimeout⟩ => by
    refine ⟨fun r hr => hno r ?_, by simpa [State.stepped] using htimeout⟩
    have hsub := s.openFrame.interpolate_suffix.subset (by simpa [State.stepped] using hr)
    simpa using hsub
  have hafter := State.afterWork_stands s.openFrame.interpolate.2 hquiet
  have hcalm : s.stroke.state ∈ [StrokeState.stopping, .stopped] ∨ s.seq.engine ∉ [Engine.halting, .cancelling] :=
    h.imp_right fun hx => hx.1
  have hrest : (s.stepped.afterWork s.openFrame.interpolate.2).StrokeStands s.worked := by
    refine State.restTest_stands (hcalm.imp (fun hx => by rw [hafter.1]; exact hstate hx) fun hx => ?_)
    have hengine := State.afterWork_not_stopping s.openFrame.interpolate.2 (s := s.stepped) (by simpa [State.stepped] using hx)
    exact hengine
  have hworked := hafter.trans hrest
  have hwork : s.stroke.state ∈ [StrokeState.stopping, .stopped] →
      s.frameWork.stroke.state ∈ [StrokeState.stopping, .stopped] := fun hx => by
    have : s.worked.stroke.state ∈ [StrokeState.stopping, .stopped] := by rw [hworked.1]; exact hstate hx
    simpa [State.frameWork_eq] using this
  have hframe : s.frameWork.StrokeQuiet := h.imp hwork fun ⟨_, _, _, hno, htimeout⟩ =>
    ⟨fun r hr => hno r (s.frameWork_suffix.subset hr), by simpa using htimeout⟩
  have htimers := State.programTimers_stands s.seq.engine hframe (h.imp hwork fun ⟨_, _, hstarve, _⟩ he n hn => by
    have hstill := State.worked_of_still (s := s) (by rw [he]; rfl) (by rw [he]; rfl)
    rw [s.frameWork_sameProgram.starve, hstill] at hn
    exact hstarve he n (by simpa using hn))
  constructor
  · rw [State.programmed, htimers.1, ← hworked.1]
    simp [State.frameWork_eq, State.deriveFSet]
  · rw [State.programmed, htimers.2, ← hworked.2]
    simp [State.frameWork_eq]

/-! ## The ends of the two timers -/

/-- Entry into STALLED with or without a tare in flight (R94, R97, R110). -/
theorem State.strokeStalls_entry (s : State) :
    s.strokeStalls.stroke.stall = true ∧ s.strokeStalls.stroke.startTimer = none ∧ s.strokeStalls.stroke.slow = 0 ∧
    (s.stroke.stall = false → (s.strokeStalls.trip.sources[9]).condition = true) ∧
    (s.stroke.tareInFlight = false → s.strokeStalls.stroke.state = .stalled ∧
      s.strokeStalls.stroke.tareState = s.stroke.tareState ∧ s.strokeStalls.stroke.tare = s.stroke.tare ∧
      s.strokeStalls.notice.tareDone = s.notice.tareDone) ∧
    (s.stroke.tareInFlight = true → s.TareFails s.strokeStalls) := by
  have hstalls : s.strokeStalls =
      ((s.setStroke { s.stroke with state := .stalled, startTimer := none, slow := 0 }).setStall true).failTare := rfl
  have hstroke := State.setStall_stroke (s.setStroke { s.stroke with state := .stalled, startTimer := none, slow := 0 }) true
  have hsource := (State.setStall_source (s.setStroke { s.stroke with state := .stalled, startTimer := none, slow := 0 }) true).1
  have hnotice : ((s.setStroke { s.stroke with state := .stalled, startTimer := none, slow := 0 }).setStall true).notice.tareDone =
      s.notice.tareDone ∧ ((s.setStroke { s.stroke with state := .stalled, startTimer := none, slow := 0 }).setStall true).settings =
      s.settings := ⟨by simp, by simp⟩
  generalize (s.setStroke { s.stroke with state := .stalled, startTimer := none, slow := 0 }).setStall true = t at *
  obtain ⟨hdone, hset⟩ := hnotice
  have hslow : t.stroke.slow = 0 := by rw [hstroke]; rfl
  have hflight : t.stroke.tareInFlight = s.stroke.tareInFlight := by rw [hstroke]; rfl
  rw [hstalls]
  refine ⟨by simp [hstroke], ?_, State.failTare_slow hslow, fun h => ?_, fun h => ?_, fun h => ?_⟩
  · cases ht : t.stroke.tareInFlight
    · rw [t.failTare_spec.1 ht, hstroke]
      rfl
    · rw [State.failTare_stroke ht]
      split
      · simp [State.stopStroke, State.enterStopping, hstroke]
      · rw [hstroke]
        rfl
  · have := hsource (by simp [h])
    simpa using this
  · rw [t.failTare_spec.1 (hflight.trans h), hstroke]
    exact ⟨rfl, rfl, rfl, hdone⟩
  · obtain ⟨hstate, htare, hnote⟩ := t.failTare_spec.2.1 (hflight.trans h)
    exact ⟨hstate, htare, by simp [hset], by rw [hnote, hdone, hset]⟩

theorem State.countStart_counts {s : State} {n : Nat} (h : s.stroke.startTimer = some n) (hn : 1 < n) :
    s.countStart = s.setStroke { s.stroke with startTimer := some (n - 1) } := by
  simp [State.countStart, h, Nat.not_le.2 hn]

theorem State.countStart_ends {s : State} {n : Nat} (h : s.stroke.startTimer = some n) (hn : n ≤ 1) :
    s.countStart = s.strokeStalls := by
  simp [State.countStart, h, hn]

theorem State.countStop_counts {s : State} {n : Nat} (h : s.stroke.stopTimer = some n) (hn : 1 < n) :
    s.countStop = s.setStroke { s.stroke with stopTimer := some (n - 1) } := by
  simp [State.countStop, h, Nat.not_le.2 hn]

theorem State.countStop_ends {s : State} {n : Nat} (h : s.stroke.stopTimer = some n) (hn : n ≤ 1) :
    s.countStop = s.strokeStopped := by
  simp [State.countStop, h, hn]

/-- A frame that begins in STARTING with nothing in it to stop the stroke (R94). -/
theorem State.timed_starting {s : State} {n : Nat} (hs : s.stroke.state = .starting) (hn : s.stroke.startTimer = some n)
    (h : s.StrokeUndisturbed) :
    (1 < n → s.timed.stroke.state = .starting ∧ s.timed.stroke.startTimer = some (n - 1) ∧
      s.timed.stroke.stall = s.stroke.stall) ∧
    (n ≤ 1 → s.timed.stroke.stall = true ∧ s.timed.stroke.startTimer = none ∧ s.timed.stroke.slow = 0 ∧
      (s.stroke.stall = false → (s.timed.trip.sources[9]).condition = true) ∧
      (s.stroke.tareInFlight = false → s.timed.stroke.state = .stalled) ∧
      (s.stroke.tareInFlight = true → s.TareFails s.timed)) := by
  obtain ⟨hprogram, hdone⟩ := State.programmed_stroke (.inr h)
  have hstep := State.stepped_stroke h.2.1
  have hset := s.programmed_kept.1
  have hstate : s.programmed.stroke.state = .starting := by rw [hprogram, hstep]; exact hs
  have htimer : s.programmed.stroke.startTimer = some n := by rw [hprogram, hstep]; exact hn
  have hstall : s.programmed.stroke.stall = s.stroke.stall := by rw [hprogram, hstep]
  have htare : s.programmed.stroke.tareState = s.stepped.stroke.tareState ∧
      s.programmed.stroke.tare = s.stepped.stroke.tare := by rw [hprogram]; exact ⟨rfl, rfl⟩
  have htimed : s.timed = s.programmed.countStart := by
    rw [s.timed_programmed, hs, State.strokeTimers_starting hstate]
  rw [htimed]
  refine ⟨fun hlong => ?_, fun hshort => ?_⟩
  · rw [State.countStart_counts htimer hlong]
    exact ⟨hstate, rfl, hstall⟩
  · obtain ⟨hstalled, hstart, hslow, hsource, hnone, hfails⟩ := s.programmed.strokeStalls_entry
    rw [State.countStart_ends htimer hshort]
    refine ⟨hstalled, hstart, hslow, fun hx => hsource (hstall.trans hx), fun hx => (hnone ?_).1, fun hx => ?_⟩
    · obtain hfailed | ⟨hsame, -⟩ := s.stepped_tare
      · rw [StrokeUnit.tareInFlight, htare.1, hfailed.1]
      · rw [StrokeUnit.tareInFlight, htare.1, hsame]
        exact hx
    · obtain hfailed | ⟨hsame, -, hnote⟩ := s.stepped_tare
      · obtain ⟨hstate', htare', -, hnote⟩ := hfailed
        obtain ⟨-, hts, ht, hd⟩ := hnone (by rw [StrokeUnit.tareInFlight, htare.1, hstate'])
        exact ⟨by rw [hts, htare.1, hstate'], by rw [ht, htare.2, htare'], by simp [hset], by rw [hd, hdone, hnote]⟩
      · obtain ⟨hts, ht, hse, hd⟩ := hfails (by rw [StrokeUnit.tareInFlight, htare.1, hsame]; exact hx)
        exact ⟨hts, ht, hse.trans hset, by rw [hd, hdone, hnote, hset]⟩

/-- A frame that begins in STOPPING (R95). -/
theorem State.timed_stopping {s : State} {n : Nat} (hs : s.stroke.state = .stopping) (hn : s.stroke.stopTimer = some n) :
    (1 < n → s.timed.stroke.state = .stopping ∧ s.timed.stroke.stopTimer = some (n - 1) ∧
      s.timed.stroke.stall = s.stroke.stall ∧ s.timed.classifier.overload = s.classifier.overload) ∧
    (n ≤ 1 → s.timed.stroke.state = .stopped ∧ s.timed.stroke.stopTimer = none ∧ s.timed.stroke.stall = false ∧
      s.timed.classifier.overload = false ∧
      (s.stroke.stall = true → (s.timed.trip.sources[9]).condition = false) ∧
      (s.classifier.overload = true → (s.timed.trip.sources[8]).condition = false)) := by
  have hstopped : s.stroke.state ∈ [StrokeState.stopping, .stopped] := by rw [hs]; decide
  obtain ⟨hprogram, -⟩ := State.programmed_stroke (.inl hstopped)
  obtain ⟨hstep, htimer, -⟩ := State.frameReport_stops (s := s.openFrame.interpolate.1) s.openFrame.interpolate.2.advance
    (m := s.openFrame.interpolate.2.material) (by simpa using hstopped)
  have hclass := s.programmed_kept.2
  have hstate : s.programmed.stroke.state = .stopping := by
    rw [hprogram]
    exact hstep.trans (by simpa using hs)
  have hcount : s.programmed.stroke.stopTimer = some n := by
    rw [hprogram]
    exact htimer.trans (by simpa using hn)
  have hstall : s.programmed.stroke.stall = s.stroke.stall := by
    rw [hprogram]
    simp [State.stepped]
  have htimed : s.timed = s.programmed.countStop := by
    rw [s.timed_programmed, hs, State.strokeTimers_stopping hstate]
  rw [htimed]
  refine ⟨fun hlong => ?_, fun hshort => ?_⟩
  · rw [State.countStop_counts hcount hlong]
    exact ⟨hstate, rfl, hstall, by simp [hclass]⟩
  · obtain ⟨hstroke, hoverload, h9, h8⟩ := s.programmed.strokeStopped_spec
    rw [State.countStop_ends hcount hshort, hstroke, hoverload]
    exact ⟨rfl, rfl, rfl, rfl, fun hx => h9 (hstall.trans hx), fun hx => h8 (by rw [hclass]; exact hx)⟩

end Sys2Proof.Machine
end


section
/-! SUPPORT. The statement about a frame begin (R127, R128), and the frames in IDLE, DWELLING and STARVED (R62, R85). -/

namespace Sys2Proof.Machine

/-- In the states without a step or a pivot the frame's work leaves the program. -/
theorem State.frameWork_of_still {s : State} (hs : s.seq.engine.steps = false) (hp : s.seq.engine.pivots = false) :
    s.SameProgram s.frameWork := by
  have hworked : s.SameProgram s.worked := by
    rw [State.worked_of_still hs hp]
    exact s.openFrame_sameProgram.trans (State.frameReport_sameProgram _ _ _)
  exact hworked.trans s.frameWork_sameProgram

/-- In a frame at rest the report stops no stroke outside IDLE, HALTED and ABORTED (R111). -/
theorem State.frameWork_state_of_still {s : State} (hs : s.seq.engine.steps = false) (hp : s.seq.engine.pivots = false)
    (hl : s.seq.engine = .halted → s.stroke.tareInFlight = false) : s.frameWork.stroke.state = s.stroke.state := by
  have hworked : s.worked = s.stepped := State.worked_of_moving (.inr fun h => by rw [h] at hs; cases hs)
    (.inr fun h => by rw [h] at hp; cases hp) (.inr (.inr (Engine.not_resting_of_still hs)))
  rw [s.frameWork_eq]
  simp only [State.takeSetpoints_frame, State.deriveFSet_frame]
  rw [hworked, State.stepped_stroke hl]

/-! ## A slot deactivated in IDLE -/

/-- The slots' activity and conditions after a frame begin are those of its opening. -/
theorem State.beginFrame_sets (s : State) : s.beginFrame.bus.lostSlots = s.openFrame.bus.lostSlots ∧
    s.beginFrame.bus.faultSlots = s.openFrame.bus.faultSlots := by
  have hslot : ∀ j, (s.beginFrame.bus.get j).active = (s.openFrame.bus.get j).active ∧
      (s.beginFrame.bus.get j).lost = (s.openFrame.bus.get j).lost ∧
      (s.beginFrame.bus.get j).fault = (s.openFrame.bus.get j).fault := fun j => by
    obtain ⟨v, r, f, hget, -⟩ := s.beginFrame_get j
    rw [hget, ← s.openFrame_get]
    simp only [SlotState.fix]
    split <;> exact ⟨rfl, rfl, rfl⟩
  exact ⟨Bus.lostSlots_congr fun j => ⟨(hslot j).1, (hslot j).2.1⟩, Bus.faultSlots_congr fun j => ⟨(hslot j).1, (hslot j).2.2⟩⟩

/-- The work of a frame in IDLE is the opening and the report of a travel of 0 (R64). -/
theorem State.worked_of_idle {s : State} (he : s.seq.engine = .idle) : s.worked = s.openFrame.reportWindow 0 false := by
  rw [State.worked_of_still (by rw [he]; rfl) (by rw [he]; rfl), State.restFlag_of_none (by rw [he]; rfl),
    State.frameReport_quiet _ (.inl rfl)]

/-- In IDLE with the stroke's timers stopped no count runs. -/
theorem State.timed_of_idle {s : State} (he : s.seq.engine = .idle)
    (hs : s.stroke.state ∈ [StrokeState.stopped, .running, .stalled]) : s.timed = s.frameWork := by
  rw [s.timed_programmed, State.programmed, State.programTimers_of_calm _ (by rw [he]; decide) (by rw [he]; decide),
    State.strokeTimers_of_still (.inl fun hx => by simp [hx] at hs) (.inl fun hx => by simp [hx] at hs)]

/-- A frame that begins in IDLE with the stroke's timers stopped and no following flag to clear hands nothing on after its opening. -/
theorem State.beginFrame_idle {s : State} (he : s.seq.engine = .idle)
    (hs : s.stroke.state ∈ [StrokeState.stopped, .running, .stalled])
    (hclear : ∀ j, s.settings.params.slotActive j = true → (s.openFrame.bus.get j).following = false) :
    s.SameProgram s.beginFrame ∧ s.openFrame.TripStands s.beginFrame := by
  have hsteps : s.seq.engine.steps = false := by rw [he]; rfl
  have hpivots : s.seq.engine.pivots = false := by rw [he]; rfl
  have htimed := State.timed_of_idle he hs
  have hsame := State.frameWork_of_still hsteps hpivots
  rw [← htimed] at hsame
  refine ⟨hsame.trans s.timed.sendFrame_sameProgram, ?_⟩
  have hwork : s.openFrame.TripStands s.frameWork := by
    rw [s.frameWork_eq, State.worked_of_idle he]
    exact ⟨rfl, rfl, rfl, rfl⟩
  rw [← htimed] at hwork
  refine hwork.trans (State.sendFrame_tripStands fun j hj => ?_)
  rw [s.timed_active] at hj
  rw [s.timed_get, ← s.openFrame_get, SlotState.fix]
  split <;> exact hclear j hj

/-- The flags of a slot deactivated alone in IDLE fall in turn, and nothing else is handed on (R134, R135, R137). -/
theorem State.beginFrame_deactivates {s : State} {k : Slot} (he : s.seq.engine = .idle)
    (hs : s.stroke.state ∈ [StrokeState.stopped, .running, .stalled]) (hk : (s.bus.get k).active = true)
    (hwanted : s.settings.params.slotActive k = false)
    (hothers : ∀ j, j ≠ k → (s.bus.get j).active = s.settings.params.slotActive j ∧ (s.bus.get j).following = false) :
    ∃ v w : State, s.beginFrame.interp = s.interp ∧ s.beginFrame.queue = s.queue ∧
      s.SlotSetTaken v 14 ((s.bus.get k).lost = true) s.beginFrame.bus.lostSlots ∧
      v.SlotSetTaken w 13 ((s.bus.get k).fault = true) s.beginFrame.bus.faultSlots ∧
      (∀ i, k.followSource = some i → (s.bus.get k).following = true → w.ConditionTaken s.beginFrame i false) ∧
      (k = .s ∨ (s.bus.get k).following = false → w.TripStands s.beginFrame) := by
  obtain ⟨t, hstands, hopen, hlostSlots, hfaultSlots⟩ := State.openFrame_deactivates hk hwanted fun j hj => (hothers j hj).1
  obtain ⟨v, w, hlost, hfault, hfollow, hquiet⟩ := t.deactivateSlot_taken k
  obtain ⟨hprog, hframe⟩ := State.beginFrame_idle he hs fun j hj => by
    have hne : j ≠ k := by rintro rfl; rw [hwanted] at hj; cases hj
    obtain ⟨hactive, hclear⟩ := hothers j hne
    rw [s.openFrame_get, hj, SlotState.opened, if_pos rfl, if_pos (by rw [hactive, hj])]
    exact hclear
  obtain ⟨hsets, hsets'⟩ := s.beginFrame_sets
  rw [hstands.self] at hlost hfault hfollow hquiet
  rw [hsets, hsets', hlostSlots, hfaultSlots]
  exact ⟨v, w, hprog.interp, hprog.queue, State.slotSetTaken_of_stands hstands.trip hlost, hfault,
    fun i hi hf => (hfollow i hi hf).stands (hopen.trans hframe), fun h => (hquiet h).trans (hopen.trans hframe)⟩

/-! ## A dwell's expiry in a frame -/

theorem State.DwellCompletes.carry {s t u v : State} {r : Record} {rest : List Record} (h : t.DwellCompletes u r rest)
    (htail : t.queue.tail = s.queue.tail) (hinterp : t.interp = s.interp) (hengine : t.seq.engine = s.seq.engine)
    (hnote : t.notice.engineState = s.notice.engineState) (hdone : t.notice.segmentDone = s.notice.segmentDone)
    (hlow : t.notice.queueLow = s.notice.queueLow) (hset : t.settings = s.settings)
    (hstroke : t.stroke.state = s.stroke.state) (hprog : u.SameProgram v)
    (hstop : s.StrokeStopAsked u → s.StrokeStopAsked v) : s.DwellCompletes v r rest := by
  have hasked : t.StrokeStopAsked u → s.StrokeStopAsked v := fun hx => hstop (hx.congr hstroke.symm (by rw [hset]) rfl rfl rfl)
  simp only [State.DwellCompletes, State.segmentDoneAfter, State.queueLowAfter, htail, hinterp, hnote, hdone, hlow, hset] at h
  simp only [State.DwellCompletes, State.segmentDoneAfter, State.queueLowAfter, hprog.queue, hprog.interp, hprog.engine,
    hprog.resume, hprog.dwell, hprog.engineState, hprog.segmentDone, hprog.queueLow]
  obtain ⟨hdwell, hrest, ht, hx, hy, hh, hblend, hpivot, hdwells, hend, hempty⟩ := h
  refine ⟨hdwell, hrest, ht, hx, hy, hh, hblend, hpivot, hdwells, fun n rest' hn hb => ?_, fun hnil => ?_⟩
  · obtain ⟨hidle, hresume, hrecords, hreport, hstopped⟩ := hend n rest' hn hb
    exact ⟨hidle, hresume, hrecords, hreport, hasked hstopped⟩
  · have hstarves := (hempty hnil).congr (t := s) (v := u) hengine.symm hnote.symm hstroke.symm (by rw [hset]) rfl rfl rfl rfl rfl rfl
    exact hstarves.after hprog hstop

theorem State.programTimers_dwelling {s : State} (h : s.seq.engine = .dwelling) : s.programTimers .dwelling = s.countDwell := by
  simp [State.programTimers, h]

theorem State.programTimers_starved {s : State} (h : s.seq.engine = .starved) : s.programTimers .starved = s.countStarve := by
  simp [State.programTimers, h]

theorem State.beginFrame_programmed (s : State) : s.programmed.SameProgram s.beginFrame := s.beginFrame_sameProgram

/-- A frame that begins in DWELLING on a DWELL (R62). -/
theorem State.beginFrame_dwells {s : State} {r : Record} {d : Nat} {rest : List Record} (he : s.seq.engine = .dwelling)
    (hq : s.queue.records = r :: rest) (hb : r.body = .dwell d) :
    (s.seq.dwellCount + 1 < d → s.beginFrame.seq.engine = .dwelling ∧ s.beginFrame.seq.dwellCount = s.seq.dwellCount + 1 ∧
      s.beginFrame.queue = s.queue ∧ s.beginFrame.notice.engineState = s.notice.engineState ∧
      s.beginFrame.notice.segmentDone = s.notice.segmentDone ∧ s.beginFrame.notice.queueLow = s.notice.queueLow) ∧
    (d ≤ s.seq.dwellCount + 1 → s.DwellCompletes s.beginFrame r rest) := by
  have hsteps : s.seq.engine.steps = false := by rw [he]; rfl
  have hpivots : s.seq.engine.pivots = false := by rw [he]; rfl
  have hwork := State.frameWork_of_still hsteps hpivots
  have hstate := State.frameWork_state_of_still hsteps hpivots fun hx => by rw [he] at hx; cases hx
  have hframe := s.beginFrame_programmed
  have hengine : s.frameWork.seq.engine = .dwelling := hwork.engine.trans he
  have hhead : s.frameWork.headDwell = some d := by simp only [State.headDwell, hwork.queue, hq, hb]
  have hcount : s.programmed = if d ≤ s.seq.dwellCount + 1 then (s.frameWork.setDwell (s.seq.dwellCount + 1)).dwellExpire
      else s.frameWork.setDwell (s.seq.dwellCount + 1) := by
    rw [State.programmed, he, State.programTimers_dwelling hengine, State.countDwell, hhead, ← hwork.dwell]
  refine ⟨fun hshort => ?_, fun hlong => ?_⟩
  · rw [if_neg (by omega)] at hcount
    rw [hcount] at hframe
    exact ⟨hframe.engine.trans hengine, hframe.dwell, hframe.queue.trans hwork.queue, hframe.engineState.trans hwork.engineState,
      hframe.segmentDone.trans hwork.segmentDone, hframe.queueLow.trans hwork.queueLow⟩
  · rw [if_pos hlong] at hcount
    have hdone := State.dwellExpire_completes (s := s.frameWork.setDwell (s.seq.dwellCount + 1)) (rest := rest) hengine
      ((congrArg CutQueue.records hwork.queue).trans hq)
    rw [← hcount] at hdone
    exact hdone.carry (congrArg CutQueue.tail hwork.queue) hwork.interp hwork.engine hwork.engineState hwork.segmentDone
      hwork.queueLow hwork.settings hstate hframe fun h => State.beginFrame_stops h

/-- A frame that begins in STARVED with the starve timer running (R85). -/
theorem State.beginFrame_starves {s : State} {n : Nat} (he : s.seq.engine = .starved) (hn : s.seq.starve = .running n) :
    s.beginFrame.seq.engine = .starved ∧ s.beginFrame.notice.engineState = s.notice.engineState ∧
    (1 < n → s.beginFrame.seq.starve = .running (n - 1)) ∧
    (n ≤ 1 → s.beginFrame.seq.starve = .expired ∧ s.StrokeStopAsked s.beginFrame) := by
  have hsteps : s.seq.engine.steps = false := by rw [he]; rfl
  have hpivots : s.seq.engine.pivots = false := by rw [he]; rfl
  have hwork := State.frameWork_of_still hsteps hpivots
  have hstate := State.frameWork_state_of_still hsteps hpivots fun hx => by rw [he] at hx; cases hx
  have hframe := s.beginFrame_programmed
  have hengine : s.frameWork.seq.engine = .starved := hwork.engine.trans he
  have hcount : s.programmed = if n ≤ 1 then s.frameWork.starveExpire else s.frameWork.setStarve (.running (n - 1)) := by
    rw [State.programmed, he, State.programTimers_starved hengine, State.countStarve, hwork.starve, hn]
  by_cases hlast : n ≤ 1
  · rw [if_pos hlast] at hcount
    have hstop : s.StrokeStopAsked s.programmed := by
      rw [hcount]
      exact (State.strokeStop_asked (s.frameWork.setStarve .expired)).congr hstate.symm (by simp) rfl rfl rfl
    have hstops := State.beginFrame_stops hstop
    rw [hcount] at hframe
    exact ⟨hframe.engine.trans (by simpa using hengine), hframe.engineState.trans (by simpa using hwork.engineState),
      fun h => by omega, fun _ => ⟨hframe.starve.trans (by simp [State.starveExpire, State.setStarve]), hstops⟩⟩
  · rw [if_neg hlast] at hcount
    rw [hcount] at hframe
    exact ⟨hframe.engine.trans hengine, hframe.engineState.trans hwork.engineState, fun _ => hframe.starve,
      fun h => absurd h hlast⟩

/-- The slots after a frame begin: activated, carried on and deactivated (R128). -/
theorem State.beginFrame_slots (s : State) (k : Slot) :
    (s.beginFrame.bus.get k).active = s.settings.params.slotActive k ∧
    ((s.bus.get k).active = false → s.settings.params.slotActive k = true →
      (s.beginFrame.bus.get k).misses = 0 ∧ (s.beginFrame.bus.get k).actual = none ∧ (s.beginFrame.bus.get k).lost = false ∧
      (s.beginFrame.bus.get k).fault = false ∧ (s.beginFrame.bus.get k).following = false ∧
      (s.beginFrame.bus.get k).adopted = false ∧ (s.beginFrame.bus.get k).sentBefore = none) ∧
    ((s.bus.get k).active = true → s.settings.params.slotActive k = true →
      (s.beginFrame.bus.get k).misses = (s.bus.get k).misses ∧ (s.beginFrame.bus.get k).actual = (s.bus.get k).actual ∧
      (s.beginFrame.bus.get k).lost = (s.bus.get k).lost ∧ (s.beginFrame.bus.get k).fault = (s.bus.get k).fault ∧
      (s.beginFrame.bus.get k).adopted = (s.bus.get k).adopted ∧
      (s.beginFrame.bus.get k).sentBefore = (s.bus.get k).sentNow) ∧
    ((s.bus.get k).active = true → s.settings.params.slotActive k = false →
      (s.beginFrame.bus.get k).actual = none ∧ (s.beginFrame.bus.get k).lost = false ∧
      (s.beginFrame.bus.get k).fault = false ∧ (k ≠ .s → (s.beginFrame.bus.get k).following = false) ∧
      (s.beginFrame.bus.get k).adopted = false ∧ (s.beginFrame.bus.get k).sentNow = none ∧
      (s.beginFrame.bus.get k).sentBefore = none) := by
  obtain ⟨v, r, f, hget, hfollow⟩ := s.beginFrame_get k
  refine ⟨?_, fun ha hw => ?_, fun ha hw => ?_, fun ha hw => ?_⟩
  · rw [hget]
    exact (SlotState.fix_active _ v).trans (SlotState.opened_active _ _ _)
  · have hopened : (s.bus.get k).opened (s.settings.params.slotActive k) (k == .s) = SlotState.reset true := by
      simp [SlotState.opened, ha, hw]
    rw [hopened] at hget hfollow
    rw [hget]
    exact ⟨rfl, rfl, rfl, rfl, Bool.eq_false_iff.2 fun hf => absurd (hfollow hf) (by decide), rfl, rfl⟩
  · have hopened : (s.bus.get k).opened (s.settings.params.slotActive k) (k == .s) =
        { s.bus.get k with sentBefore := (s.bus.get k).sentNow, sentNow := none } := by
      simp [SlotState.opened, ha, hw]
    rw [hget, hopened]
    simp [SlotState.fix, ha]
  · rw [State.beginFrame_get_inactive hw, SlotState.opened, if_neg Bool.false_ne_true, if_pos ha]
    exact ⟨rfl, rfl, rfl, fun hk => by simp [hk], rfl, rfl, rfl⟩

/-- Settles O16: the frame's slots and window, the slot deactivated in IDLE, and the four counts of a frame. -/
theorem frameBeginOpensFrame : Obligations.FrameBeginOpensFrame := by
  refine ⟨fun s hb => ?_, fun s k hb he hs hk hwanted hothers => ?_, fun s r d rest hb he hq hbody => ?_,
    fun s n hb he hn => ?_, fun s n hb hs hn hquiet => ?_, fun s n hb hs hn => ?_, fun s hb => ?_⟩
  · refine ⟨s.beginFrame.commit, exec_frameBegin_of_started hb, ?_⟩
    have hslots := s.beginFrame_slots
    simp only [State.commit_frame]
    exact ⟨by simp [s.beginFrame_timed, s.timed_frameCount], s.beginFrame_line, fun k => (hslots k).1, s.beginFrame_window,
      by simp, by simp, by simp, fun k => (hslots k).2.1, fun k => (hslots k).2.2.1, fun k => (hslots k).2.2.2⟩
  · obtain ⟨v, w, hall⟩ := State.beginFrame_deactivates he hs hk hwanted hothers
    exact ⟨s.beginFrame, v, w, exec_frameBegin_of_started hb, hall⟩
  · exact ⟨s.beginFrame, exec_frameBegin_of_started hb, State.beginFrame_dwells he hq hbody⟩
  · obtain ⟨hengine, hnote, hcounts, hends⟩ := State.beginFrame_starves he hn
    exact ⟨s.beginFrame, exec_frameBegin_of_started hb, hengine, hnote, hcounts, fun hlast =>
      ⟨(hends hlast).1, fun hturns => ⟨((hends hlast).2.1 hturns).1, ((hends hlast).2.1 hturns).2.1⟩⟩⟩
  · obtain ⟨hcounts, hends⟩ := State.timed_starting hs hn hquiet
    refine ⟨s.beginFrame, exec_frameBegin_of_started hb, fun hlong => ?_, fun hlast => ?_⟩
    · simpa [s.beginFrame_timed] using hcounts hlong
    · obtain ⟨hstall, hstart, hslow, h9, hstate, hfails⟩ := hends hlast
      have hsource : s.timed.sendFrame.trip.sources[9] = s.timed.trip.sources[9] := State.sendFrame_source (i := 9) (by decide)
      rw [s.beginFrame_timed, hsource]
      refine ⟨by simpa using hstall, by simpa using hstart, by simpa using hslow, h9, by simpa using hstate, fun ht => ?_⟩
      simpa [State.TareFails] using hfails ht
  · obtain ⟨hcounts, hends⟩ := State.timed_stopping hs hn
    refine ⟨s.beginFrame, exec_frameBegin_of_started hb, fun hlong => ?_, fun hlast => ?_⟩
    · simpa [s.beginFrame_timed] using hcounts hlong
    · obtain ⟨hstate, hstop, hstall, hover, h9, h8⟩ := hends hlast
      have hsource9 : s.timed.sendFrame.trip.sources[9] = s.timed.trip.sources[9] := State.sendFrame_source (i := 9) (by decide)
      have hsource8 : s.timed.sendFrame.trip.sources[8] = s.timed.trip.sources[8] := State.sendFrame_source (i := 8) (by decide)
      rw [s.beginFrame_timed, hsource9, hsource8]
      exact ⟨by simpa using hstate, by simpa using hstop, by simpa using hstall, by simpa using hover, h9, h8⟩
  · rw [exec_frameBegin, if_neg (by simp [hb])]

end Sys2Proof.Machine
end


section
/-! SUPPORT. The setpoints of a frame and the records that carry them (R90, R91, R129, R130, R137). -/

namespace Sys2Proof.Machine

/-! ## The record of one slot -/

theorem State.enableOf_iff (s : State) (k : Slot) : s.enableOf k = true ↔ s.EnableOn s.bus.level k := by
  cases k
  case s => cases h : s.stroke.state <;> simp [State.enableOf, State.EnableOn, Bus.quickStopFlag, StrokeUnit.enable, h]
  all_goals simp [State.enableOf, State.EnableOn, Bus.quickStopFlag, Bus.get, and_comm, and_left_comm,
    and_assoc]

/-- The enable flag depends on the level, the slot's adoption, the engine and the stroke. -/
theorem State.EnableOn.congr {s u : State} {l : TripLevel} {k : Slot} (ha : (u.bus.get k).adopted = (s.bus.get k).adopted)
    (he : u.seq.engine = s.seq.engine) (hs : u.stroke.state = s.stroke.state) : u.EnableOn l k ↔ s.EnableOn l k := by
  cases k <;> simp only [State.EnableOn, ha, he, hs]

/-- A setpoint record is six bytes: its head, the value and the check (R130). -/
theorem setpointRecord_eq (k : Slot) (enable quickStop : Bool) (v : Int) : setpointRecord k enable quickStop v =
    byte (k.number + 4 * enable.toNat + 8 * quickStop.toNat) :: be32 v ++
      [crc8 (byte (k.number + 4 * enable.toNat + 8 * quickStop.toNat) :: be32 v)] := by
  cases enable <;> cases quickStop <;> rfl

theorem setpointRecord_length (k : Slot) (enable quickStop : Bool) (v : Int) : (setpointRecord k enable quickStop v).length = 6 := rfl

/-- The state has just sent the record of slot `k` (R130): the value fixed, the flags of the moment, and no following flag without
enable. -/
def State.RecordSent (u : State) (level : TripLevel) (k : Slot) : Prop :=
  ∃ enable : Bool, (enable = true ↔ u.EnableOn level k) ∧
    (u.bus.get k).sentNow = some ⟨(u.bus.get k).setpoint, enable⟩ ∧
    u.bus.line.drop (u.bus.line.length - 6) = setpointRecord k enable (decide (level = .quickStop)) (u.bus.get k).setpoint ∧
    (enable = false → k ≠ .s → (u.bus.get k).following = false)

theorem State.sendSlot_sent (s : State) (k : Slot) : (s.sendSlot k).RecordSent s.bus.level k := by
  have hget := s.sendSlot_get k
  refine ⟨s.enableOf k, ?_, by rw [hget], ?_, fun he hk => by rw [hget]; simp [he, hk]⟩
  · rw [s.enableOf_iff]
    exact (State.EnableOn.congr (by rw [hget]) (by simp) (by simp)).symm
  · have hflag : s.bus.quickStopFlag = decide (s.bus.level = .quickStop) := by
      rw [Bus.quickStopFlag]
      cases s.bus.level <;> rfl
    rw [s.sendSlot_line, hget, List.length_append, setpointRecord_length, Nat.add_sub_cancel, List.drop_left, hflag]

/-- Where a window stands open after the bus went on to the next active slot, that slot's record has been sent. -/
theorem State.sendFirstOf_sent {ks : List Slot} {s : State} {w : ReturnWindow}
    (h : (State.sendFirstOf ks s).bus.window = some w) : (State.sendFirstOf ks s).RecordSent s.bus.level w.slot := by
  cases hf : ks.find? fun j => (s.bus.get j).active with
  | none =>
    rw [State.sendFirstOf_of_none hf] at h
    cases h
  | some k =>
    rw [State.sendFirstOf_of_some hf] at h ⊢
    rw [s.sendSlot_window] at h
    obtain rfl := Option.some.inj h
    exact s.sendSlot_sent k

theorem State.RecordSent.commit {u : State} {level : TripLevel} {k : Slot} (h : u.RecordSent level k) :
    u.commit.RecordSent level k := by
  simpa [State.RecordSent, State.EnableOn] using h

/-- The two events after which a window stands open: a frame begin and the close of a window. -/
theorem exec_sends {c : Instr} {s t : State} {w : ReturnWindow} (hc : (c = .frameBegin ∧ s.bus.started = true) ∨ c = .returnWindowClose)
    (ht : exec c s = .next t) (hw : t.bus.window = some w) : t.RecordSent s.bus.level w.slot := by
  obtain ⟨rfl, hb⟩ | rfl := hc
  · rw [exec_frameBegin_of_started hb] at ht
    cases ht
    have hlevel : (s.timed.setBus { s.timed.bus with line := syncRecord s.timed.bus.frameCount }).bus.level = s.bus.level := by
      simp [s.timed_eq]
    have hwindow : s.beginFrame.bus.window = some w := by simpa using hw
    have hsent := State.sendFirstOf_sent (ks := [.x, .y, .h, .s])
      (s := s.timed.setBus { s.timed.bus with line := syncRecord s.timed.bus.frameCount }) (w := w) hwindow
    rw [hlevel] at hsent
    exact hsent.commit
  · rw [exec_returnWindowClose] at ht
    cases ht
    have hlevel : (s.setBus s.bus.openHeld).bus.level = s.bus.level := by simp
    have hw' : s.closeWindow.bus.window = some w := by simpa using hw
    refine State.RecordSent.commit ?_
    rw [← hlevel]
    simp only [State.closeWindow] at hw' ⊢
    cases hheld : (s.setBus s.bus.openHeld).bus.window with
    | none =>
      simp only [hheld] at hw'
      cases hw'
    | some v =>
      simp only [hheld] at hw' ⊢
      have hsent := State.sendFirstOf_sent hw'
      have hmiss : (if v.answered = true then s.setBus s.bus.openHeld
          else (s.setBus s.bus.openHeld).missReturn v.slot).bus.level = (s.setBus s.bus.openHeld).bus.level := by
        split <;> simp
      rwa [hmiss] at hsent

end Sys2Proof.Machine
end


section
/-! SUPPORT. The setpoints fixed at a frame begin and the statement about the setpoint records (R90, R91, R129, R130, R137). -/

namespace Sys2Proof.Machine

/-! ## f_set through a frame (R90) -/

theorem State.deriveFSet_fSet (s : State) : s.deriveFSet.stroke.fSet = s.derivedFrequency := rfl

/-- f_set's source depends on the active record, the parameters and the material band. -/
theorem State.derivedFrequency_congr {s u : State} (hq : u.queue = s.queue) (he : u.seq.engine = s.seq.engine)
    (hp : u.settings = s.settings) (hb : u.classifier.bands = s.classifier.bands)
    (hm : u.classifier.material = s.classifier.material) : u.derivedFrequency = s.derivedFrequency := by
  simp only [State.derivedFrequency, State.activeRecord, hq, he, hp, hb, hm]

theorem State.enterProgram_fSet (s : State) (e : Engine) (c : Cause) : (s.enterProgram e c).stroke.fSet = s.stroke.fSet := by
  simp only [State.enterProgram]
  split <;> simp

theorem State.dispatch_fSet (s : State) (c : Cause) (keep : Bool) : (s.dispatch c keep).stroke.fSet = s.stroke.fSet := by
  simp only [State.dispatch, State.endReached, State.enterStarved]
  repeat' split
  all_goals simp [State.setResume, State.enterProgram_fSet]

theorem State.programTimers_fSet (s : State) (e : Engine) : (s.programTimers e).stroke.fSet = s.stroke.fSet := by
  have hdwell : s.countDwell.stroke.fSet = s.stroke.fSet := by
    simp only [State.countDwell, State.dwellExpire]
    repeat' split
    · rfl
    · rw [State.dispatch_fSet]
      simp
    · rfl
  have hstarve : ∀ t : State, t.countStarve.stroke.fSet = t.stroke.fSet := fun t => by
    simp only [State.countStarve, State.starveExpire]
    repeat' split
    all_goals simp
  simp only [State.programTimers]
  split_ifs
  · rw [hstarve, hdwell]
  · exact hdwell
  · exact hstarve s
  · rfl

theorem State.strokeTimers_fSet (s : State) (t : StrokeState) : (s.strokeTimers t).stroke.fSet = s.stroke.fSet := by
  simp only [State.strokeTimers, State.countStart, State.countStop]
  repeat' split
  all_goals simp

/-- f_set after a frame is that which the frame's work derived. -/
theorem State.timed_fSet (s : State) : s.timed.stroke.fSet = s.worked.derivedFrequency := by
  rw [s.timed_programmed, State.strokeTimers_fSet, State.programmed, State.programTimers_fSet, s.frameWork_eq,
    State.takeSetpoints_frame s.worked.deriveFSet |>.2.2.2.2.2.2.2.1, State.deriveFSet_fSet]

/-! ## The setpoints fixed (R91, R129) -/

theorem State.beginFrame_setpoint {s : State} {k : Slot} (h : s.settings.params.slotActive k = true) :
    (s.beginFrame.bus.get k).setpoint = s.worked.deriveFSet.setpointOf k := by
  have hslot := s.timed_get k
  obtain ⟨r, f, hget, -⟩ := State.sendFirstOf_get_any [.x, .y, .h, .s]
    (s.timed.setBus { s.timed.bus with line := syncRecord s.timed.bus.frameCount }) k
  rw [State.setLine_get, hslot] at hget
  have hbegin : s.beginFrame.bus.get k = _ := hget
  rw [hbegin]
  simp [SlotState.fix, SlotState.opened_active, h]

theorem StrokeUnit.setpoint_eq (u : StrokeUnit) : (u.setpoint : Int) = strokeSetpoint u.state u.fSet := by
  cases h : u.state <;> simp [StrokeUnit.setpoint, strokeSetpoint, h]

theorem strokeSetpoint_of_stopped {a : StrokeState} (f : Nat) (h : a ∈ [StrokeState.stopping, .stopped]) : strokeSetpoint a f = 0 := by
  simp only [List.mem_cons, List.not_mem_nil, or_false] at h
  obtain rfl | rfl := h <;> rfl

/-! ## The stroke's state between the setpoints and the end of a frame -/

/-- A frame leaves the stroke's start as it was, or stops it. -/
def State.StopsOnly (s u : State) : Prop :=
  u.stroke.state = s.stroke.state ∧ u.stroke.startTimer = s.stroke.startTimer ∨ u.stroke.state ∈ [StrokeState.stopping, .stopped]

theorem State.StopsOnly.trans {s u v : State} (h : s.StopsOnly u) (g : u.StopsOnly v) : s.StopsOnly v := by
  obtain g | g := g
  · exact h.imp (fun h => ⟨g.1.trans h.1, g.2.trans h.2⟩) fun h => by rw [g.1]; exact h
  · exact .inr g

theorem State.strokeStop_stopsOnly (s : State) : s.StopsOnly s.strokeStop := .inr s.strokeStop_asked.2

theorem State.failTare_stopsOnly (s : State) : s.StopsOnly s.failTare := by
  cases ht : s.stroke.tareInFlight
  · rw [s.failTare_spec.1 ht]
    exact .inl ⟨rfl, rfl⟩
  · rw [State.StopsOnly, State.failTare_stroke ht]
    split
    · cases hs : s.stroke.state <;> simp [State.stopStroke, State.enterStopping, hs]
    · exact .inl ⟨rfl, rfl⟩

theorem State.dispatch_stopsOnly {s : State} (h : s.seq.engine.runsProgram = true) : s.StopsOnly (s.dispatch .ending false) := by
  cases hq : s.queue.records with
  | nil =>
    rw [s.dispatch_starved _ _ hq, State.enterStarved]
    split
    · exact State.StopsOnly.trans (u := (s.enterEngine .starved .starve none).setStarve .expired) (.inl ⟨by simp, by simp⟩)
        (State.strokeStop_stopsOnly _)
    · exact .inl ⟨by simp, by simp⟩
  | cons n rest =>
    by_cases hb : n.body = .programEnd
    · have hidle : s.seq.engine ≠ .idle := fun he => by rw [he] at h; cases h
      rw [s.dispatch_end _ _ n rest hq hb, if_neg hidle]
      have hstop : s.StopsOnly s.completeHead.strokeStop :=
        State.StopsOnly.trans (u := s.completeHead) (.inl ⟨by simp, by simp⟩) s.completeHead.strokeStop_stopsOnly
      exact hstop.trans (.inl ⟨by simp [State.setResume], by simp [State.setResume]⟩)
    · have hstands := State.dispatch_head_stands h hq hb
      exact .inl ⟨by rw [hstands.1], by rw [hstands.1]⟩

/-- The sequencer's part of a frame leaves the stroke's start as it was, or stops the stroke. -/
theorem State.worked_stopsOnly (s : State) : s.StopsOnly s.worked := by
  have hopen : s.StopsOnly s.openFrame.interpolate.1 := .inl ⟨by simp, by simp⟩
  have hreport : s.openFrame.interpolate.1.StopsOnly s.stepped := by
    rw [State.stepped, State.frameReport_eq]
    split
    · exact State.StopsOnly.trans (u := s.openFrame.interpolate.1.reportWindow _ _) (.inl ⟨rfl, rfl⟩)
        (State.failTare_stopsOnly _)
    · exact .inl ⟨rfl, rfl⟩
  have hafter : ∀ (t : State) (w : FrameWork), t.StopsOnly (t.afterWork w) := fun t w => by
    simp only [State.afterWork, Bool.and_eq_true, beq_iff_eq]
    split_ifs with hl hp
    · exact State.dispatch_stopsOnly (by rw [hl.2]; rfl)
    · rw [State.enterProgram_of_runs (by rw [hp.2]; rfl)]
      exact .inl ⟨by simp, by simp⟩
    · exact .inl ⟨rfl, rfl⟩
  have hrest : ∀ t : State, t.StopsOnly t.restTest := fun t => by
    simp only [State.restTest]
    split
    · split
      · exact .inl ⟨by simp, by simp⟩
      · exact t.strokeStop_stopsOnly.trans (.inl ⟨by simp, by simp⟩)
      · simp only [State.cancelFlush]
        exact State.StopsOnly.trans (u := (t.setSeq { t.seq with interrupted := some t.report }).flush)
          (.inl ⟨by simp, by simp⟩) ((State.strokeStop_stopsOnly _).trans (.inl ⟨by simp, by simp⟩))
      all_goals exact .inl ⟨rfl, rfl⟩
    · exact .inl ⟨rfl, rfl⟩
  exact ((hopen.trans hreport).trans (hafter _ _)).trans (hrest _)

/-- Where no count of the frame ends but the stop timer's, the program's timers only count (R62, R85). -/
theorem State.programTimers_counting {s : State} {e : Engine}
    (hd : e = .dwelling → ∀ d, s.headDwell = some d → s.seq.dwellCount + 1 < d)
    (hs : e = .starved → ∀ n, s.seq.starve = .running n → 1 < n) :
    (s.programTimers e).stroke = s.stroke ∧ (s.programTimers e).queue = s.queue ∧
    (s.programTimers e).seq.engine = s.seq.engine := by
  by_cases h : e = .dwelling ∧ s.seq.engine = .dwelling
  · obtain ⟨rfl, he⟩ := h
    rw [State.programTimers_dwelling he]
    cases hh : s.headDwell with
    | none => simp [State.countDwell, hh]
    | some d => simp [State.countDwell, hh, Nat.not_le.2 (hd rfl d hh)]
  · by_cases h' : e = .starved ∧ s.seq.engine = .starved
    · obtain ⟨rfl, he⟩ := h'
      rw [State.programTimers_starved he]
      cases hn : s.seq.starve with
      | stopped => simp [State.countStarve, hn]
      | expired => simp [State.countStarve, hn]
      | running n => simp [State.countStarve, hn, Nat.not_le.2 (hs rfl n hn)]
    · rw [State.programTimers, if_neg h, if_neg h']
      exact ⟨rfl, rfl, rfl⟩

/-- The stroke's timers leave the S setpoint but for the end of the start timer: STOPPING and STOPPED both have 0 (R91). -/
theorem State.strokeTimers_setpoint {s : State} {b : StrokeState}
    (h : b = .starting → s.stroke.state = .starting → ∀ n, s.stroke.startTimer = some n → 1 < n) (f : Nat) :
    strokeSetpoint (s.strokeTimers b).stroke.state f = strokeSetpoint s.stroke.state f := by
  by_cases hstart : b = .starting ∧ s.stroke.state = .starting
  · obtain ⟨rfl, hs⟩ := hstart
    rw [State.strokeTimers_starting hs]
    cases hn : s.stroke.startTimer with
    | none => simp [State.countStart, hn]
    | some n => rw [State.countStart_counts hn (h rfl hs n hn)]; rfl
  · by_cases hstop : b = .stopping ∧ s.stroke.state = .stopping
    · obtain ⟨rfl, hs⟩ := hstop
      rw [State.strokeTimers_stopping hs, hs, strokeSetpoint_of_stopped f (a := .stopping) (by decide), strokeSetpoint_of_stopped]
      cases hn : s.stroke.stopTimer with
      | none => simp [State.countStop, hn, hs]
      | some n =>
        by_cases hlast : n ≤ 1
        · rw [State.countStop_ends hn hlast, s.strokeStopped_spec.1]
          simp
        · rw [State.countStop_counts hn (by omega)]
          simp [hs]
    · rw [State.strokeTimers_of_still (not_and_or.1 hstart) (not_and_or.1 hstop)]

/-- f_set and the S setpoint of a frame in which no count ends (R90, R91). -/
theorem State.beginFrame_noExpiry {s : State} (h : s.NoExpiry) :
    s.beginFrame.derivedFrequency = s.worked.derivedFrequency ∧
    ∀ f, strokeSetpoint s.beginFrame.stroke.state f = strokeSetpoint s.worked.stroke.state f := by
  obtain ⟨hdwell, hstarve, hstart⟩ := h
  have hwork := s.frameWork_sameProgram
  obtain ⟨hstroke, hqueue, hengine⟩ : s.programmed.stroke = s.frameWork.stroke ∧ s.programmed.queue = s.frameWork.queue ∧
      s.programmed.seq.engine = s.frameWork.seq.engine := by
    refine State.programTimers_counting (fun he d hd => ?_) (fun he n hn => ?_)
    · have hsame := State.frameWork_of_still (s := s) (by rw [he]; rfl) (by rw [he]; rfl)
      rw [hsame.dwell]
      refine hdwell he d ?_
      simpa only [State.headDwell, hsame.queue] using hd
    · have hsame := State.frameWork_of_still (s := s) (by rw [he]; rfl) (by rw [he]; rfl)
      rw [hsame.starve] at hn
      exact hstarve he n hn
  have hframe := s.beginFrame_programmed
  have hstate : s.programmed.stroke.state = s.worked.stroke.state ∧
      s.programmed.stroke.startTimer = s.worked.stroke.startTimer := by
    rw [hstroke]
    simp [State.frameWork_eq]
  refine ⟨State.derivedFrequency_congr (hframe.queue.trans (hqueue.trans hwork.queue))
    (hframe.engine.trans (hengine.trans hwork.engine)) (by simp [State.worked, State.stepped])
    (by simp [State.worked, State.stepped]) (by simp [State.worked, State.stepped]), fun f => ?_⟩
  have hfinal : s.beginFrame.stroke.state = (s.programmed.strokeTimers s.stroke.state).stroke.state := by
    rw [s.beginFrame_timed, s.timed_programmed]
    simp
  rw [hfinal, State.strokeTimers_setpoint (fun hb hs n hn => ?_), hstate.1]
  rw [hstate.1] at hs
  rw [hstate.2] at hn
  obtain ⟨-, htimer⟩ | hstopped := s.worked_stopsOnly
  · exact hstart hb n (htimer ▸ hn)
  · rw [hs] at hstopped
    exact absurd hstopped (by decide)

/-- f_set and the S setpoint of a frame that begins in a state whose frames move nothing and stop no stroke (R90, R91). -/
theorem State.worked_calm {s : State} (h : s.seq.engine ∈ [Engine.idle, .dwelling, .starved, .held, .aborted]) :
    s.worked.derivedFrequency = s.derivedFrequency ∧ s.worked.stroke.state = s.stroke.state := by
  obtain ⟨hs, hp, hl⟩ : s.seq.engine.steps = false ∧ s.seq.engine.pivots = false ∧ s.seq.engine ≠ .halted := by
    simp only [List.mem_cons, List.not_mem_nil, or_false] at h
    obtain h | h | h | h | h := h <;> rw [h] <;> decide
  have hwork := State.frameWork_of_still hs hp
  have hframe := s.frameWork_sameProgram
  refine ⟨State.derivedFrequency_congr (hframe.queue.symm.trans hwork.queue) (hframe.engine.symm.trans hwork.engine)
    (by simp [State.worked, State.stepped]) (by simp [State.worked, State.stepped]) (by simp [State.worked, State.stepped]), ?_⟩
  have hstate := State.frameWork_state_of_still hs hp fun hx => absurd hx hl
  simpa [State.frameWork_eq] using hstate

/-! ## The close of a window -/

/-- The record of a slot put on the line and its window opened (R127, R130). -/
def State.putRecord (s : State) (k : Slot) : State :=
  let b := s.bus.put k { s.bus.get k with sentNow := some ⟨(s.bus.get k).setpoint, s.enableOf k⟩ }
  s.setBus { b with
    line := b.line ++ setpointRecord k (s.enableOf k) s.bus.quickStopFlag (s.bus.get k).setpoint, window := some ⟨k, false⟩ }

theorem State.sendSlot_eq (s : State) (k : Slot) :
    s.sendSlot k = if s.enableOf k then s.putRecord k else (s.putRecord k).setFollowing k false := rfl

theorem State.putRecord_tripStands (s : State) (k : Slot) : s.TripStands (s.putRecord k) := by
  cases k <;> exact ⟨rfl, rfl, rfl, rfl⟩

theorem State.putRecord_following (s : State) (k : Slot) : ((s.putRecord k).bus.get k).following = (s.bus.get k).following := by
  cases k <;> rfl

theorem State.TripStands.conditionTaken {s v u : State} {i : Fin 15} {b : Bool} (h : s.TripStands v)
    (ht : v.ConditionTaken u i b) : s.ConditionTaken u i b := by
  obtain ⟨htrip, hseq, hbus, hnotice⟩ := h
  simpa only [State.ConditionTaken, htrip, hseq, hbus, hnotice] using ht

/-- The next record after an answered window: its following flag falls where its enable is off (R137). -/
theorem State.sendSlot_taken (s : State) (k : Slot) :
    (∀ i, k.followSource = some i → (s.bus.get k).following = true → ¬ s.EnableOn s.bus.level k →
      s.ConditionTaken (s.sendSlot k) i false) ∧
    (k = .s ∨ (s.bus.get k).following = false ∨ s.EnableOn s.bus.level k → s.TripStands (s.sendSlot k)) := by
  have hput := s.putRecord_tripStands k
  obtain ⟨htaken, hstands⟩ := (s.putRecord k).setFollowing_taken k false
  rw [s.putRecord_following] at htaken hstands
  rw [← s.enableOf_iff, s.sendSlot_eq]
  refine ⟨fun i hi hf he => ?_, fun h => ?_⟩
  · rw [if_neg he]
    exact hput.conditionTaken (htaken i hi (by simp [hf]))
  · split
    · exact hput
    · rename_i he
      rw [hstands (h.imp (by rintro rfl; rfl) fun h => h.resolve_right he)]
      exact hput

theorem State.closeWindow_setpoint {s : State} {k : Slot} {answered : Bool} (h : s.bus.window = some ⟨k, answered⟩) (j : Slot) :
    (s.closeWindow.bus.get j).setpoint = (s.bus.get j).setpoint := by
  rw [State.closeWindow_of_window h]
  obtain ⟨r, f, hget, -⟩ := State.sendFirstOf_get_any k.later (if answered then s else s.missReturn k) j
  rw [hget]
  split
  · rfl
  · by_cases hj : j = k
    · rw [hj, s.missReturn_get_self]
    · rw [s.missReturn_get_other hj]

/-- Settles O21: the record sent by the two events, the values fixed at the frame begin, and the close of an answered window. -/
theorem quickStopRemovesEnable : Obligations.QuickStopRemovesEnable := by
  refine ⟨fun c s t w hc hlevel ht hw => ?_, setpointRecord_eq, fun c s t w hc ht hw => exec_sends hc ht hw,
    fun s hb => ?_, fun s k answered h => ?_⟩
  · obtain ⟨enable, henable, hsent, hline, -⟩ := exec_sends hc ht hw
    have hoff : enable = false := Bool.eq_false_iff.2 fun he => (henable.1 he).1 hlevel
    rw [hoff] at hsent hline
    refine ⟨_, hsent, ?_⟩
    rw [hline, hlevel]
    rfl
  · have hpose : s.beginFrame.interp.x = s.worked.interp.x ∧ s.beginFrame.interp.y = s.worked.interp.y ∧
        s.beginFrame.interp.heading = s.worked.interp.heading := by
      simp [s.beginFrame_timed, s.timed_eq, State.frameWork_eq]
    obtain ⟨hx, hy, hh⟩ := hpose
    have hset : s.beginFrame.stroke.fSet = s.worked.derivedFrequency := by
      rw [← s.timed_fSet, s.beginFrame_timed]
      simp
    have hstroke : s.settings.params.slotActive .s = true → s.beginFrame.bus.s.setpoint =
        strokeSetpoint s.worked.stroke.state s.worked.derivedFrequency := fun ha =>
      (State.beginFrame_setpoint ha).trans (StrokeUnit.setpoint_eq _)
    refine ⟨s.beginFrame, exec_frameBegin_of_started hb, fun ha => ?_, fun ha => ?_, fun ha => ?_, fun hno => ?_, fun he => ?_⟩
    · rw [hx]
      exact State.beginFrame_setpoint ha
    · rw [hy]
      exact State.beginFrame_setpoint ha
    · rw [hh]
      exact State.beginFrame_setpoint ha
    · obtain ⟨hderived, hstate⟩ := State.beginFrame_noExpiry hno
      exact ⟨hset.trans hderived.symm, fun ha => by rw [hset, hstate]; exact hstroke ha⟩
    · obtain ⟨hderived, hstate⟩ := State.worked_calm he
      exact ⟨hset.trans hderived, fun ha => by rw [hset, ← hstate]; exact hstroke ha⟩
  · refine ⟨s.closeWindow, exec_returnWindowClose s, State.closeWindow_setpoint h, fun ha hnone => ?_, fun ha j hj => ?_⟩
    · subst ha
      rw [State.closeWindow_of_window h, if_pos rfl, State.sendFirstOf_of_none hnone]
      exact ⟨rfl, rfl, rfl, rfl⟩
    · subst ha
      rw [State.closeWindow_of_window h, if_pos rfl, State.sendFirstOf_of_some hj]
      exact s.sendSlot_taken j

end Sys2Proof.Machine
end


section
/-! SUPPORT. A tare (R107 to R111): its request, its windows and its failures. -/

namespace Sys2Proof.Machine

/-! ## The request (R107) -/

theorem State.serveTare_of_no_segment {s : State} (he : s.seq.engine ≠ .idle) (ha : s.activeRecord = none) :
    s.serveTare = (s, .state) := by
  simp [State.serveTare, he, ha]

theorem State.serveTare_of_material {s : State} {r : Record} (ha : s.activeRecord = some r) (hm : r.material = true) :
    s.serveTare = (s, .inMaterial) := by
  simp [State.serveTare, ha, hm]

/-- A TARE request that passes the checks of the engine and the segment (R107). -/
theorem State.serveTare_of_place {s : State} (hp : s.seq.engine = .idle ∨ s.activeRecord ≠ none)
    (hm : ∀ r, s.activeRecord = some r → r.material = false) : s.serveTare =
      if s.stroke.tareInFlight then (s, .busy)
      else if ¬(s.trip.level = .none ∨ s.trip.level = .hold) then (s, .tripped)
      else match s.stroke.state with
        | .stopped => ((State.serveTare.create s true .waiting).strokeStart, .ok)
        | .stopping => ((State.serveTare.create s true .waiting).strokeStart, .ok)
        | .starting => (State.serveTare.create s false .waiting, .ok)
        | .stalled => (State.serveTare.create s false .waiting, .ok)
        | .running => (State.serveTare.create s false .measuring, .ok) := by
  have hplace : ¬ ¬(s.seq.engine = .idle ∨ s.activeRecord.isSome) := by
    rw [not_not, Option.isSome_iff_ne_none]
    exact hp
  have hmaterial : ¬ (s.activeRecord.map Record.material).getD false = true := by
    cases ha : s.activeRecord with
    | none => decide
    | some r => simp [hm r ha]
  simp only [State.serveTare]
  rw [if_neg hplace, if_neg hmaterial] <;> rfl

/-- An accepted TARE request acts by the stroke state (R107). -/
theorem State.serveTare_accepted {s : State} (hp : s.seq.engine = .idle ∨ s.activeRecord ≠ none)
    (hm : ∀ r, s.activeRecord = some r → r.material = false) (hf : s.stroke.tareInFlight = false)
    (hl : s.trip.level ∈ [TripLevel.none, .hold]) : s.serveTare =
      match s.stroke.state with
      | .stopped => ((State.serveTare.create s true .waiting).strokeStart, .ok)
      | .stopping => ((State.serveTare.create s true .waiting).strokeStart, .ok)
      | .starting => (State.serveTare.create s false .waiting, .ok)
      | .stalled => (State.serveTare.create s false .waiting, .ok)
      | .running => (State.serveTare.create s false .measuring, .ok) := by
  have hlevel : ¬ ¬(s.trip.level = .none ∨ s.trip.level = .hold) := not_not.2 (by simpa using hl)
  rw [State.serveTare_of_place hp hm, if_neg (by simp [hf]), if_neg hlevel]

/-! ## The failures of a tare in flight (R110) -/

theorem State.strokeStop_fails {s : State} (h : s.stroke.state ∈ [StrokeState.starting, .running, .stalled])
    (ht : s.stroke.tareInFlight = true) : s.TareFails s.strokeStop := by
  have hstop : s.strokeStop = s.stopStroke.failTare := by
    simp only [List.mem_cons, List.not_mem_nil, or_false] at h
    obtain h | h | h := h <;> simp [State.strokeStop, h]
  have hflight : s.stopStroke.stroke.tareInFlight = true := by
    simpa [StrokeUnit.tareInFlight] using ht
  obtain ⟨hstate, htare, hdone⟩ := s.stopStroke.failTare_spec.2.1 hflight
  rw [hstop]
  exact ⟨hstate, htare, by simp, by simpa using hdone⟩

theorem State.TareFails.of_eq {s t u v : State} (h : t.TareFails u) (hs : t.settings = s.settings)
    (hn : t.notice.tareDone = s.notice.tareDone) (hstate : v.stroke.tareState = u.stroke.tareState)
    (htare : v.stroke.tare = u.stroke.tare) (hset : v.settings = u.settings) (hdone : v.notice.tareDone = u.notice.tareDone) :
    s.TareFails v := by
  simpa only [State.TareFails, hs, hn, hstate, htare, hset, hdone] using h

/-- Without a tare in flight the stroke's timers leave the tare. -/
theorem State.strokeTimers_tare {s : State} (h : s.stroke.tareInFlight = false) (b : StrokeState) :
    (s.strokeTimers b).stroke.tareState = s.stroke.tareState ∧ (s.strokeTimers b).stroke.tare = s.stroke.tare ∧
    (s.strokeTimers b).notice.tareDone = s.notice.tareDone := by
  have hstart : s.countStart.stroke.tareState = s.stroke.tareState ∧ s.countStart.stroke.tare = s.stroke.tare ∧
      s.countStart.notice.tareDone = s.notice.tareDone := by
    simp only [State.countStart]
    split
    · exact ⟨rfl, rfl, rfl⟩
    · split
      · exact (s.strokeStalls_entry.2.2.2.2.1 h).2
      · exact ⟨rfl, rfl, rfl⟩
  have hstop : ∀ t : State, t.countStop.stroke.tareState = t.stroke.tareState ∧ t.countStop.stroke.tare = t.stroke.tare ∧
      t.countStop.notice.tareDone = t.notice.tareDone := fun t => by
    simp only [State.countStop]
    repeat' split
    all_goals simp
  simp only [State.strokeTimers]
  split_ifs
  · simpa only [(hstop s.countStart).1, (hstop s.countStart).2] using hstart
  · exact hstart
  · exact hstop s
  · exact ⟨rfl, rfl, rfl⟩

/-- A frame that begins in HELD or HALTED on a material segment (R64, R110). -/
theorem State.beginFrame_fails {s : State} {r : Record} (ht : s.stroke.tareInFlight = true)
    (he : s.seq.engine ∈ [Engine.held, .halted]) (hr : s.queue.records.head? = some r) (hm : r.material = true) :
    s.TareFails s.beginFrame := by
  obtain ⟨hs, hp, hh, hd, hst⟩ : s.seq.engine.steps = false ∧ s.seq.engine.pivots = false ∧ s.seq.engine.holdsSegment = true ∧
      s.seq.engine ≠ .dwelling ∧ s.seq.engine ≠ .starved := by
    simp only [List.mem_cons, List.not_mem_nil, or_false] at he
    obtain he | he := he <;> rw [he] <;> decide
  have hflag : s.restFlag = true := by simp [State.restFlag, State.activeRecord, hh, hr, hm]
  have hworked : s.TareFails s.worked := by
    rw [State.worked_of_still hs hp, hflag]
    exact (State.frameReport_fails (s := s.openFrame) 0 (by simpa using ht)).of_eq (by simp) (by simp) rfl rfl rfl rfl
  have hprogrammed : s.TareFails s.programmed := by
    rw [State.programmed, State.programTimers_of_calm _ hd hst]
    exact hworked.of_eq rfl rfl (by simp [State.frameWork_eq]) (by simp [State.frameWork_eq]) (by simp [State.frameWork_eq])
      (by simp [State.frameWork_eq])
  obtain ⟨hstate, htare, hdone⟩ := State.strokeTimers_tare (s := s.programmed)
    (by rw [StrokeUnit.tareInFlight, hprogrammed.1]) s.stroke.state
  rw [s.beginFrame_timed, s.timed_programmed]
  exact hprogrammed.of_eq rfl rfl (by simpa using hstate) (by simpa using htare)
    (by simpa using (State.strokeTimers_sameProgram s.programmed s.stroke.state).settings) (by simpa using hdone)

/-! ## The windows of a tare (R108, R109) -/

/-- The tare's stage of a window in the middle of a measurement. -/
theorem State.tareWindow_of_measuring {s : State} {t : Tare} (lf : Nat) (hm : s.stroke.tareState = .measuring)
    (ht : s.stroke.tare = some t) : s.tareWindow lf =
      if t.windowCounts then
        if 3 ≤ t.count then s.tareSuccess (t.sum + lf)
        else s.setStroke { s.stroke with tare := some { t with count := t.count + 1, sum := t.sum + lf } }
      else s := by
  simp [State.tareWindow, hm, ht]

/-- The end of a tare (R111), on the stroke. -/
theorem State.endTare_stroke {s : State} {t : Tare} (ht : s.stroke.tare = some t) : s.endTare.stroke =
    { (if t.owner = true ∧ s.seq.engine.leavesStrokeToTare = true then s.stopStroke else s).stroke with tare := none } := by
  by_cases h : t.owner = true ∧ s.seq.engine.leavesStrokeToTare = true
  · simp [State.endTare, ht, h]
  · rw [if_neg h]
    simp [State.endTare, ht, h]

/-- A success (R109): the figure stored, the record gone, and the stroke stopped where the tare owns it and the engine is at rest. -/
theorem State.tareSuccess_spec {s : State} {t : Tare} (sum : Nat) (ht : s.stroke.tare = some t) (hs : s.stroke.state = .running) :
    (s.tareSuccess sum).settings = { s.settings with params := { s.settings.params with airFigure := sum / 4 } } ∧
    (s.tareSuccess sum).stroke.tareState = .doneOk ∧ (s.tareSuccess sum).stroke.tare = none ∧
    (s.tareSuccess sum).notice.tareDone = Pending.coalesce s.notice.tareDone ⟨.ok, sum / 4⟩ ∧
    (t.owner = true ∧ s.seq.engine.leavesStrokeToTare = true → (s.tareSuccess sum).stroke.state = .stopping ∧
      (s.tareSuccess sum).stroke.stopTimer = some s.settings.params.strokeStopTimeout) ∧
    (¬ (t.owner = true ∧ s.seq.engine.leavesStrokeToTare = true) → (s.tareSuccess sum).stroke.state = .running) := by
  generalize hv : ((s.setSettings { s.settings with params := { s.settings.params with airFigure := sum / 4 } }).setStroke
    { s.stroke with tareState := .doneOk }).noteTareDone ⟨.ok, sum / 4⟩ = v
  have hsuccess : s.tareSuccess sum = v.endTare := by rw [← hv]; rfl
  have hset : v.settings = { s.settings with params := { s.settings.params with airFigure := sum / 4 } } := by rw [← hv]; rfl
  have hstroke : v.stroke = { s.stroke with tareState := .doneOk } := by rw [← hv]; rfl
  have hengine : v.seq.engine = s.seq.engine := by rw [← hv]; rfl
  have hdone : v.notice.tareDone = Pending.coalesce s.notice.tareDone ⟨.ok, sum / 4⟩ := by rw [← hv]; rfl
  have htare : v.stroke.tare = some t := by rw [hstroke]; exact ht
  have hend := State.endTare_stroke htare
  rw [hengine] at hend
  have hstop : v.stopStroke = v.enterStopping := by
    rw [State.stopStroke, show v.stroke.state = .running by rw [hstroke]; exact hs]
  have hparams : v.settings.params.strokeStopTimeout = s.settings.params.strokeStopTimeout := by rw [hset]
  have hrunning : v.stroke.state = .running := by rw [hstroke]; exact hs
  rw [hsuccess]
  refine ⟨by simpa using hset, by simp [hstroke], by rw [hend], by simpa using hdone, fun h => ?_, fun h => ?_⟩
  · rw [hend, if_pos h, hstop]
    exact ⟨rfl, congrArg some hparams⟩
  · rw [hend, if_neg h]
    exact hrunning

theorem Engine.leavesStrokeToTare_iff (e : Engine) : e.leavesStrokeToTare = true ↔ e ∈ [Engine.idle, .halted, .aborted] := by
  cases e <;> decide

/-- What the last pulse of a window leaves of the tare: the stage on what the judgement left, and the next window opened. -/
theorem State.windowCompleted_tare (s : State) (w : Window) (p : Nat) (k : TareState) (t : Option Tare)
    (hk : (s.windowJudged w p).stroke.tareState = k) (ht : (s.windowJudged w p).stroke.tare = t) (hm : k ≠ .measuring) :
    (s.windowCompleted w p).stroke.tareState = k ∧ (s.windowCompleted w p).stroke.tare = t ∧
    (s.windowCompleted w p).settings = s.settings ∧
    (s.windowCompleted w p).notice.tareDone = (s.windowJudged w p).notice.tareDone := by
  have hstill : (s.windowRecorded w p).tareWindow (w.load p) = s.windowRecorded w p :=
    State.tareWindow_of_not_measuring _ (by simpa [hk] using hm)
  rw [State.windowCompleted, hstill, State.openWindow_stroke]
  simp [hk, ht, hm]

/-- A start request leaves the tare and what lies outside the stroke and its source. -/
theorem State.strokeStart_tare (s : State) : s.strokeStart.stroke.tareState = s.stroke.tareState ∧
    s.strokeStart.stroke.tare = s.stroke.tare ∧ s.strokeStart.queue = s.queue ∧ s.strokeStart.interp = s.interp ∧
    s.strokeStart.seq.engine = s.seq.engine ∧ s.strokeStart.notice.tareDone = s.notice.tareDone ∧
    s.strokeStart.settings = s.settings ∧ s.strokeStart.link = s.link := by
  simp only [State.strokeStart]
  split <;> simp [State.strokeStart.start]

/-- A good window that takes the stroke to RUNNING takes a waiting tare to MEASURING (R96, R98, R108). -/
theorem State.windowCompleted_begins {s : State} {w : Window} {p : Nat} {t : Tare} (ht : s.stroke.tare = some t)
    (hw : s.stroke.tareState = .waiting) (hc : t.windowCounts = false) (hg : goodWindow (w.figure p) s.stroke.fSet = true)
    (hs : s.stroke.state = .stalled ∨ (s.stroke.state = .starting ∧ s.stroke.good ≠ 0)) :
    (s.windowCompleted w p).stroke.state = .running ∧ (s.windowCompleted w p).stroke.tareState = .measuring ∧
    (s.windowCompleted w p).stroke.tare = some { t with windowCounts := true } := by
  obtain ⟨hstate, hmeasuring, htare⟩ : (s.windowJudged w p).stroke.state = .running ∧
      (s.windowJudged w p).stroke.tareState = .measuring ∧ (s.windowJudged w p).stroke.tare = some t := by
    obtain hs | ⟨hs, h0⟩ := hs
    · rw [State.windowJudged, State.judge_stalled_good (s := s.windowFigured w p) hs hg, State.strokeRuns_stroke]
      exact ⟨rfl, if_pos hw, ht⟩
    · rw [State.windowJudged, State.judge_starting_second (s := s.windowFigured w p) hs hg h0, State.strokeRuns_stroke]
      exact ⟨rfl, if_pos hw, ht⟩
  have hstill : (s.windowRecorded w p).tareWindow (w.load p) = s.windowRecorded w p := by
    rw [State.tareWindow_of_measuring (t := t) _ (by simpa using hmeasuring) (by simpa using htare)]
    simp [hc]
  rw [State.windowCompleted, hstill, State.openWindow_stroke]
  simp [hstate, hmeasuring, htare]

/-- A window of a stroke that stays RUNNING, in the middle of a measurement (R108, R109): one open at the beginning does not count, three count
into the sum, and the fourth ends the tare. -/
theorem State.windowCompleted_measures {s : State} {w : Window} {p : Nat} {t : Tare} (ht : s.stroke.tare = some t)
    (hm : s.stroke.tareState = .measuring) (hs : s.stroke.state = .running) (hl : slowWindow (w.figure p) s.stroke.fSet = false) :
    (t.windowCounts = false → (s.windowCompleted w p).stroke.tareState = .measuring ∧
      (s.windowCompleted w p).settings = s.settings ∧ (s.windowCompleted w p).stroke.tare = some { t with windowCounts := true }) ∧
    (t.windowCounts = true → t.count < 3 → (s.windowCompleted w p).stroke.tareState = .measuring ∧
      (s.windowCompleted w p).settings = s.settings ∧
      (s.windowCompleted w p).stroke.tare = some { t with count := t.count + 1, sum := t.sum + w.load p }) ∧
    (t.windowCounts = true → t.count = 3 →
      (s.windowCompleted w p).settings =
        { s.settings with params := { s.settings.params with airFigure := (t.sum + w.load p) / 4 } } ∧
      (s.windowCompleted w p).stroke.tareState = .doneOk ∧ (s.windowCompleted w p).stroke.tare = none ∧
      (s.windowCompleted w p).notice.tareDone = Pending.coalesce s.notice.tareDone ⟨.ok, (t.sum + w.load p) / 4⟩ ∧
      (t.owner = true ∧ s.seq.engine.leavesStrokeToTare = true → (s.windowCompleted w p).stroke.state = .stopping ∧
        (s.windowCompleted w p).stroke.stopTimer = some s.settings.params.strokeStopTimeout) ∧
      (¬ (t.owner = true ∧ s.seq.engine.leavesStrokeToTare = true) → (s.windowCompleted w p).stroke.state = .running)) := by
  have hjudged : s.windowJudged w p = (s.windowFigured w p).setStroke { (s.windowFigured w p).stroke with slow := 0 } := by
    rw [State.windowJudged, State.judge_running_fast (s := s.windowFigured w p) hs hl]
  have hset : (s.windowRecorded w p).settings = s.settings := by simp
  have hengine : (s.windowRecorded w p).seq.engine = s.seq.engine := by simp
  have hdone : (s.windowRecorded w p).notice.tareDone = s.notice.tareDone := by simp [hjudged]
  have hstate : (s.windowRecorded w p).stroke.state = .running := by simp [hjudged, hs]
  have hmeasuring : (s.windowRecorded w p).stroke.tareState = .measuring := by simp [hjudged, hm]
  have htare : (s.windowRecorded w p).stroke.tare = some t := by simp [hjudged, ht]
  have hstage := State.tareWindow_of_measuring (w.load p) hmeasuring htare
  refine ⟨fun hc => ?_, fun hc hlow => ?_, fun hc hlast => ?_⟩
  · rw [hc, if_neg Bool.false_ne_true] at hstage
    rw [State.windowCompleted, hstage, State.openWindow_stroke]
    simp only [hmeasuring, htare, hset, State.openWindow_frame, if_true, Option.map_some, and_self]
  · rw [if_pos hc, if_neg (by omega)] at hstage
    rw [State.windowCompleted, hstage, State.openWindow_stroke]
    simp only [hmeasuring, hset, hc, State.openWindow_frame, State.setStroke_stroke, State.setStroke_settings, if_true,
      Option.map_some, and_self]
  · rw [if_pos hc, if_pos hlast.ge] at hstage
    obtain ⟨hset', hstate', htare', hdone', hstops, hstays⟩ := State.tareSuccess_spec (t.sum + w.load p) htare hstate
    rw [hset] at hset' hstops
    rw [hdone] at hdone'
    rw [hengine] at hstops hstays
    rw [State.windowCompleted, hstage, State.openWindow_stroke]
    exact ⟨hset', hstate', by simp [hstate', htare'], hdone', hstops, hstays⟩

/-- A second slow window in a row stalls the stroke and fails the tare (R97, R110). -/
theorem State.windowCompleted_fails {s : State} {w : Window} {p : Nat} (hm : s.stroke.tareState = .measuring)
    (hs : s.stroke.state = .running) (hl : slowWindow (w.figure p) s.stroke.fSet = true) (h0 : s.stroke.slow ≠ 0) :
    s.TareFails (s.windowCompleted w p) := by
  have hjudged : s.windowJudged w p = (s.windowFigured w p).strokeStalls := by
    rw [State.windowJudged, State.judge_running_second (s := s.windowFigured w p) hs hl h0]
  obtain ⟨hstate, htare, -, hdone⟩ := (s.windowFigured w p).strokeStalls_entry.2.2.2.2.2
    (show s.stroke.tareInFlight = true by rw [StrokeUnit.tareInFlight, hm])
  obtain ⟨hstate', htare', hset', hdone'⟩ := s.windowCompleted_tare w p .failed none (by rw [hjudged]; exact hstate)
    (by rw [hjudged]; exact htare) (by decide)
  exact ⟨hstate', htare', hset', by rw [hdone', hjudged]; exact hdone⟩

/-- Settles O59, by the request's checks, the windows' stages and the ends that fail a tare. -/
theorem tareStartsMeasurement : Obligations.TareStartsMeasurement := by
  refine ⟨fun s tag ht => ⟨fun he ha => ?_, fun r ha hm => ?_, fun hp hm => ⟨fun hf => ?_, fun hf hl => ?_, fun hf hl =>
    ⟨fun hs => ?_, fun hs => ?_, fun hs => ?_⟩⟩⟩, fun s w cycles t h ht => ?_,
    fun s ht => ⟨fun hs => ?_, fun hs htakes he tag => ?_, fun r hb he hr hm => ?_⟩⟩
  · refine exec_answered .tare ht rfl rfl rfl rfl ?_
    show resultBody s.serveTare = _
    rw [State.serveTare_of_no_segment he ha]
    rfl
  · refine exec_answered .tare ht rfl rfl rfl rfl ?_
    show resultBody s.serveTare = _
    rw [State.serveTare_of_material ha hm]
    rfl
  · refine exec_answered .tare ht rfl rfl rfl rfl ?_
    show resultBody s.serveTare = _
    rw [State.serveTare_of_place hp hm, if_pos hf]
    rfl
  · refine exec_answered .tare ht rfl rfl rfl rfl ?_
    show resultBody s.serveTare = _
    have hno : ¬(s.trip.level = .none ∨ s.trip.level = .hold) := fun hx => by
      obtain hx | hx := hx <;> simp [hx] at hl
    rw [State.serveTare_of_place hp hm, if_neg (by simp [hf]), if_pos hno]
    rfl
  · refine ⟨(State.serveTare.create s true .waiting).strokeStart, exec_answered .tare ht rfl rfl rfl rfl ?_, ?_⟩
    · show resultBody s.serveTare = _
      simp only [List.mem_cons, List.not_mem_nil, or_false] at hs
      obtain hs | hs := hs <;> rw [State.serveTare_accepted hp hm hf hl, hs] <;> rfl
    · obtain ⟨hstate, htare, hrest⟩ := (State.serveTare.create s true .waiting).strokeStart_tare
      have hasked : (State.serveTare.create s true .waiting).StrokeStartAsked
        (State.serveTare.create s true .waiting).strokeStart := State.strokeStart_asked _
      obtain ⟨hstarts, hstart, hstop⟩ := hasked.1 hs
      exact ⟨hstate, htare, hstarts, hstart, hstop, hrest⟩
  · refine exec_answered .tare ht rfl rfl rfl rfl ?_
    show resultBody s.serveTare = _
    simp only [List.mem_cons, List.not_mem_nil, or_false] at hs
    obtain hs | hs := hs <;> rw [State.serveTare_accepted hp hm hf hl, hs] <;> rfl
  · refine exec_answered .tare ht rfl rfl rfl rfl ?_
    show resultBody s.serveTare = _
    rw [State.serveTare_accepted hp hm hf hl, hs]
    rfl
  · dsimp only
    have hexec := exec_sidxPulse_completes h
    generalize w.p + cycles = p at hexec ⊢
    refine ⟨s.windowCompleted w p, hexec, fun hw hc hg hs => ?_, fun hm hs hl => ?_, fun hm hs hl h0 => ?_⟩
    · exact State.windowCompleted_begins ht hw hc ((goodWindow_iff _ _).2 hg) hs
    · have hfast : slowWindow (w.figure p) s.stroke.fSet = false :=
        Bool.eq_false_iff.2 (mt (slowWindow_iff _ _).1 (Nat.not_lt.2 hl))
      simpa only [Engine.leavesStrokeToTare_iff] using State.windowCompleted_measures ht hm hs hfast
    · exact State.windowCompleted_fails hm hs ((slowWindow_iff _ _).2 hl) h0
  · refine ⟨s.strokeStalls, ?_, s.strokeStalls_entry.2.2.2.2.2 ht⟩
    rw [exec_startTimerExpiry, if_pos hs]
  · refine ⟨s.flush.strokeStop, ?_, ?_⟩
    · refine exec_answered .cancel htakes rfl rfl rfl rfl ?_
      show resultBody s.serveCancel = _
      rw [State.serveCancel_of_idle he]
      rfl
    · exact (State.strokeStop_fails (s := s.flush) hs ht).of_eq rfl rfl rfl rfl rfl rfl
  · exact ⟨s.beginFrame, exec_frameBegin_of_started hb, State.beginFrame_fails ht he hr hm⟩

end Sys2Proof.Machine
end


section
/-! SUPPORT. The examination of a SEGMENTS body (R6, R7, R22, R177): the fields of a record as sent, the ten checks on it, and the body taken
record by record. -/

namespace Sys2Proof.Machine

/-! ## The fields of a record as sent (R177) -/

theorem readInt_of_take {bs : List Byte} {off : Nat} {w : Word} (h : (bs.drop off).take 4 = beWord w) :
    readInt bs off = w.toInt := by
  rw [← readInt_beWord 0 w [], readInt, readInt, readNat, readNat, h]
  rfl

theorem readNat_of_take {bs : List Byte} {off : Nat} {v : Half} (h : (bs.drop off).take 2 = be16 v.toNat) :
    readNat bs off 2 = v.toNat := by
  rw [readNat, h, readBE_be16]

/-- The tag of a refused record whose tag field is there (R22). -/
theorem refusedTag_bytes (kind flags hi lo : Byte) (rest : List Byte) :
    be16 (refusedTag (kind :: flags :: hi :: lo :: rest)).toNat = [hi, lo] := by
  have hhi := hi.isLt
  have hlo := lo.isLt
  have hbytes : readNat (kind :: flags :: hi :: lo :: rest) 2 2 = hi.toNat * 256 + lo.toNat := by
    simp [readNat, readBE]
  have hlow : hi.toNat * 256 + lo.toNat < 65536 := by omega
  have hlong : ¬ (kind :: flags :: hi :: lo :: rest).length < 4 := by simp
  rw [refusedTag, if_neg hlong, hbytes, BitVec.toNat_ofNat, Nat.mod_eq_of_lt hlow, be16]
  congr 1
  · exact BitVec.eq_of_toNat_eq (by rw [byte_toNat]; omega)
  · congr 1
    exact BitVec.eq_of_toNat_eq (by rw [byte_toNat]; omega)

theorem refusedTag_of_short {body : List Byte} (h : body.length < 4) : be16 (refusedTag body).toNat = [0, 0] := by
  rw [refusedTag, if_pos h]
  rfl

theorem SegmentKind.ofByte_none {b : Byte} (h : b.toNat = 0 ∨ 5 < b.toNat) : SegmentKind.ofByte b = none := by
  simp only [SegmentKind.ofByte]
  split <;> first | omega | rfl

theorem SegmentKind.four_le_length (k : SegmentKind) (feed : Bool) : 4 ≤ k.length feed := by
  cases k <;> cases feed <;> decide

/-! ## The ten checks on one record (R6, R7) -/

theorem State.examine_of_unknown {s : State} {body : List Byte} (h : SegmentKind.ofByte (readByte body 0) = none) :
    s.examine body = ⟨.refused .badKind, 0, s.draws⟩ := by
  simp only [State.examine, h]

section
variable {s : State} {body : List Byte} {k : SegmentKind} (hk : SegmentKind.ofByte (readByte body 0) = some k)
include hk

theorem State.examine_of_short (h : body.length < k.length ((readByte body 1).getLsbD 1)) :
    s.examine body = ⟨.refused .badLength, 0, s.draws⟩ := by
  simp only [State.examine, hk, h, if_true]

theorem State.examine_of_machine {reason : Result} (h : k.length ((readByte body 1).getLsbD 1) ≤ body.length)
    (hm : s.checkMachine = some reason) : s.examine body = ⟨.refused reason, 0, s.draws⟩ := by
  simp only [State.examine, hk, Nat.not_lt.2 h, if_false, hm]

/-- A whole record of a known kind on a machine that takes records is judged by its geometry. -/
theorem State.examine_of_ready (h : k.length ((readByte body 1).getLsbD 1) ≤ body.length) (hm : s.checkMachine = none) :
    s.examine body = ⟨judgeSegment s.params s.queue.tail (SentSegment.read k body) s.draws,
      k.length ((readByte body 1).getLsbD 1),
      if drawsDirection s.queue.tail (SentSegment.read k body) then s.draws + 1 else s.draws⟩ := by
  simp only [State.examine, hk, Nat.not_lt.2 h, if_false, hm]

end

theorem State.checkMachine_of_aborted {s : State} (h : s.seq.engine = .aborted) : s.checkMachine = some .aborted := by
  rw [State.checkMachine, if_pos h]

theorem State.checkMachine_of_incomplete {s : State} (h : s.seq.engine ≠ .aborted) (ha : s.bus.allAdopted = false) :
    s.checkMachine = some .axesIncomplete := by
  rw [State.checkMachine, if_neg h, ha]
  rfl

theorem State.checkMachine_of_full {s : State} (h : s.seq.engine ≠ .aborted) (ha : s.bus.allAdopted = true)
    (hq : 128 ≤ s.queue.records.length) : s.checkMachine = some .queueFull := by
  rw [State.checkMachine, if_neg h, ha, if_neg (by decide), if_pos hq]

theorem State.checkMachine_of_ready {s : State} (h : s.seq.engine ≠ .aborted) (ha : s.bus.allAdopted = true)
    (hq : s.queue.records.length < 128) : s.checkMachine = none := by
  rw [State.checkMachine, if_neg h, ha, if_neg (by decide), if_neg (Nat.not_le.2 hq)]

/-! ## A body taken record by record (R22) -/

theorem State.takeSegments_nil (fuel : Nat) (b : Batch) (s : State) : State.takeSegments fuel [] b s = (s, b) := by
  cases fuel <;> rfl

theorem State.takeSegments_refused {s : State} {body : List Byte} {reason : Result} {len draws : Nat} (fuel : Nat) (b : Batch)
    (hb : body ≠ []) (he : s.examine body = ⟨.refused reason, len, draws⟩) :
    State.takeSegments (fuel + 1) body b s = (s.setDraws draws, { b with result := reason, refusedTag := refusedTag body }) := by
  have hempty : body.isEmpty = false := by simpa using hb
  simp only [State.takeSegments, hempty, he]
  rfl

theorem State.takeSegments_accepted {s : State} {body : List Byte} {r : Record} {clamped : Bool} {len draws : Nat} (fuel : Nat)
    (b : Batch) (hb : body ≠ []) (he : s.examine body = ⟨.accepted r clamped, len, draws⟩) :
    State.takeSegments (fuel + 1) body b s = State.takeSegments fuel (body.drop len)
      { b with
        accepted := b.accepted + 1
        clamped := b.clamped + (if clamped then 1 else 0)
        result := if clamped then .clamped else b.result } ((s.setDraws draws).append r) := by
  have hempty : body.isEmpty = false := by simpa using hb
  simp only [State.takeSegments, hempty, he]
  rfl

/-- A body whose first record is refused stores nothing. -/
theorem exec_segments_refused {s : State} {tag : Byte} {body segTag : List Byte} {reason : Result} {len draws : Nat}
    (ht : s.takesRequests) (hb : body ≠ []) (he : s.examine body = ⟨.refused reason, len, draws⟩)
    (htag : be16 (refusedTag body).toNat = segTag) :
    exec (.segments tag body) s = .next (State.commit { s with
      draws := draws
      link := { s.link with reply := some (frameBytes 0x83 tag
        ([reason.code, 0, 0] ++ segTag ++ [byte (128 - s.queue.records.length)])) } }) := by
  refine exec_answered (u := s.setDraws draws) .segments ht rfl rfl rfl rfl ?_
  show s.serveSegments body = _
  obtain ⟨n, hn⟩ : ∃ n, body.length = n + 1 := Nat.exists_eq_succ_of_ne_zero fun h => hb (List.length_eq_zero_iff.1 h)
  have hempty : body.isEmpty = false := by simpa using hb
  have htaken : s.takeBody body = (s.setDraws draws, ⟨reason, 0, 0, refusedTag body⟩) := by
    rw [State.takeBody, hempty, hn]
    exact State.takeSegments_refused n _ hb he
  simp only [State.serveSegments, htaken, htag]
  rfl

/-! ## The geometry's refusals (R8 to R10, R13) -/

theorem Params.inBox_iff (p : Params) (x y : Int) :
    p.inBox x y = true ↔ p.softXMin ≤ x ∧ x ≤ p.softXMax ∧ p.softYMin ≤ y ∧ y ≤ p.softYMax := by
  simp [Params.inBox, and_assoc]

theorem cornerSharp_iff (p : Params) (material : Bool) (turn : Int) : cornerSharp p material turn = true ↔
    material = true ∧ p.blendAngle < turn.natAbs ∧ p.pivotLimit < turn.natAbs := by
  by_cases h : turn.natAbs ≤ p.blendAngle
  · simp [cornerSharp, junctionOf, h]
  · simp [cornerSharp, junctionOf, h]
    omega

theorem finishMoving_sharp {p : Params} {tail : Tail} {g : SentSegment} {path : Path} {length : Nat} {entry exit : Half}
    {arcRadius : Option Nat} (h : cornerSharp p g.material (entryTurn tail.heading entry) = true) :
    finishMoving p tail g path length entry exit arcRadius = .refused .cornerSharp := by
  simp only [finishMoving, h, if_true]

/-! ## A line as sent -/

/-- The bytes of a LINE record (R177). -/
def lineBytes (flags hi lo : Byte) (x y : Word) (rest : List Byte) : List Byte :=
  0x01 :: flags :: hi :: lo :: (beWord x ++ beWord y ++ rest)

theorem read_line (flags hi lo : Byte) (x y : Word) (rest : List Byte) :
    (SentSegment.read .line (lineBytes flags hi lo x y rest)).kind = .line ∧
    (SentSegment.read .line (lineBytes flags hi lo x y rest)).material = flags.getLsbD 0 ∧
    (SentSegment.read .line (lineBytes flags hi lo x y rest)).x = x.toInt ∧
    (SentSegment.read .line (lineBytes flags hi lo x y rest)).y = y.toInt :=
  ⟨rfl, rfl, readInt_of_take (by rfl), readInt_of_take (by rfl)⟩

theorem checkLine_outside {p : Params} {tail : Tail} {g : SentSegment} (h : p.inBox g.x g.y = false) :
    checkLine p tail g = .refused .outOfRange := by
  simp [checkLine, h]

theorem checkLine_at_tail {p : Params} {tail : Tail} {g : SentSegment} (h : p.inBox g.x g.y = true)
    (hx : g.x = tail.x) (hy : g.y = tail.y) : checkLine p tail g = .refused .zeroLength := by
  rw [checkLine, h, if_neg (by decide), if_pos ⟨hx, hy⟩]

theorem checkLine_of_off {p : Params} {tail : Tail} {g : SentSegment} (h : p.inBox g.x g.y = true)
    (hoff : ¬ (g.x = tail.x ∧ g.y = tail.y)) : checkLine p tail g =
      finishMoving p tail g .line (isqrt ((g.x - tail.x) * (g.x - tail.x) + (g.y - tail.y) * (g.y - tail.y)).toNat)
        (direction (g.x - tail.x) (g.y - tail.y)) (direction (g.x - tail.x) (g.y - tail.y)) none := by
  rw [checkLine, h, if_neg (by decide), if_neg hoff]

/-- The length of a record whose fixed part is there, with FEED or without (R177). -/
theorem SegmentKind.length_le (k : SegmentKind) {feed : Bool} {n : Nat} (h : k.length false ≤ n)
    (hf : feed = true → k.length false + 2 ≤ n) : k.length feed ≤ n := by
  cases feed
  · exact h
  · exact le_trans (by cases k <;> decide) (hf rfl)

section
variable {s : State} (he : s.seq.engine ≠ .aborted) (ha : s.bus.allAdopted = true) (hq : s.queue.records.length < 128)
  {flags hi lo : Byte} {x y : Word} {rest : List Byte} (hr : flags.getLsbD 1 = true → 2 ≤ rest.length)
include he ha hq hr

/-- A whole line on a machine that takes records. -/
theorem State.examine_line : s.examine (lineBytes flags hi lo x y rest) =
    ⟨checkLine s.params s.queue.tail (SentSegment.read .line (lineBytes flags hi lo x y rest)),
      SegmentKind.length .line (flags.getLsbD 1), s.draws⟩ := by
  have hlength : (lineBytes flags hi lo x y rest).length = rest.length + 12 := rfl
  have hlong : SegmentKind.length .line ((readByte (lineBytes flags hi lo x y rest) 1).getLsbD 1) ≤
      (lineBytes flags hi lo x y rest).length := by
    rw [hlength]
    exact SegmentKind.length_le .line (Nat.le_add_left 12 _) fun hf => Nat.add_le_add_right (hr hf) 12
  exact State.examine_of_ready (k := .line) rfl hlong (State.checkMachine_of_ready he ha hq)

theorem exec_line_refused {tag : Byte} {reason : Result} (ht : s.takesRequests)
    (hv : checkLine s.params s.queue.tail (SentSegment.read .line (lineBytes flags hi lo x y rest)) = .refused reason) :
    exec (.segments tag (lineBytes flags hi lo x y rest)) s = .next (State.commit { s with
      draws := s.draws
      link := { s.link with reply := some (frameBytes 0x83 tag
        ([reason.code, 0, 0] ++ [hi, lo] ++ [byte (128 - s.queue.records.length)])) } }) :=
  exec_segments_refused ht (List.cons_ne_nil _ _) (by rw [State.examine_line he ha hq hr, hv]) (refusedTag_bytes _ _ _ _ _)

end

/-! ## An arc as sent -/

/-- The kind of an arc. -/
def arcKind (ccw : Bool) : SegmentKind := if ccw then .arcCcw else .arcCw

/-- The bytes of an arc record (R177). -/
def arcBytes (ccw : Bool) (flags hi lo : Byte) (x y i j : Word) (rest : List Byte) : List Byte :=
  (if ccw then 0x03 else 0x02) :: flags :: hi :: lo :: (beWord x ++ beWord y ++ beWord i ++ beWord j ++ rest)

theorem read_arc (ccw : Bool) (flags hi lo : Byte) (x y i j : Word) (rest : List Byte) (k : SegmentKind) :
    (SentSegment.read k (arcBytes ccw flags hi lo x y i j rest)).kind = k ∧
    (SentSegment.read k (arcBytes ccw flags hi lo x y i j rest)).material = flags.getLsbD 0 ∧
    (SentSegment.read k (arcBytes ccw flags hi lo x y i j rest)).x = x.toInt ∧
    (SentSegment.read k (arcBytes ccw flags hi lo x y i j rest)).y = y.toInt ∧
    (SentSegment.read k (arcBytes ccw flags hi lo x y i j rest)).i = i.toInt ∧
    (SentSegment.read k (arcBytes ccw flags hi lo x y i j rest)).j = j.toInt :=
  ⟨rfl, rfl, readInt_of_take (by rfl), readInt_of_take (by rfl), readInt_of_take (by rfl), readInt_of_take (by rfl)⟩

theorem ArcFigures.fullCircle_iff (a : ArcFigures) : a.fullCircle = true ↔ a.ex = a.ux ∧ a.ey = a.uy := by
  simp [ArcFigures.fullCircle]

/-- The arc passes an axis-extreme point that lies outside the box (R10 part 5). -/
def ArcFigures.Leaves (a : ArcFigures) (p : Params) : Prop :=
  ∃ d ∈ [((1 : Int), (0 : Int)), (0, 1), (-1, 0), (0, -1)], ((a.ex = a.ux ∧ a.ey = a.uy) ∨ a.inside d.1 d.2 = true) ∧
    ¬ (p.softXMin ≤ a.centreX + d.1 * a.radius ∧ a.centreX + d.1 * a.radius ≤ p.softXMax ∧
      p.softYMin ≤ a.centreY + d.2 * a.radius ∧ a.centreY + d.2 * a.radius ≤ p.softYMax)

theorem ArcFigures.leaves_iff (a : ArcFigures) (p : Params) : a.Leaves p ↔
    (a.extremeGood p 1 0 && a.extremeGood p 0 1 && a.extremeGood p (-1) 0 && a.extremeGood p 0 (-1)) = false := by
  have hgood (dx dy : Int) : a.extremeGood p dx dy = true ↔ ((a.ex = a.ux ∧ a.ey = a.uy) ∨ a.inside dx dy = true →
      p.softXMin ≤ a.centreX + dx * a.radius ∧ a.centreX + dx * a.radius ≤ p.softXMax ∧
        p.softYMin ≤ a.centreY + dy * a.radius ∧ a.centreY + dy * a.radius ≤ p.softYMax) := by
    rw [ArcFigures.extremeGood, Bool.or_eq_true, Bool.not_eq_true', ← Bool.not_eq_true, Bool.or_eq_true,
      ArcFigures.fullCircle_iff, Params.inBox_iff]
    exact Decidable.imp_iff_not_or.symm
  have hall : (a.extremeGood p 1 0 && a.extremeGood p 0 1 && a.extremeGood p (-1) 0 && a.extremeGood p 0 (-1)) = true ↔
      ∀ d ∈ [((1 : Int), (0 : Int)), (0, 1), (-1, 0), (0, -1)], ((a.ex = a.ux ∧ a.ey = a.uy) ∨ a.inside d.1 d.2 = true →
        p.softXMin ≤ a.centreX + d.1 * a.radius ∧ a.centreX + d.1 * a.radius ≤ p.softXMax ∧
          p.softYMin ≤ a.centreY + d.2 * a.radius ∧ a.centreY + d.2 * a.radius ≤ p.softYMax) := by
    simp only [Bool.and_eq_true, hgood, List.forall_mem_cons, List.not_mem_nil, false_implies, implies_true, and_true, and_assoc]
  rw [← Bool.not_eq_true, hall, ArcFigures.Leaves]
  simp only [not_forall, exists_prop]

section
variable {p : Params} {g : SentSegment} {a : ArcFigures}

theorem checkArc_far (h : ¬ ((-16000000 ≤ g.i ∧ g.i ≤ 16000000) ∧ (-16000000 ≤ g.j ∧ g.j ≤ 16000000))) :
    checkArc p g a = some .outOfRange := by
  rw [checkArc, if_pos h]

variable (hnear : (-16000000 ≤ g.i ∧ g.i ≤ 16000000) ∧ (-16000000 ≤ g.j ∧ g.j ≤ 16000000))
include hnear

theorem checkArc_small (h : a.radius < p.minRadius) : checkArc p g a = some .radiusSmall := by
  rw [checkArc, if_neg (not_not.2 hnear), if_pos h]

variable (hradius : p.minRadius ≤ a.radius)
include hradius

theorem checkArc_off (h : p.arcTol < ((roundedRoot (a.ex * a.ex + a.ey * a.ey).toNat : Int) - a.radius).natAbs) :
    checkArc p g a = some .arcMismatch := by
  rw [checkArc, if_neg (not_not.2 hnear), if_neg (Nat.not_lt.2 hradius), if_pos h]

variable (hgap : ((roundedRoot (a.ex * a.ex + a.ey * a.ey).toNat : Int) - a.radius).natAbs ≤ p.arcTol)
include hgap

theorem checkArc_back (hfull : a.fullCircle = false) (h : sameDirection a.ux a.uy a.ex a.ey = true) :
    checkArc p g a = some .arcMismatch := by
  rw [checkArc, if_neg (not_not.2 hnear), if_neg (Nat.not_lt.2 hradius), if_neg (Nat.not_lt.2 hgap), hfull, h]
  rfl

variable (hdir : ¬ (a.ex = a.ux ∧ a.ey = a.uy) → sameDirection a.ux a.uy a.ex a.ey = false)
include hdir

/-- The last two parts of check 8, once the first four have passed. -/
theorem checkArc_of_sound : (a.Leaves p → checkArc p g a = some .outOfRange) ∧
    (¬ a.Leaves p → a.length < 1 → checkArc p g a = some .zeroLength) ∧
    (¬ a.Leaves p → 1 ≤ a.length → checkArc p g a = none) := by
  have hpass : ¬ (!a.fullCircle && sameDirection a.ux a.uy a.ex a.ey) = true := by
    by_cases hf : a.fullCircle = true
    · simp [hf]
    · simp [hdir (mt a.fullCircle_iff.2 hf)]
  rw [a.leaves_iff p, checkArc, if_neg (not_not.2 hnear), if_neg (Nat.not_lt.2 hradius), if_neg (Nat.not_lt.2 hgap), if_neg hpass]
  cases a.extremeGood p 1 0 && a.extremeGood p 0 1 && a.extremeGood p (-1) 0 && a.extremeGood p 0 (-1)
  · simp
  · simp only [Bool.true_eq_false, not_false_eq_true, true_implies, false_implies, true_and, Bool.not_true, if_false,
      Bool.false_eq_true]
    exact ⟨fun h => if_pos h, fun h => if_neg (Nat.not_lt.2 h)⟩

end

theorem checkArcRecord_outside {p : Params} {tail : Tail} {g : SentSegment} {draws : Nat} (h : p.inBox g.x g.y = false) :
    checkArcRecord p tail g draws = .refused .outOfRange := by
  simp [checkArcRecord, h]

theorem checkArcRecord_unsound {p : Params} {tail : Tail} {g : SentSegment} {draws : Nat} {reason : Result}
    (h : p.inBox g.x g.y = true) (hc : checkArc p g (arcFigures tail g draws) = some reason) :
    checkArcRecord p tail g draws = .refused reason := by
  simp [checkArcRecord, h, hc]

theorem checkArcRecord_sound {p : Params} {tail : Tail} {g : SentSegment} {draws : Nat} {a : ArcFigures}
    (h : p.inBox g.x g.y = true) (ha : arcFigures tail g draws = a) (hc : checkArc p g a = none) :
    checkArcRecord p tail g draws =
      finishMoving p tail g (.arc ⟨a.centreX, a.centreY, a.radius, a.ccw, a.sweepFigure⟩) a.length
        (tangent a.ccw a.ux a.uy) (tangent a.ccw a.vx a.vy) (some a.radius) := by
  subst ha
  simp [checkArcRecord, h, hc]

/-- The figures of an arc from the tail and the fields of its record (R9). -/
def sentFigures (tail : Tail) (ccw : Bool) (x y i j vx vy : Int) : ArcFigures :=
  ⟨tail.x + i, tail.y + j, -i, -j, x - (tail.x + i), y - (tail.y + j), vx, vy, isqrt (i * i + j * j).toNat, ccw⟩

section
variable {s : State} (he : s.seq.engine ≠ .aborted) (ha : s.bus.allAdopted = true) (hq : s.queue.records.length < 128)
  {ccw : Bool} {flags hi lo : Byte} {x y i j : Word} {rest : List Byte} (hr : flags.getLsbD 1 = true → 2 ≤ rest.length)
include he ha hq hr

/-- A whole arc on a machine that takes records. -/
theorem State.examine_arc : s.examine (arcBytes ccw flags hi lo x y i j rest) =
    ⟨checkArcRecord s.params s.queue.tail (SentSegment.read (arcKind ccw) (arcBytes ccw flags hi lo x y i j rest)) s.draws,
      (arcKind ccw).length (flags.getLsbD 1),
      if x.toInt - (s.queue.tail.x + i.toInt) = 0 ∧ y.toInt - (s.queue.tail.y + j.toInt) = 0 then s.draws + 1 else s.draws⟩ := by
  have hkind : SegmentKind.ofByte (readByte (arcBytes ccw flags hi lo x y i j rest) 0) = some (arcKind ccw) := by
    cases ccw <;> rfl
  have hlength : (arcBytes ccw flags hi lo x y i j rest).length = rest.length + 20 := rfl
  have hbase : (arcKind ccw).length false = 20 := by cases ccw <;> rfl
  have hlong : (arcKind ccw).length ((readByte (arcBytes ccw flags hi lo x y i j rest) 1).getLsbD 1) ≤
      (arcBytes ccw flags hi lo x y i j rest).length := by
    refine SegmentKind.length_le (arcKind ccw) ?_ fun hf => ?_
    · omega
    · have := hr hf
      omega
  obtain ⟨hk, -, hx, hy, hi', hj⟩ := read_arc ccw flags hi lo x y i j rest (arcKind ccw)
  rw [State.examine_of_ready hkind hlong (State.checkMachine_of_ready he ha hq)]
  generalize SentSegment.read (arcKind ccw) (arcBytes ccw flags hi lo x y i j rest) = g at hk hx hy hi' hj ⊢
  have hjudge : judgeSegment s.params s.queue.tail g s.draws = checkArcRecord s.params s.queue.tail g s.draws := by
    cases ccw <;> simp [judgeSegment, hk, arcKind]
  have hdraws : drawsDirection s.queue.tail g = true ↔
      x.toInt - (s.queue.tail.x + i.toInt) = 0 ∧ y.toInt - (s.queue.tail.y + j.toInt) = 0 := by
    rw [sub_eq_zero, sub_eq_zero]
    cases ccw <;> simp [drawsDirection, hk, arcKind, hx, hy, hi', hj]
  simp only [hjudge, hdraws]
  rfl

theorem exec_arc_refused {tag : Byte} {reason : Result} (ht : s.takesRequests)
    (hv : checkArcRecord s.params s.queue.tail (SentSegment.read (arcKind ccw) (arcBytes ccw flags hi lo x y i j rest)) s.draws =
      .refused reason) :
    exec (.segments tag (arcBytes ccw flags hi lo x y i j rest)) s = .next (State.commit { s with
      draws := if x.toInt - (s.queue.tail.x + i.toInt) = 0 ∧ y.toInt - (s.queue.tail.y + j.toInt) = 0
        then s.draws + 1 else s.draws
      link := { s.link with reply := some (frameBytes 0x83 tag
        ([reason.code, 0, 0] ++ [hi, lo] ++ [byte (128 - s.queue.records.length)])) } }) :=
  exec_segments_refused ht (List.cons_ne_nil _ _) (by rw [State.examine_arc he ha hq hr, hv]) (refusedTag_bytes _ _ _ _ _)

end

/-- The figures that acceptance derives from an arc's bytes (R9); the end vector is that of the record where the end point is off the
centre. -/
theorem arcFigures_sent {tail : Tail} {g : SentSegment} {draws : Nat} {ccw : Bool} {x y i j : Int} (hk : g.kind = arcKind ccw)
    (hx : g.x = x) (hy : g.y = y) (hi : g.i = i) (hj : g.j = j) : ∃ vx vy : Int,
    arcFigures tail g draws = sentFigures tail ccw x y i j vx vy ∧
    (x - (tail.x + i) ≠ 0 ∨ y - (tail.y + j) ≠ 0 → vx = x - (tail.x + i) ∧ vy = y - (tail.y + j)) := by
  subst hx hy hi hj
  refine ⟨(endVector (g.x - (tail.x + g.i)) (g.y - (tail.y + g.j)) (-g.i) (-g.j) draws).1,
    (endVector (g.x - (tail.x + g.i)) (g.y - (tail.y + g.j)) (-g.i) (-g.j) draws).2, ?_, fun hoff => ?_⟩
  · have hccw : (g.kind == .arcCcw) = ccw := by rw [hk]; cases ccw <;> rfl
    simp only [arcFigures, sentFigures, hccw]
  · have hno : ¬ (g.x - (tail.x + g.i) = 0 ∧ g.y - (tail.y + g.j) = 0) := by tauto
    rw [endVector, if_neg hno]
    exact ⟨rfl, rfl⟩

/-- Settles O49, by the checks in the order in which they come. -/
theorem segmentsRefusals : Obligations.SegmentsRefusals := by
  intro s tag ht
  dsimp only
  refine ⟨?_, fun kind flags hi lo rest hk => ?_, fun kind rest hk hshort => ?_, fun k kind flags hi lo rest hk hshort => ?_,
    fun k kind rest hk hshort => ?_, fun k kind flags hi lo rest hk hlong => ⟨fun he => ?_, fun he ha => ?_, fun he ha hq => ?_⟩,
    fun ⟨he, ha, hq⟩ flags hi lo x y rest hr => ?_, fun ⟨he, ha, hq⟩ ccw flags hi lo x y i j rest hr => ?_⟩
  · refine exec_answered .segments ht rfl rfl rfl rfl ?_
    show s.serveSegments [] = _
    simp only [State.serveSegments, State.takeBody, List.isEmpty_nil, if_true]
    rfl
  · exact exec_segments_refused (reason := .badKind) ht (List.cons_ne_nil _ _)
      (State.examine_of_unknown (SegmentKind.ofByte_none hk))
      (refusedTag_bytes _ _ _ _ _)
  · exact exec_segments_refused (reason := .badKind) ht (List.cons_ne_nil _ _)
      (State.examine_of_unknown (SegmentKind.ofByte_none hk))
      (refusedTag_of_short (Nat.succ_lt_succ hshort))
  · exact exec_segments_refused (reason := .badLength) ht (List.cons_ne_nil _ _)
      (State.examine_of_short hk hshort) (refusedTag_bytes _ _ _ _ _)
  · have hless : (kind :: rest).length < k.length ((readByte (kind :: rest) 1).getLsbD 1) :=
      lt_of_lt_of_le (Nat.succ_lt_succ hshort) (k.four_le_length _)
    exact exec_segments_refused (reason := .badLength) ht (List.cons_ne_nil _ _)
      (State.examine_of_short hk hless)
      (refusedTag_of_short (Nat.succ_lt_succ hshort))
  · exact exec_segments_refused (reason := .aborted) ht (List.cons_ne_nil _ _)
      (State.examine_of_machine (body := kind :: flags :: hi :: lo :: rest) hk hlong
        (State.checkMachine_of_aborted he)) (refusedTag_bytes _ _ _ _ _)
  · exact exec_segments_refused (reason := .axesIncomplete) ht (List.cons_ne_nil _ _)
      (State.examine_of_machine (body := kind :: flags :: hi :: lo :: rest) hk hlong
        (State.checkMachine_of_incomplete he ha)) (refusedTag_bytes _ _ _ _ _)
  · exact exec_segments_refused (reason := .queueFull) ht (List.cons_ne_nil _ _)
      (State.examine_of_machine (body := kind :: flags :: hi :: lo :: rest) hk hlong
        (State.checkMachine_of_full he ha hq)) (refusedTag_bytes _ _ _ _ _)
  · obtain ⟨-, hmaterial, hx, hy⟩ := read_line flags hi lo x y rest
    simp only [← Params.inBox_iff, ← hx, ← hy, ← hmaterial]
    refine ⟨fun hout => ?_, fun hbox hdx hdy => ?_, fun hbox hoff hm hturn hlimit => ?_⟩
    · exact exec_line_refused (reason := .outOfRange) he ha hq hr ht (checkLine_outside (Bool.eq_false_iff.2 hout))
    · exact exec_line_refused (reason := .zeroLength) he ha hq hr ht
        (checkLine_at_tail hbox (sub_eq_zero.1 hdx) (sub_eq_zero.1 hdy))
    · have hno : ¬ ((SentSegment.read .line (lineBytes flags hi lo x y rest)).x = s.queue.tail.x ∧
          (SentSegment.read .line (lineBytes flags hi lo x y rest)).y = s.queue.tail.y) := by
        rw [sub_ne_zero, sub_ne_zero] at hoff
        exact fun hx' => hoff.elim (fun h => h hx'.1) fun h => h hx'.2
      refine exec_line_refused (reason := .cornerSharp) he ha hq hr ht
        ((checkLine_of_off hbox hno).trans (finishMoving_sharp ?_))
      exact (cornerSharp_iff _ _ _).2 ⟨hm, hturn, hlimit⟩
  · obtain ⟨hk, hmaterial, hx, hy, hi', hj⟩ := read_arc ccw flags hi lo x y i j rest (arcKind ccw)
    obtain ⟨vx, vy, hfig, hend⟩ := arcFigures_sent (tail := s.queue.tail) (draws := s.draws) hk hx hy hi' hj
    have hlink : ∀ reason, checkArcRecord s.params s.queue.tail
          (SentSegment.read (arcKind ccw) (arcBytes ccw flags hi lo x y i j rest)) s.draws = .refused reason → _ :=
      fun reason => exec_arc_refused (tag := tag) (reason := reason) he ha hq hr ht
    generalize SentSegment.read (arcKind ccw) (arcBytes ccw flags hi lo x y i j rest) = g at *
    have hin (h : s.params.softXMin ≤ x.toInt ∧ x.toInt ≤ s.params.softXMax ∧ s.params.softYMin ≤ y.toInt ∧
        y.toInt ≤ s.params.softYMax) : s.params.inBox g.x g.y = true := by
      rw [Params.inBox_iff, hx, hy]
      exact h
    have hsent (h : -16000000 ≤ i.toInt ∧ i.toInt ≤ 16000000 ∧ -16000000 ≤ j.toInt ∧ j.toInt ≤ 16000000) :
        (-16000000 ≤ g.i ∧ g.i ≤ 16000000) ∧ (-16000000 ≤ g.j ∧ g.j ≤ 16000000) := by
      rw [hi', hj, and_assoc]
      exact h
    refine ⟨fun hout => ?_, fun hbox hfar => ?_, fun hbox hnear hsmall => ?_, fun hbox hnear hradius hoff => ?_,
      fun hbox hnear hradius hgap hfull hback => ?_, fun hne hbox hnear hradius hgap hdir => ?_⟩
    · refine hlink .outOfRange (checkArcRecord_outside (Bool.eq_false_iff.2 fun h => hout ?_))
      rw [Params.inBox_iff, hx, hy] at h
      exact h
    · refine hlink .outOfRange (checkArcRecord_unsound (hin hbox) (checkArc_far ?_))
      rw [hi', hj, and_assoc]
      exact hfar
    · refine hlink .radiusSmall (checkArcRecord_unsound (hin hbox) (checkArc_small (hsent hnear) ?_))
      rw [hfig]
      exact hsmall
    · refine hlink .arcMismatch (checkArcRecord_unsound (hin hbox) ?_)
      rw [hfig]
      exact checkArc_off (hsent hnear) hradius hoff
    · refine hlink .arcMismatch (checkArcRecord_unsound (hin hbox) ?_)
      rw [hfig]
      exact checkArc_back (hsent hnear) hradius hgap (Bool.eq_false_iff.2 (mt (ArcFigures.fullCircle_iff _).1 hfull)) hback
    · obtain ⟨rfl, rfl⟩ := hend hne
      obtain ⟨hout, hzero, hgood⟩ := checkArc_of_sound (p := s.params) (g := g)
        (a := sentFigures s.queue.tail ccw x.toInt y.toInt i.toInt j.toInt (x.toInt - (s.queue.tail.x + i.toInt))
          (y.toInt - (s.queue.tail.y + j.toInt))) (hsent hnear) hradius hgap hdir
      rw [← hfig] at hout hzero hgood
      refine ⟨fun hleaves => ?_, fun hstays hlength => ?_, fun hstays hlength hm hturn hlimit => ?_⟩
      · exact hlink .outOfRange (checkArcRecord_unsound (hin hbox) (hout (hfig ▸ hleaves)))
      · exact hlink .zeroLength (checkArcRecord_unsound (hin hbox) (hzero (hfig ▸ hstays) (hfig ▸ hlength)))
      · refine hlink .cornerSharp ((checkArcRecord_sound (hin hbox) hfig ?_).trans (finishMoving_sharp ?_))
        · exact hfig ▸ hgood (hfig ▸ hstays) (hfig ▸ hlength)
        · exact (cornerSharp_iff _ _ _).2 ⟨hmaterial.trans hm, hturn, hlimit⟩

end Sys2Proof.Machine
end


section
/-! SUPPORT. SEGMENTS that appends (R14 to R16, R22, R86): the bodies of one and of two records, and the arrival in STARVED. -/

namespace Sys2Proof.Machine

/-! ## One record appended (R16) -/

theorem State.append_queue (s : State) (r : Record) : (s.append r).queue = ⟨s.queue.records ++ [r], s.queue.tail.after r⟩ := by
  simp only [State.append]
  split <;> rfl

theorem State.append_interp (s : State) (r : Record) : (s.append r).interp =
    if s.queue.records = [] then { s.interp with progress := 0, turnPending := r.turns } else s.interp := by
  cases h : s.queue.records <;> simp [State.append, h]

theorem State.arrival_of_not_starved {s : State} (h : s.seq.engine ≠ .starved) : s.arrival = s := by
  rw [State.arrival, if_neg h]

theorem State.arrival_of_starved {s : State} (h : s.seq.engine = .starved) :
    s.arrival = (s.setStarve .stopped).dispatch .starve false := by
  rw [State.arrival, if_pos h]

/-! ## Bodies of one and of two records (R22) -/

section
variable {s : State} {body : List Byte} {r : Record} {clamped : Bool} {len draws : Nat} (hb : body ≠ [])
  (he : s.examine body = ⟨.accepted r clamped, len, draws⟩)
include hb he

theorem State.takeBody_of_accepted : ∃ n, body.length = n + 1 ∧ s.takeBody body =
    State.takeSegments n (body.drop len) ⟨if clamped then .clamped else .ok, 1, if clamped then 1 else 0, 0⟩
      ((s.setDraws draws).append r) := by
  obtain ⟨n, hn⟩ : ∃ n, body.length = n + 1 := Nat.exists_eq_succ_of_ne_zero fun h => hb (List.length_eq_zero_iff.1 h)
  have hempty : body.isEmpty = false := by simpa using hb
  refine ⟨n, hn, ?_⟩
  rw [State.takeBody, hempty, if_neg (by decide), hn, State.takeSegments_accepted n _ hb he]
  simp

/-- A body of one record. -/
theorem State.takeBody_one (hlast : body.drop len = []) : s.takeBody body =
    ((s.setDraws draws).append r, ⟨if clamped then .clamped else .ok, 1, if clamped then 1 else 0, 0⟩) := by
  obtain ⟨n, -, htaken⟩ := State.takeBody_of_accepted hb he
  rw [htaken, hlast, State.takeSegments_nil]

variable {body' : List Byte} (hlen : 0 < len) (hrest : body.drop len = body') (hb' : body' ≠ [])
include hlen hrest hb'

/-- The second record of a body is examined against what the first left. -/
theorem State.takeBody_more : ∃ n, s.takeBody body = State.takeSegments (n + 1) body'
    ⟨if clamped then .clamped else .ok, 1, if clamped then 1 else 0, 0⟩ ((s.setDraws draws).append r) := by
  obtain ⟨n, hn, htaken⟩ := State.takeBody_of_accepted hb he
  have hleft : 0 < body'.length := List.length_pos_iff.2 hb'
  rw [← hrest, List.length_drop] at hleft
  obtain ⟨m, rfl⟩ : ∃ m, n = m + 1 := Nat.exists_eq_succ_of_ne_zero (by omega)
  exact ⟨m, by rw [htaken, hrest]⟩

theorem State.takeBody_two {r' : Record} {clamped' : Bool} {len' draws' : Nat}
    (he' : ((s.setDraws draws).append r).examine body' = ⟨.accepted r' clamped', len', draws'⟩) (hlast : body'.drop len' = []) :
    s.takeBody body = ((((s.setDraws draws).append r).setDraws draws').append r',
      ⟨if clamped' then .clamped else if clamped then .clamped else .ok, 2,
        (if clamped then 1 else 0) + if clamped' then 1 else 0, 0⟩) := by
  obtain ⟨n, htaken⟩ := State.takeBody_more hb he hlen hrest hb'
  rw [htaken, State.takeSegments_accepted n _ hb' he', hlast, State.takeSegments_nil]

theorem State.takeBody_then_refused {reason : Result} {len' draws' : Nat}
    (he' : ((s.setDraws draws).append r).examine body' = ⟨.refused reason, len', draws'⟩) :
    s.takeBody body = (((s.setDraws draws).append r).setDraws draws',
      ⟨reason, 1, if clamped then 1 else 0, refusedTag body'⟩) := by
  obtain ⟨n, htaken⟩ := State.takeBody_more hb he hlen hrest hb'
  rw [htaken, State.takeSegments_refused n _ hb' he']

end

/-- A body that appends at least one record: the arrival, and the reply with the credit left (R22, R86). -/
theorem exec_segments_taken {s t : State} {tag : Byte} {body : List Byte} {b : Batch} (ht : s.takesRequests)
    (htaken : s.takeBody body = (t, b)) (hb : b.accepted ≠ 0) :
    exec (.segments tag body) s = .next (State.commit (t.arrival.withReply 0x83 tag
      ([b.result.code, byte b.accepted, byte b.clamped] ++ be16 b.refusedTag.toNat ++ [byte t.queue.credit]))) := by
  refine exec_answered .segments ht rfl rfl rfl rfl ?_
  show s.serveSegments body = _
  simp only [State.serveSegments, htaken, if_neg hb]

/-! ## DWELL and END records (R14, R177) -/

/-- The flags of a record as sent (R177). -/
theorem flags_bits (material feed report : Bool) :
    (byte (material.toNat + 2 * feed.toNat + 4 * report.toNat)).getLsbD 0 = material ∧
    (byte (material.toNat + 2 * feed.toNat + 4 * report.toNat)).getLsbD 1 = feed ∧
    (byte (material.toNat + 2 * feed.toNat + 4 * report.toNat)).getLsbD 2 = report := by
  cases material <;> cases feed <;> cases report <;> decide

theorem read_tag (k : SegmentKind) (kind flags : Byte) (tag : Half) (rest : List Byte) :
    (SentSegment.read k (kind :: flags :: (be16 tag.toNat ++ rest))).tag = tag := by
  have hbytes : readNat (kind :: flags :: (be16 tag.toNat ++ rest)) 2 2 = tag.toNat := readNat_of_take (by rfl)
  show BitVec.ofNat 16 (readNat (kind :: flags :: (be16 tag.toNat ++ rest)) 2 2) = tag
  rw [hbytes, BitVec.ofNat_toNat, BitVec.setWidth_eq]

section
variable {s : State} (he : s.seq.engine ≠ .aborted) (ha : s.bus.allAdopted = true) (hq : s.queue.records.length < 128)
  {flags : Byte} {tag : Half} (more : List Byte)
include he ha hq

theorem State.examine_dwell (duration : Half) :
    s.examine (0x04 :: flags :: (be16 tag.toNat ++ (be16 duration.toNat ++ more))) =
    ⟨.accepted ⟨tag, flags.getLsbD 0, flags.getLsbD 2, .dwell (clampNat 1 60000 duration.toNat)⟩
      (decide (clampNat 1 60000 duration.toNat ≠ duration.toNat)), 6, s.draws⟩ := by
  have hlong : SegmentKind.length .dwell (flags.getLsbD 1) ≤
      (0x04 :: flags :: (be16 tag.toNat ++ (be16 duration.toNat ++ more)) : List Byte).length := Nat.le_add_left 6 more.length
  have hduration : (SentSegment.read .dwell (0x04 :: flags :: (be16 tag.toNat ++ (be16 duration.toNat ++ more)))).duration =
      duration.toNat := readNat_of_take (by rfl)
  rw [State.examine_of_ready (k := .dwell) rfl hlong (State.checkMachine_of_ready he ha hq)]
  show (⟨.accepted ⟨(SentSegment.read .dwell _).tag, _, _, .dwell (clampNat 1 60000 (SentSegment.read .dwell _).duration)⟩
    (decide (clampNat 1 60000 (SentSegment.read .dwell _).duration ≠ (SentSegment.read .dwell _).duration)), 6, s.draws⟩ : Examined) = _
  rw [hduration, read_tag]
  rfl

theorem State.examine_end : s.examine (0x05 :: flags :: (be16 tag.toNat ++ more)) =
    ⟨.accepted ⟨tag, false, flags.getLsbD 2, .programEnd⟩ false, 4, s.draws⟩ := by
  have hlong : SegmentKind.length .programEnd (flags.getLsbD 1) ≤
      (0x05 :: flags :: (be16 tag.toNat ++ more) : List Byte).length := Nat.le_add_left 4 more.length
  rw [State.examine_of_ready (k := .programEnd) rfl hlong (State.checkMachine_of_ready he ha hq)]
  show (⟨.accepted ⟨(SentSegment.read .programEnd _).tag, _, _, .programEnd⟩ false, 4, s.draws⟩ : Examined) = _
  rw [read_tag]
  rfl

end

theorem code_okOr (clamped : Bool) :
    (if clamped then Result.clamped else .ok).code = byte (if clamped then 1 else 0) := by
  cases clamped <;> rfl

theorem State.appended_credit (s : State) (draws : Nat) (r : Record) :
    ((s.setDraws draws).append r).queue.credit = 127 - s.queue.records.length := by
  rw [State.append_queue, CutQueue.credit, List.length_append]
  exact Nat.add_sub_add_right 127 1 _

/-- A body of one record that is appended. -/
theorem exec_segments_one {s : State} {tag : Byte} {body : List Byte} {r : Record} {clamped : Bool} {len draws : Nat}
    (ht : s.takesRequests) (hb : body ≠ []) (he : s.examine body = ⟨.accepted r clamped, len, draws⟩)
    (hlast : body.drop len = []) : exec (.segments tag body) s = .next (State.commit
      (((s.setDraws draws).append r).arrival.withReply 0x83 tag
        [byte (if clamped then 1 else 0), 1, byte (if clamped then 1 else 0), 0, 0, byte (127 - s.queue.records.length)])) := by
  rw [exec_segments_taken ht (State.takeBody_one hb he hlast) Nat.one_ne_zero, State.appended_credit, code_okOr]
  have hno : be16 (0 : Half).toNat = [0, 0] := rfl
  simp only [hno, List.cons_append, List.nil_append]
  rfl

/-- Outside STARVED an appended record leaves the sequencer, the stroke and the notices. -/
theorem State.appended_fields {s : State} (draws : Nat) (r : Record) (h : s.seq.engine ≠ .starved) :
    ((s.setDraws draws).append r).arrival.queue = ⟨s.queue.records ++ [r], s.queue.tail.after r⟩ ∧
    ((s.setDraws draws).append r).arrival.link = s.link ∧ ((s.setDraws draws).append r).arrival.seq = s.seq ∧
    ((s.setDraws draws).append r).arrival.stroke = s.stroke ∧ ((s.setDraws draws).append r).arrival.notice = s.notice := by
  have hkept : ((s.setDraws draws).append r).arrival = (s.setDraws draws).append r :=
    State.arrival_of_not_starved (by simpa using h)
  rw [hkept]
  exact ⟨State.append_queue _ _, by simp, by simp, by simp, by simp⟩

/-- The machine in STARVED as an arrival finds it (R86): the record alone in the queue, and the starve timer stopped. -/
def State.arrived (s : State) (draws : Nat) (r : Record) : State := ((s.setDraws draws).append r).setStarve .stopped

section
variable {s : State} (draws : Nat) {r : Record} (hst : s.seq.engine = .starved) (hempty : s.queue.records = [])

include hst in
theorem State.appended_arrival : ((s.setDraws draws).append r).arrival = (s.arrived draws r).dispatch .starve false :=
  State.arrival_of_starved (by simpa using hst)

theorem State.arrived_fields (s : State) (r : Record) : (s.arrived draws r).seq.engine = s.seq.engine ∧
    (s.arrived draws r).stroke = s.stroke ∧ (s.arrived draws r).notice = s.notice ∧ (s.arrived draws r).settings = s.settings ∧
    (s.arrived draws r).link = s.link ∧ (s.arrived draws r).seq.starve = .stopped := by
  simp [State.arrived, State.setStarve]

include hempty in
theorem State.arrived_queue : (s.arrived draws r).queue = ⟨[r], s.queue.tail.after r⟩ := by
  simp only [State.arrived, State.setStarve_frame, State.append_queue, State.setDraws_queue, hempty, List.nil_append]

include hst hempty in
/-- A dispatch of the arrival into RUNNING, PIVOTING or DWELLING, told from the state before the request. -/
theorem State.arrived_enters {u : State} {e : Engine} (h : (s.arrived draws r).EntersProgram u e .starve) :
    u.seq.engine = e ∧ s.StrokeStartAsked u ∧
    u.notice.engineState = Pending.coalesce s.notice.engineState ⟨e, .starved, .starve, none⟩ ∧
    u.queue = ⟨[r], s.queue.tail.after r⟩ := by
  obtain ⟨hengine, hstroke, hnotice, hsettings, -, -⟩ := s.arrived_fields draws r
  refine ⟨h.engine, h.started.congr hstroke.symm (by rw [hsettings]) rfl, ?_, h.queue.trans (State.arrived_queue draws hempty)⟩
  rw [h.noted, hnotice, hengine, hst]

include hempty in
theorem State.arrived_starve (hb : r.body ≠ .programEnd) :
    ((s.arrived draws r).dispatch .starve false).seq.starve = .stopped := by
  obtain ⟨-, -, -, -, -, hstarve⟩ := s.arrived_fields draws r
  have hcons : (s.arrived draws r).queue.records = [r] := by rw [State.arrived_queue draws hempty]
  cases hr : r.body with
  | moving m =>
    cases hp : (s.arrived draws r).interp.turnPending
    · rw [State.dispatch_running _ _ _ r [] m hcons hr hp]
      simpa using hstarve
    · rw [State.dispatch_pivoting _ _ _ r [] m hcons hr hp]
      simpa using hstarve
  | dwell d =>
    rw [State.dispatch_dwelling _ _ _ r [] d hcons hr]
    simpa using hstarve
  | programEnd => exact absurd hr hb

include hst hempty

/-- The arrival of a DWELL. -/
theorem State.arrived_dwells {d : Nat} (hb : r.body = .dwell d) :
    ((s.arrived draws r).dispatch .starve false).queue = ⟨[r], s.queue.tail⟩ ∧
    ((s.arrived draws r).dispatch .starve false).link = s.link ∧
    ((s.arrived draws r).dispatch .starve false).seq.engine = .dwelling ∧
    ((s.arrived draws r).dispatch .starve false).seq.dwellCount = 0 ∧
    ((s.arrived draws r).dispatch .starve false).seq.starve = .stopped ∧
    s.StrokeStartAsked ((s.arrived draws r).dispatch .starve false) ∧
    ((s.arrived draws r).dispatch .starve false).notice.engineState =
      Pending.coalesce s.notice.engineState ⟨.dwelling, .starved, .starve, none⟩ := by
  obtain ⟨hengine, -, -, -, hlink, -⟩ := s.arrived_fields draws r
  have hcons : (s.arrived draws r).queue.records = [r] := by rw [State.arrived_queue draws hempty]
  obtain ⟨henters, -, hcount⟩ := State.dispatch_dwells .starve false (by rw [hengine, hst]; rfl) hcons hb
  obtain ⟨hdwelling, hstarted, hnoted, hqueue⟩ := State.arrived_enters draws hst hempty henters
  refine ⟨?_, by simpa using hlink, hdwelling, hcount, State.arrived_starve draws hempty (by simp [hb]), hstarted, hnoted⟩
  rw [hqueue, Tail.after, hb]

/-- The arrival of an END. -/
theorem State.arrived_ends (hb : r.body = .programEnd) :
    ((s.arrived draws r).dispatch .starve false).queue = ⟨[], s.queue.tail⟩ ∧
    ((s.arrived draws r).dispatch .starve false).link = s.link ∧
    ((s.arrived draws r).dispatch .starve false).seq.engine = .idle ∧
    ((s.arrived draws r).dispatch .starve false).seq.resume = none ∧
    ((s.arrived draws r).dispatch .starve false).seq.starve = .stopped ∧
    ((s.arrived draws r).dispatch .starve false).stroke.state ∈ [StrokeState.stopping, .stopped] ∧
    ((s.arrived draws r).dispatch .starve false).notice.engineState =
      Pending.coalesce s.notice.engineState ⟨.idle, .starved, .starve, none⟩ := by
  obtain ⟨hengine, -, hnotice, -, hlink, hstarve⟩ := s.arrived_fields draws r
  have hcons : (s.arrived draws r).queue.records = [r] := by rw [State.arrived_queue draws hempty]
  have hends := State.dispatch_ends .starve false (by rw [hengine, hst]; decide) hcons hb
  obtain ⟨-, hstopped⟩ := hends.stopped
  refine ⟨?_, by simpa using hlink, hends.engine, hends.resume, hends.starve.trans hstarve, hstopped, ?_⟩
  · rw [hends.queue, State.arrived_queue draws hempty, Tail.after, hb]
  · rw [hends.noted, hnotice, hengine, hst]

end

/-- A body of two records that are appended, outside STARVED. -/
theorem exec_segments_two {s : State} {tag : Byte} {body body' : List Byte} {r r' : Record} {clamped : Bool}
    {len draws len' draws' : Nat} (ht : s.takesRequests) (hns : s.seq.engine ≠ .starved) (hb : body ≠ [])
    (he : s.examine body = ⟨.accepted r clamped, len, draws⟩) (hlen : 0 < len) (hrest : body.drop len = body') (hb' : body' ≠ [])
    (he' : ((s.setDraws draws).append r).examine body' = ⟨.accepted r' false, len', draws'⟩) (hlast : body'.drop len' = []) :
    exec (.segments tag body) s = .next (State.commit
      (((((s.setDraws draws).append r).setDraws draws').append r').withReply 0x83 tag
        [byte (if clamped then 1 else 0), 2, byte (if clamped then 1 else 0), 0, 0, byte (126 - s.queue.records.length)])) := by
  have hcredit : ((((s.setDraws draws).append r).setDraws draws').append r').queue.credit = 126 - s.queue.records.length := by
    rw [State.appended_credit, State.append_records, List.length_append]
    exact Nat.add_sub_add_right 126 1 _
  rw [exec_segments_taken ht (State.takeBody_two hb he hlen hrest hb' he' hlast) (Nat.succ_ne_zero _), hcredit,
    State.arrival_of_not_starved (by simpa using hns)]
  have hno : be16 (0 : Half).toNat = [0, 0] := rfl
  simp only [Bool.false_eq_true, if_false, code_okOr, Nat.add_zero, hno, List.cons_append, List.nil_append]
  rfl

/-- A body whose second record is refused keeps the first, outside STARVED. -/
theorem exec_segments_then_refused {s : State} {tag : Byte} {body body' segTag : List Byte} {r : Record} {clamped : Bool}
    {reason : Result} {len draws len' draws' : Nat} (ht : s.takesRequests) (hns : s.seq.engine ≠ .starved) (hb : body ≠ [])
    (he : s.examine body = ⟨.accepted r clamped, len, draws⟩) (hlen : 0 < len) (hrest : body.drop len = body') (hb' : body' ≠ [])
    (he' : ((s.setDraws draws).append r).examine body' = ⟨.refused reason, len', draws'⟩)
    (htag : be16 (refusedTag body').toNat = segTag) :
    exec (.segments tag body) s = .next (State.commit
      ((((s.setDraws draws).append r).setDraws draws').withReply 0x83 tag
        ([reason.code, 1, byte (if clamped then 1 else 0)] ++ segTag ++ [byte (127 - s.queue.records.length)]))) := by
  rw [exec_segments_taken ht (State.takeBody_then_refused hb he hlen hrest hb' he') Nat.one_ne_zero,
    State.arrival_of_not_starved (by simpa using hns), htag, State.setDraws_queue, State.appended_credit]
  rfl

/-- Settles O47, by the bodies of one and of two records, and in STARVED by the dispatch of the arrival. -/
theorem segmentsAppendsDwellAndEnd : Obligations.SegmentsAppendsDwellAndEnd := by
  intro s tag segTag material feed report duration ht he ha hq
  dsimp only
  obtain ⟨hmaterial, -, hreport⟩ := flags_bits material feed report
  generalize byte (material.toNat + 2 * feed.toNat + 4 * report.toNat) = flags at hmaterial hreport ⊢
  subst hmaterial hreport
  have hclamped : (if duration.toNat = max 1 (min duration.toNat 60000) then 0 else 1) =
      if decide (clampNat 1 60000 duration.toNat ≠ duration.toNat) then 1 else 0 := by
    show (if duration.toNat = clampNat 1 60000 duration.toNat then 0 else 1) = _
    by_cases h : duration.toNat = clampNat 1 60000 duration.toNat
    · rw [if_pos h, if_neg (by simpa using h.symm)]
    · rw [if_neg h, if_pos (by simpa using fun hx => h hx.symm)]
  have hdwell (more : List Byte) := State.examine_dwell (tag := segTag) (flags := flags) he ha hq more duration
  have hend := State.examine_end (tag := segTag) (flags := flags) he ha hq []
  have hone := exec_segments_one (tag := tag) ht (List.cons_ne_nil _ _) (hdwell []) rfl
  have hstop := exec_segments_one (tag := tag) ht (List.cons_ne_nil _ _) hend rfl
  have hready (r : Record) : ((s.setDraws s.draws).append r).seq.engine ≠ .aborted ∧
      ((s.setDraws s.draws).append r).bus.allAdopted = true ∧ (s.queue.records.length < 127 →
        ((s.setDraws s.draws).append r).queue.records.length < 128) := by
    refine ⟨by simpa using he, by simpa using ha, fun h => ?_⟩
    simp only [State.append_queue, State.setDraws_queue, List.length_append, List.length_singleton]
    omega
  rw [hclamped]
  refine ⟨fun hns => ⟨?_, ?_, fun endTag hroom => ?_, fun kind flags2 hi lo more hkind => ?_⟩, fun hst hempty => ⟨?_, ?_⟩⟩
  · obtain ⟨hqueue, hlink, hrest⟩ := State.appended_fields s.draws _ hns
    exact ⟨_, hone, hqueue, by rw [← hlink]; rfl, hrest⟩
  · obtain ⟨hqueue, hlink, hrest⟩ := State.appended_fields s.draws _ hns
    exact ⟨_, hstop, hqueue, by rw [← hlink]; rfl, hrest⟩
  · have hend' (r : Record) : ((s.setDraws s.draws).append r).examine (0x05 :: 0x00 :: (be16 endTag.toNat ++ [])) =
        ⟨.accepted ⟨endTag, false, false, .programEnd⟩ false, 4, s.draws⟩ := by
      obtain ⟨hengine, hadopted, hless⟩ := hready r
      rw [State.examine_end hengine hadopted (hless hroom)]
      simp
    have hexec := exec_segments_two (tag := tag) ht hns (List.cons_ne_nil _ _)
      (hdwell (0x05 :: 0x00 :: (be16 endTag.toNat ++ []))) (by decide) rfl (List.cons_ne_nil _ _) (hend' _) rfl
    refine ⟨_, hexec, ?_, by simp only [State.withReply, State.setDraws_link, State.append_frame]; rfl,
      by simp [State.withReply], by simp [State.withReply], by simp [State.withReply]⟩
    simp only [State.withReply, State.append_queue, State.setDraws_queue, List.append_assoc]
    rfl
  · have hexec := exec_segments_then_refused (tag := tag) ht hns (List.cons_ne_nil _ _)
      (hdwell (kind :: flags2 :: hi :: lo :: more)) (by decide) rfl (List.cons_ne_nil _ _)
      (State.examine_of_unknown (SegmentKind.ofByte_none hkind)) (refusedTag_bytes _ _ _ _ _)
    refine ⟨_, hexec, ?_, by simp [State.withReply, Result.code, byte], by simp [State.withReply], by simp [State.withReply],
      by simp [State.withReply]⟩
    simp only [State.withReply, State.append_queue, State.setDraws_queue]
    rfl
  · obtain ⟨hqueue, hlink, hrest⟩ := State.arrived_dwells s.draws hst hempty
      (r := ⟨segTag, flags.getLsbD 0, flags.getLsbD 2, .dwell (clampNat 1 60000 duration.toNat)⟩) rfl
    rw [State.appended_arrival _ hst, hempty] at hone
    exact ⟨_, hone, hqueue, by rw [← hlink]; rfl, hrest⟩
  · obtain ⟨hqueue, hlink, hrest⟩ := State.arrived_ends s.draws hst hempty
      (r := ⟨segTag, false, flags.getLsbD 2, .programEnd⟩) rfl
    rw [State.appended_arrival _ hst, hempty] at hstop
    exact ⟨_, hstop, hqueue, by rw [← hlink]; rfl, hrest⟩

end Sys2Proof.Machine
end


section
/-! SUPPORT. SEGMENTS that appends a line or an arc (R8 to R16, R86). -/

namespace Sys2Proof.Machine

theorem finishMoving_accepted {p : Params} {tail : Tail} {g : SentSegment} {path : Path} {length : Nat} {entry exit : Half}
    {arcRadius : Option Nat} (h : cornerSharp p g.material (entryTurn tail.heading entry) = false) :
    finishMoving p tail g path length entry exit arcRadius = .accepted ⟨g.tag, g.material, g.report,
      .moving ⟨path, tail.x, tail.y, g.x, g.y, (resolveFeed p tail g).1, length, entry, exit, entryTurn tail.heading entry,
        junctionOf p (entryTurn tail.heading entry), planningCap p g.material arcRadius⟩⟩ (resolveFeed p tail g).2 := by
  simp only [finishMoving, h]
  rfl

/-- The feed that a record without FEED, or with it, resolves to (R14), and the count it adds to those clamped. -/
theorem resolveFeed_of {p : Params} {tail : Tail} {g : SentSegment} {feed : Option Half} (hflag : g.feedFlag = feed.isSome)
    (hfeed : ∀ f, feed = some f → g.feed = f.toNat) :
    (resolveFeed p tail g).1 =
      feed.elim tail.feed (fun f => max 1 (min f.toNat (if g.material then p.maxCutFeed else p.maxAirFeed))) ∧
    (if (resolveFeed p tail g).2 then 1 else 0) = feed.elim 0 (fun f =>
      if f.toNat = max 1 (min f.toNat (if g.material then p.maxCutFeed else p.maxAirFeed)) then 0 else 1) := by
  cases feed with
  | none => simp [resolveFeed, hflag]
  | some f =>
    have hgiven : resolveFeed p tail g = (clampNat 1 (p.maxFeed g.material) f.toNat,
        decide (clampNat 1 (p.maxFeed g.material) f.toNat ≠ f.toNat)) := by
      rw [resolveFeed, hflag, hfeed f rfl]
      rfl
    rw [hgiven]
    refine ⟨rfl, ?_⟩
    show _ = if f.toNat = clampNat 1 (p.maxFeed g.material) f.toNat then 0 else 1
    by_cases h : f.toNat = clampNat 1 (p.maxFeed g.material) f.toNat
    · rw [if_pos h, if_neg (by simpa using h.symm)]
    · rw [if_neg h, if_pos (by simpa using fun hx => h hx.symm)]

/-- The interpolator as an arrival on an empty queue finds it (R49). -/
theorem State.arrived_interp {s : State} (draws : Nat) {r : Record} (hempty : s.queue.records = []) :
    (s.arrived draws r).interp = { s.interp with progress := 0, turnPending := r.turns } := by
  have happend := (s.setDraws draws).append_interp r
  rw [if_pos (by simpa using hempty)] at happend
  simpa [State.arrived] using happend

/-- What a SEGMENTS body of the one moving record `r` with the motion `m` leaves and answers. -/
def State.AppendsMoving (s u : State) (tag : Byte) (r : Record) (m : Moving) (clamped : Nat) : Prop :=
  u.queue = ⟨s.queue.records ++ [r], ⟨m.endX, m.endY, m.exitHeading, m.feed⟩⟩ ∧
  u.link = { s.link with reply := some (frameBytes 0x83 tag
    [byte clamped, 1, byte clamped, 0, 0, byte (127 - s.queue.records.length)]) } ∧
  (s.seq.engine ≠ .starved → u.seq = s.seq ∧ u.stroke = s.stroke ∧ u.notice = s.notice ∧
    (s.queue.records ≠ [] → u.interp = s.interp) ∧
    (s.queue.records = [] → u.interp = { s.interp with progress := 0, turnPending := decide (m.junction = .pivot) })) ∧
  (s.seq.engine = .starved → u.seq.starve = .stopped ∧ s.StrokeStartAsked u ∧
    (m.junction = .blend → u.seq.engine = .running ∧ u.interp = { s.interp with progress := 0, turnPending := false }) ∧
    (m.junction = .pivot → u.seq.engine = .pivoting ∧ u.interp = { s.interp with
      feed := 0, progress := 0, turnPending := true, turn := some ⟨decide (0 < m.turn), m.turn.natAbs⟩ }) ∧
    u.notice.engineState = Pending.coalesce s.notice.engineState ⟨u.seq.engine, .starved, .starve, none⟩)

section
variable {s : State} {r : Record} {m : Moving} (draws : Nat) (hm : r.body = .moving m) (hst : s.seq.engine = .starved)
  (hempty : s.queue.records = [])
include hm hst hempty

/-- The arrival of a moving record (R86): RUNNING on a BLEND, PIVOTING with the turn on a PIVOT. -/
theorem State.arrived_moves : ∃ e, s.StrokeStartAsked ((s.arrived draws r).dispatch .starve false) ∧
    ((s.arrived draws r).dispatch .starve false).seq.engine = e ∧
    ((s.arrived draws r).dispatch .starve false).queue = ⟨[r], s.queue.tail.after r⟩ ∧
    ((s.arrived draws r).dispatch .starve false).notice.engineState =
      Pending.coalesce s.notice.engineState ⟨e, .starved, .starve, none⟩ ∧
    (m.junction = .blend → e = .running ∧ ((s.arrived draws r).dispatch .starve false).interp =
      { s.interp with progress := 0, turnPending := false }) ∧
    (m.junction = .pivot → e = .pivoting ∧ ((s.arrived draws r).dispatch .starve false).interp = { s.interp with
      feed := 0, progress := 0, turnPending := true, turn := some ⟨decide (0 < m.turn), m.turn.natAbs⟩ }) := by
  obtain ⟨hengine, -⟩ := s.arrived_fields draws r
  have hrest : (s.arrived draws r).seq.engine.runsProgram = false := by rw [hengine, hst]; rfl
  have hcons : (s.arrived draws r).queue.records = [r] := by rw [State.arrived_queue draws hempty]
  have hinterp := State.arrived_interp (r := r) draws hempty
  cases hj : m.junction with
  | blend =>
    have hturns : r.turns = false := by simp [Record.turns, hm, hj]
    rw [hturns] at hinterp
    obtain ⟨henters, hkept⟩ := State.dispatch_runs .starve false hrest hcons hm (by rw [hinterp])
    obtain ⟨hrunning, hstarted, hnoted, hqueue⟩ := State.arrived_enters draws hst hempty henters
    exact ⟨_, hstarted, hrunning, hqueue, hnoted, fun _ => ⟨rfl, hkept.trans hinterp⟩, nofun⟩
  | pivot =>
    have hturns : r.turns = true := by simp [Record.turns, hm, hj]
    rw [hturns] at hinterp
    obtain ⟨henters, hturned⟩ := State.dispatch_pivots .starve false hrest hcons hm (by rw [hinterp])
    obtain ⟨hpivoting, hstarted, hnoted, hqueue⟩ := State.arrived_enters draws hst hempty henters
    exact ⟨_, hstarted, hpivoting, hqueue, hnoted, nofun, fun _ => ⟨rfl, by rw [hturned, hinterp]⟩⟩

end

/-- A body of one moving record that is appended. -/
theorem exec_segments_appends {s : State} {tag : Byte} {body : List Byte} {r : Record} {m : Moving} {clamped : Bool}
    {len draws : Nat} (ht : s.takesRequests) (hb : body ≠ []) (hm : r.body = .moving m)
    (he : s.examine body = ⟨.accepted r clamped, len, draws⟩) (hlast : body.drop len = [])
    (hstarve : s.seq.engine = .starved → s.queue.records = []) :
    ∃ u : State, exec (.segments tag body) s = .next u.commit ∧ s.AppendsMoving u tag r m (if clamped then 1 else 0) := by
  have hone := exec_segments_one (tag := tag) ht hb he hlast
  have htail : s.queue.tail.after r = ⟨m.endX, m.endY, m.exitHeading, m.feed⟩ := by rw [Tail.after, hm]
  refine ⟨_, hone, ?_⟩
  by_cases hst : s.seq.engine = .starved
  · have hempty := hstarve hst
    obtain ⟨e, hstarted, hengine, hqueue, hnoted, hblend, hpivot⟩ := State.arrived_moves draws hm hst hempty
    have hlink : ((s.arrived draws r).dispatch .starve false).link = s.link := by
      simpa using (s.arrived_fields draws r).2.2.2.2.1
    rw [State.appended_arrival draws hst]
    refine ⟨by rw [hempty, ← htail]; exact hqueue, by rw [← hlink]; rfl, fun hno => absurd hst hno, fun _ =>
      ⟨State.arrived_starve draws hempty (by simp [hm]), hstarted, fun hj => ?_, fun hj => ?_, ?_⟩⟩
    · rw [← (hblend hj).1]
      exact ⟨hengine, (hblend hj).2⟩
    · rw [← (hpivot hj).1]
      exact ⟨hengine, (hpivot hj).2⟩
    · show _ = Pending.coalesce s.notice.engineState ⟨((s.arrived draws r).dispatch .starve false).seq.engine, _, _, _⟩
      rw [hengine]
      exact hnoted
  · obtain ⟨hqueue, hlink, hseq, hstroke, hnotice⟩ := State.appended_fields draws r hst
    have hinterp : ((s.setDraws draws).append r).arrival.interp =
        if s.queue.records = [] then { s.interp with progress := 0, turnPending := r.turns } else s.interp := by
      rw [State.arrival_of_not_starved (by simpa using hst), State.append_interp]
      rfl
    refine ⟨by rw [← htail]; exact hqueue, by rw [← hlink]; rfl, fun _ => ⟨hseq, hstroke, hnotice, fun h => ?_, fun h => ?_⟩,
      fun hyes => absurd hyes hst⟩
    · exact hinterp.trans (if_neg h)
    · refine (hinterp.trans (if_pos h)).trans ?_
      rw [Record.turns, hm]
      rfl

/-- A body of one moving record that passes its checks and whose corner is not too sharp. -/
theorem exec_segments_moving {s : State} {tag : Byte} {body : List Byte} {g : SentSegment} {path : Path} {length : Nat}
    {entry exit : Half} {arcRadius : Option Nat} {len draws : Nat} {feed : Option Half} (ht : s.takesRequests) (hb : body ≠ [])
    (he : s.examine body = ⟨finishMoving s.params s.queue.tail g path length entry exit arcRadius, len, draws⟩)
    (hlast : body.drop len = []) (hstarve : s.seq.engine = .starved → s.queue.records = [])
    (hsharp : cornerSharp s.params g.material (entryTurn s.queue.tail.heading entry) = false)
    (hflag : g.feedFlag = feed.isSome) (hfeed : ∀ f, feed = some f → g.feed = f.toNat) :
    ∃ u : State, exec (.segments tag body) s = .next u.commit ∧
      s.AcceptsMoving u tag g.tag g.material g.report feed path g.x g.y length entry exit
        (planningCap s.params g.material arcRadius) := by
  rw [finishMoving_accepted hsharp] at he
  obtain ⟨hresolved, hclamped⟩ := resolveFeed_of (p := s.params) (tail := s.queue.tail) hflag hfeed
  rw [hresolved] at he
  obtain ⟨u, hexec, happends⟩ := exec_segments_appends (tag := tag) ht hb rfl he hlast hstarve
  rw [hclamped] at happends
  refine ⟨u, hexec, ?_⟩
  cases feed <;> exact happends

/-- The bytes of a feed ceiling, when FEED is set (R177). -/
def feedBytes (feed : Option Half) : List Byte := feed.elim [] fun f => be16 f.toNat

theorem two_le_feedBytes {feed : Option Half} (h : feed.isSome = true) : 2 ≤ (feedBytes feed).length := by
  obtain ⟨f, rfl⟩ := Option.isSome_iff_exists.1 h
  exact le_refl 2

/-- The fields of a LINE that FEED carries, and the rest of its bytes once it has been taken. -/
theorem read_line_feed {flags : Byte} {tag : Half} {x y : Word} {feed : Option Half} (hflag : flags.getLsbD 1 = feed.isSome) :
    (SentSegment.read .line (lineBytes flags (byte (tag.toNat / 256)) (byte tag.toNat) x y (feedBytes feed))).tag = tag ∧
    (∀ f, feed = some f →
      (SentSegment.read .line (lineBytes flags (byte (tag.toNat / 256)) (byte tag.toNat) x y (feedBytes feed))).feed = f.toNat) ∧
    (lineBytes flags (byte (tag.toNat / 256)) (byte tag.toNat) x y (feedBytes feed)).drop
      (SegmentKind.length .line (flags.getLsbD 1)) = [] := by
  refine ⟨read_tag .line 0x01 flags tag _, fun f hf => ?_, ?_⟩
  · subst hf
    exact readNat_of_take (off := 12) (by rfl)
  · rw [hflag]
    cases feed <;> rfl

theorem read_arc_feed {ccw : Bool} {flags : Byte} {tag : Half} {x y i j : Word} {feed : Option Half}
    (hflag : flags.getLsbD 1 = feed.isSome) :
    (SentSegment.read (arcKind ccw)
      (arcBytes ccw flags (byte (tag.toNat / 256)) (byte tag.toNat) x y i j (feedBytes feed))).tag = tag ∧
    (∀ f, feed = some f → (SentSegment.read (arcKind ccw)
      (arcBytes ccw flags (byte (tag.toNat / 256)) (byte tag.toNat) x y i j (feedBytes feed))).feed = f.toNat) ∧
    (arcBytes ccw flags (byte (tag.toNat / 256)) (byte tag.toNat) x y i j (feedBytes feed)).drop
      ((arcKind ccw).length (flags.getLsbD 1)) = [] := by
  refine ⟨read_tag (arcKind ccw) (if ccw then 0x03 else 0x02) flags tag _, fun f hf => ?_, ?_⟩
  · subst hf
    cases ccw <;> exact readNat_of_take (off := 20) (by rfl)
  · rw [hflag]
    cases ccw <;> cases feed <;> rfl

/-- Settles O48, by the examination of a line and of an arc. -/
theorem segmentsAppendsAirLine : Obligations.SegmentsAppendsAirLine := by
  intro s tag segTag x y material report feed ht he ha hq hstarve
  dsimp only
  obtain ⟨hmaterial, hflag, hreport⟩ := flags_bits material feed.isSome report
  generalize byte (material.toNat + 2 * feed.isSome.toNat + 4 * report.toNat) = flags at hmaterial hflag hreport ⊢
  have hlong (h : flags.getLsbD 1 = true) : 2 ≤ (feedBytes feed).length := two_le_feedBytes (hflag.symm.trans h)
  have hblunt (entry : Half) (h : ¬ (material = true ∧
      s.settings.params.blendAngle < (entry - s.queue.tail.heading).toInt.natAbs ∧
      s.settings.params.pivotLimit < (entry - s.queue.tail.heading).toInt.natAbs)) :
      cornerSharp s.params material (entryTurn s.queue.tail.heading entry) = false :=
    Bool.eq_false_iff.2 (mt (cornerSharp_iff _ _ _).1 h)
  intro hbox
  refine ⟨fun hoff hsharp => ?_, fun ccw i j hne hi hi' hj hj' hradius hgap hdir hextremes hlength hsharp => ?_⟩
  · have hexamined := State.examine_line he ha hq (hi := byte (segTag.toNat / 256)) (lo := byte segTag.toNat) (x := x) (y := y)
      hlong
    obtain ⟨-, hm, hx, hy⟩ := read_line flags (byte (segTag.toNat / 256)) (byte segTag.toNat) x y (feedBytes feed)
    obtain ⟨htag, hfeed, hlast⟩ := read_line_feed (tag := segTag) (x := x) (y := y) hflag
    have hr : (SentSegment.read .line (lineBytes flags (byte (segTag.toNat / 256)) (byte segTag.toNat) x y (feedBytes feed))).report =
      report := hreport
    have hf : (SentSegment.read .line (lineBytes flags (byte (segTag.toNat / 256)) (byte segTag.toNat) x y (feedBytes feed))).feedFlag =
      feed.isSome := hflag
    rw [hmaterial] at hm
    generalize SentSegment.read .line (lineBytes flags _ _ x y (feedBytes feed)) = g at *
    have hin : s.params.inBox g.x g.y = true := by
      rw [Params.inBox_iff, hx, hy]
      exact hbox
    have hno : ¬ (g.x = s.queue.tail.x ∧ g.y = s.queue.tail.y) := fun ⟨hgx, hgy⟩ => by
      rw [sub_ne_zero, sub_ne_zero, ← hx, ← hy] at hoff
      exact hoff.elim (fun h => h hgx) fun h => h hgy
    rw [checkLine_of_off hin hno] at hexamined
    have hkey := exec_segments_moving (tag := tag) ht (List.cons_ne_nil _ _) hexamined hlast hstarve
      (by rw [hm, hx, hy]; exact hblunt _ hsharp) hf hfeed
    rw [htag, hm, hr, hx, hy] at hkey
    cases feed <;> exact hkey
  · have hexamined := State.examine_arc he ha hq (ccw := ccw) (hi := byte (segTag.toNat / 256)) (lo := byte segTag.toNat)
      (x := x) (y := y) (i := i) (j := j) hlong
    obtain ⟨hk, hm, hx, hy, hgi, hgj⟩ :=
      read_arc ccw flags (byte (segTag.toNat / 256)) (byte segTag.toNat) x y i j (feedBytes feed) (arcKind ccw)
    obtain ⟨htag, hfeed, hlast⟩ := read_arc_feed (ccw := ccw) (tag := segTag) (x := x) (y := y) (i := i) (j := j) hflag
    have hr : (SentSegment.read (arcKind ccw)
      (arcBytes ccw flags (byte (segTag.toNat / 256)) (byte segTag.toNat) x y i j (feedBytes feed))).report = report := hreport
    have hf : (SentSegment.read (arcKind ccw)
      (arcBytes ccw flags (byte (segTag.toNat / 256)) (byte segTag.toNat) x y i j (feedBytes feed))).feedFlag = feed.isSome := hflag
    rw [hmaterial] at hm
    generalize SentSegment.read (arcKind ccw) (arcBytes ccw flags _ _ x y i j (feedBytes feed)) = g at *
    have hin : s.params.inBox g.x g.y = true := by
      rw [Params.inBox_iff, hx, hy]
      exact hbox
    have hnear : (-16000000 ≤ g.i ∧ g.i ≤ 16000000) ∧ (-16000000 ≤ g.j ∧ g.j ≤ 16000000) := by
      rw [hgi, hgj]
      exact ⟨⟨hi, hi'⟩, hj, hj'⟩
    obtain ⟨vx, vy, hfig, hend⟩ := arcFigures_sent (tail := s.queue.tail) (draws := s.draws) hk hx hy hgi hgj
    obtain ⟨rfl, rfl⟩ := hend hne
    obtain ⟨-, -, hsound⟩ := checkArc_of_sound (p := s.params) (g := g)
      (a := sentFigures s.queue.tail ccw x.toInt y.toInt i.toInt j.toInt (x.toInt - (s.queue.tail.x + i.toInt))
        (y.toInt - (s.queue.tail.y + j.toInt))) hnear hradius hgap hdir
    have hstays := hsound (fun ⟨d, hd, hcross, hout⟩ => hout (hextremes d hd hcross)) hlength
    rw [checkArcRecord_sound hin hfig hstays] at hexamined
    have hkey := exec_segments_moving (tag := tag) ht (List.cons_ne_nil _ _) hexamined hlast hstarve
      (by rw [hm]; exact hblunt _ hsharp) hf hfeed
    rw [htag, hm, hr, hx, hy] at hkey
    cases feed <;> exact hkey

end Sys2Proof.Machine
end


section
/-! SUPPORT. The input lines first read (R148), and a frame begin, which leaves the sources of the inputs (R144, R147). -/

namespace Sys2Proof.Machine

/-! ## The sources of the inputs in a frame -/

/-- No source of an input moves from `s` to `u`. -/
def State.LeavesInputs (s u : State) : Prop := ∀ i : Fin 15, i < 8 → u.trip.sources[i] = s.trip.sources[i]

theorem State.LeavesInputs.trans {s u v : State} (h : s.LeavesInputs u) (k : u.LeavesInputs v) : s.LeavesInputs v :=
  fun i hi => (k i hi).trans (h i hi)

theorem State.LeavesInputs.of_trip {s u : State} (h : u.trip = s.trip) : s.LeavesInputs u := fun i _ => by rw [h]

theorem State.LeavesInputs.after {s u v : State} (k : u.LeavesInputs v) (h : u.trip = s.trip) : s.LeavesInputs v :=
  (State.LeavesInputs.of_trip h).trans k

/-- A source that no input has, told by what it leaves. -/
theorem State.leavesInputs_of {s u : State} {k : Fin 15} (hk : 8 ≤ k)
    (h : ∀ j : Fin 15, j ≠ k → u.trip.sources[j] = s.trip.sources[j]) : s.LeavesInputs u :=
  fun i hi => h i (ne_of_lt (lt_of_lt_of_le hi hk))

theorem State.setStall_leaves (s : State) (b : Bool) : s.LeavesInputs (s.setStall b) :=
  State.leavesInputs_of (by decide) (s.setStall_source b).2

theorem State.setOverload_leaves (s : State) (b : Bool) : s.LeavesInputs (s.setOverload b) :=
  State.leavesInputs_of (by decide) (s.setOverload_source b).2

theorem State.strokeStart_leaves (s : State) : s.LeavesInputs s.strokeStart := by
  simp only [State.strokeStart]
  split
  · exact .of_trip rfl
  · exact ((State.strokeStart.start s).setStall_leaves false).after rfl
  all_goals exact .of_trip rfl

theorem State.strokeStopped_leaves (s : State) : s.LeavesInputs s.strokeStopped :=
  ((State.setStall_leaves _ false).trans (State.setOverload_leaves _ false)).after rfl

theorem State.strokeStalls_leaves (s : State) : s.LeavesInputs s.strokeStalls :=
  State.leavesInputs_of (by decide) s.strokeStalls_taken.2

theorem State.enterProgram_leaves (s : State) (e : Engine) (c : Cause) : s.LeavesInputs (s.enterProgram e c) := by
  have hstart : s.LeavesInputs (if s.seq.engine.runsProgram then s else s.strokeStart) := by
    split
    · exact .of_trip rfl
    · exact s.strokeStart_leaves
  exact hstart.trans (.of_trip (s.enterProgram_spec e c).2.2.1)

theorem State.dispatch_leaves (s : State) (c : Cause) (keep : Bool) : s.LeavesInputs (s.dispatch c keep) := by
  cases hq : s.queue.records with
  | nil => exact .of_trip (by rw [s.dispatch_starved c keep hq]; simp)
  | cons r rest =>
    cases hb : r.body with
    | moving m =>
      cases hp : s.interp.turnPending
      · rw [s.dispatch_running c keep r rest m hq hb hp]
        exact s.enterProgram_leaves _ _
      · rw [s.dispatch_pivoting c keep r rest m hq hb hp]
        exact (State.enterProgram_leaves _ _ _).after rfl
    | dwell d =>
      rw [s.dispatch_dwelling c keep r rest d hq hb]
      cases keep <;> exact (State.enterProgram_leaves _ _ _).after rfl
    | programEnd =>
      rw [s.dispatch_end c keep r rest hq hb]
      split <;> exact .of_trip (by simp [State.setResume])

theorem State.countTimers_leaves (s : State) (e : Engine) (st : StrokeState) : s.LeavesInputs (s.countTimers e st) := by
  have hdwell : ∀ t : State, t.LeavesInputs t.countDwell := fun t => by
    simp only [State.countDwell]
    split
    · exact .of_trip rfl
    · split
      · exact (State.dispatch_leaves _ _ _).after (by simp)
      · exact .of_trip rfl
  have hstart : ∀ t : State, t.LeavesInputs t.countStart := fun t => by
    simp only [State.countStart]
    split
    · exact .of_trip rfl
    · split
      · exact t.strokeStalls_leaves
      · exact .of_trip rfl
  have hstop : ∀ t : State, t.LeavesInputs t.countStop := fun t => by
    simp only [State.countStop]
    split
    · exact .of_trip rfl
    · split
      · exact t.strokeStopped_leaves
      · exact .of_trip rfl
  have hif : ∀ (p : Prop) [Decidable p] (f : State → State) (t : State), (∀ t : State, t.LeavesInputs (f t)) →
      t.LeavesInputs (if p then f t else t) := fun p _ f t hf => by
    split
    · exact hf t
    · exact .of_trip rfl
  simp only [State.countTimers]
  exact (((hif _ _ s hdwell).trans (hif _ _ _ fun t => .of_trip (by simp))).trans (hif _ _ _ hstart)).trans (hif _ _ _ hstop)

theorem State.afterWork_leaves (s : State) (w : FrameWork) : s.LeavesInputs (s.afterWork w) := by
  simp only [State.afterWork]
  split
  · exact s.dispatch_leaves _ _
  · split
    · exact s.enterProgram_leaves _ _
    · exact .of_trip rfl

/-- After the frame's opening no source of an input moves. -/
theorem State.beginFrame_leaves (s : State) : s.openFrame.LeavesInputs s.beginFrame := by
  have hwork : s.openFrame.LeavesInputs s.frameWork := by
    have hafter := State.afterWork_leaves
      (s.openFrame.interpolate.1.frameReport s.openFrame.interpolate.2.advance s.openFrame.interpolate.2.material)
      s.openFrame.interpolate.2
    exact (hafter.after (by simp)).trans (.of_trip (by simp [State.frameWork]))
  have hsend : ∀ t : State, t.LeavesInputs t.sendFrame := fun t i hi => State.sendFrame_source (lt_trans hi (by decide))
  exact (hwork.trans (State.countTimers_leaves _ _ _)).trans (hsend s.timed)

/-- The opening of a frame in which no slot's activity changes hands nothing on. -/
theorem State.openFrame_tripStands {s : State} (h : ∀ k, (s.bus.get k).active = s.settings.params.slotActive k) :
    s.TripStands s.openFrame := by
  have hkept : ∀ k, (s.counted.bus.get k).active = s.counted.settings.params.slotActive k := fun k => by
    rw [s.counted_get]
    exact h k
  have hthree : s.SlotsStand ([Slot.x, .y, .h].foldl State.openSlot s.counted) .s :=
    (s.counted_stands .s).trans (State.openSlots_stand (by decide) fun j _ => hkept j)
  rw [s.openFrame_eq]
  refine hthree.trip.trans (State.openSlot_stands (k := .x) ?_ (by decide)).trip
  rw [(hthree.slots .s).1, h .s]
  exact congrArg (fun v : Settings => v.params.slotActive .s) hthree.settings.symm

/-! ## The lines first read (R148) -/

section
variable {s : State} {i : Fin 8}

theorem State.deriveLine_pins (s : State) (i : Fin 8) : (s.deriveLine i).pins = s.pins := by simp

/-- Reading one line leaves the other inputs and their sources. -/
theorem State.deriveLine_others {j : Fin 15} (h : j ≠ sourceOfInput i) : (s.deriveLine i).trip.sources[j] = s.trip.sources[j] := by
  by_cases hs : s.pinLine i = (s.trip.inputs[i]).line
  · rw [State.deriveLine_of_same hs]
  by_cases hc : s.pinLine i = (s.trip.sources[sourceOfInput i]).condition
  · rw [State.deriveLine_of_equal hs hc]; rfl
  by_cases hd : (s.trip.inputs[i]).debounce = 0
  · rw [State.deriveLine_of_immediate hs hc hd]
    exact (State.takeLine_taken _ i).2.1 j h
  · rw [State.deriveLine_of_differs hs hc hd]; rfl

theorem State.deriveLine_inputs {j : Fin 8} (h : j ≠ i) : (s.deriveLine i).trip.inputs[j] = s.trip.inputs[j] := by
  by_cases hs : s.pinLine i = (s.trip.inputs[i]).line
  · rw [State.deriveLine_of_same hs]
  by_cases hc : s.pinLine i = (s.trip.sources[sourceOfInput i]).condition
  · rw [State.deriveLine_of_equal hs hc]
    exact TripUnit.putInput_get_other _ _ _ _ h
  have hne : i.val ≠ j.val := fun e => h (Fin.ext e.symm)
  by_cases hd : (s.trip.inputs[i]).debounce = 0
  · rw [State.deriveLine_of_immediate hs hc hd, Fin.getElem_fin, State.takeLine_inputs, Vector.getElem_set_ne _ _ hne]
    exact TripUnit.putInput_get_other _ _ _ _ h
  · rw [State.deriveLine_of_differs hs hc hd]
    exact TripUnit.putInput_get_other _ _ _ _ h

/-- The first reading told by the line state that pin and polarity give. -/
theorem State.firstReads_iff {u : State} {p : Polarity} {d : Nat} {high : Bool} : u.FirstReads i p d high ↔
    u.trip.inputs[i] = ⟨p, d, lineState p high, if lineState p high = true ∧ d ≠ 0 then some 0 else none⟩ ∧
    (lineState p high = true ∧ d = 0 → (u.trip.sources[sourceOfInput i]).condition = true ∧
      (u.trip.sources[sourceOfInput i]).state = .active ∧ (u.trip.sources[sourceOfInput i]).count = 1) ∧
    (¬ (lineState p high = true ∧ d = 0) → (u.trip.sources[sourceOfInput i]).condition = false ∧
      (u.trip.sources[sourceOfInput i]).state = .clear ∧ (u.trip.sources[sourceOfInput i]).count = 0) := by
  cases p <;> exact Iff.rfl

/-- The first reading is told by the input and its source alone. -/
theorem State.FirstReads.of_eq {u v : State} {p : Polarity} {d : Nat} {high : Bool} (h : u.FirstReads i p d high)
    (hi : v.trip.inputs[i] = u.trip.inputs[i]) (hs : v.trip.sources[sourceOfInput i] = u.trip.sources[sourceOfInput i]) :
    v.FirstReads i p d high := by
  rw [State.firstReads_iff] at h ⊢
  rw [hi, hs]
  exact h

/-- A line read on a fresh input whose source stands CLEAR. -/
theorem State.deriveLine_firstReads {p : Polarity} {d : Nat} {a : Action} (hin : s.trip.inputs[i] = Input.fresh p d)
    (hsrc : s.trip.sources[sourceOfInput i] = Source.fresh a) : (s.deriveLine i).FirstReads i p d s.pins[i] := by
  have hpin : s.pinLine i = lineState p s.pins[i] := by rw [State.pinLine, hin]; rfl
  rw [State.firstReads_iff, ← hpin]
  cases hl : s.pinLine i with
  | false =>
    rw [State.deriveLine_of_same (by rw [hin, hl]; rfl), hin, hsrc]
    simp [Input.fresh, Source.fresh]
  | true =>
    have hs : s.pinLine i ≠ (s.trip.inputs[i]).line := by rw [hin, hl]; exact Bool.noConfusion
    have hc : s.pinLine i ≠ (s.trip.sources[sourceOfInput i]).condition := by
      rw [hsrc, hl]; exact Bool.noConfusion
    by_cases hd : d = 0
    · rw [State.deriveLine_of_immediate hs hc (by rw [hin]; exact hd), hl]
      generalize ht : s.setTrip (s.trip.putInput i { s.trip.inputs[i] with line := true, timer := some 0 }) = t
      have htin : t.trip.inputs[i] = ⟨p, d, true, some 0⟩ := by rw [← ht, State.setTrip_trip, TripUnit.putInput_get_self, hin]; rfl
      have htaken := t.takeLine_taken i
      rw [htin] at htaken
      have htsrc : (t.setTrip (t.trip.putInput i ⟨p, d, true, none⟩)).trip.sources[sourceOfInput i] = Source.fresh a := by
        rw [← hsrc, ← ht]
        rfl
      obtain ⟨hstate, hcount⟩ := htaken.activated (by rw [htsrc]; rfl) rfl
      refine ⟨?_, fun _ => ⟨htaken.condition_eq, hstate, hcount.trans (by rw [htsrc]; rfl)⟩, fun hno => absurd ⟨rfl, hd⟩ hno⟩
      rw [Fin.getElem_fin, State.takeLine_inputs, Vector.getElem_set_self, htin]
      simp [hd]
    · rw [State.deriveLine_of_differs hs hc (by rw [hin]; exact hd), hl, State.setTrip_trip, TripUnit.putInput_get_self, hin]
      refine ⟨by simp [Input.fresh, hd], fun hno => absurd hno.2 hd, fun _ => ?_⟩
      have hkept : (s.trip.putInput i { Input.fresh p d with line := true, timer := some 0 }).sources[sourceOfInput i] =
        Source.fresh a := hsrc
      rw [hkept]
      exact ⟨rfl, rfl, rfl⟩

end

/-- The lines of `l` read in turn leave the other inputs and every source that is none of theirs. -/
theorem State.deriveLines_others {l : List (Fin 8)} (s : State) :
    (l.foldl State.deriveLine s).pins = s.pins ∧
    (∀ j : Fin 15, (∀ i ∈ l, j ≠ sourceOfInput i) → (l.foldl State.deriveLine s).trip.sources[j] = s.trip.sources[j]) ∧
    ∀ j, j ∉ l → (l.foldl State.deriveLine s).trip.inputs[j] = s.trip.inputs[j] := by
  induction l generalizing s with
  | nil => exact ⟨rfl, fun _ _ => rfl, fun _ _ => rfl⟩
  | cons i rest ih =>
    obtain ⟨hpins, hsources, hinputs⟩ := ih (s.deriveLine i)
    refine ⟨hpins.trans (s.deriveLine_pins i), fun j hj => ?_, fun j hj => ?_⟩
    · rw [List.foldl_cons, hsources j fun k hk => hj k (List.mem_cons_of_mem i hk)]
      exact State.deriveLine_others (hj i List.mem_cons_self)
    · obtain ⟨hne, hrest⟩ := List.ne_and_not_mem_of_not_mem_cons hj
      rw [List.foldl_cons, hinputs j hrest, State.deriveLine_inputs hne]

theorem sourceOfInput_ne {i j : Fin 8} (h : i ≠ j) : sourceOfInput i ≠ sourceOfInput j := fun e =>
  h (Fin.ext (show (sourceOfInput i).val = (sourceOfInput j).val by rw [e]))

/-- The lines of `l` read in turn on fresh inputs whose sources stand CLEAR. -/
theorem State.deriveLines_firstRead {l : List (Fin 8)} (hl : l.Nodup) {s : State} {i : Fin 8} (hi : i ∈ l) {p : Polarity} {d : Nat}
    {a : Action} (hin : s.trip.inputs[i] = Input.fresh p d) (hsrc : s.trip.sources[sourceOfInput i] = Source.fresh a) :
    (l.foldl State.deriveLine s).FirstReads i p d s.pins[i] := by
  induction l generalizing s with
  | nil => exact absurd hi List.not_mem_nil
  | cons k rest ih =>
    obtain ⟨hk, hnodup⟩ := List.nodup_cons.1 hl
    by_cases he : i = k
    · subst he
      obtain ⟨-, hsources, hinputs⟩ := State.deriveLines_others (l := rest) (s.deriveLine i)
      refine (State.deriveLine_firstReads hin hsrc).of_eq (hinputs i hk) (hsources _ fun j hj => ?_)
      exact sourceOfInput_ne (by rintro rfl; exact hk hj)
    · have hread := ih hnodup ((List.mem_cons.1 hi).resolve_left he) (s := s.deriveLine k)
        ((State.deriveLine_inputs he).trans hin) ((State.deriveLine_others (sourceOfInput_ne he)).trans hsrc)
      rw [State.deriveLine_pins] at hread
      exact hread

theorem State.readInputs_eq (s : State) : s.readInputs = [0, 1, 2, 3, 4, 5, 6, 7].foldl State.deriveLine s := rfl

theorem mem_lines (i : Fin 8) : i ∈ ([0, 1, 2, 3, 4, 5, 6, 7] : List (Fin 8)) := by
  revert i
  decide

/-- The first reading of all eight lines (R148). -/
theorem State.readInputs_firstReads {s : State} {i : Fin 8} {p : Polarity} {d : Nat} {a : Action}
    (hin : s.trip.inputs[i] = Input.fresh p d) (hsrc : s.trip.sources[sourceOfInput i] = Source.fresh a) :
    s.readInputs.FirstReads i p d s.pins[i] := by
  rw [s.readInputs_eq]
  exact State.deriveLines_firstRead (by decide) (mem_lines i) hin hsrc

/-- The first reading leaves the sources that no input has. -/
theorem State.readInputs_others {s : State} {j : Fin 15} (h : 8 ≤ j) : s.readInputs.trip.sources[j] = s.trip.sources[j] := by
  obtain ⟨-, hothers, -⟩ := State.deriveLines_others (l := [0, 1, 2, 3, 4, 5, 6, 7]) s
  have hi (i : Fin 8) : sourceOfInput i < 8 := i.isLt
  rw [s.readInputs_eq]
  exact hothers j fun i _ => ne_of_gt (lt_of_lt_of_le (hi i) h)

/-! ## Bus start (R140) -/

theorem State.startBus_get (s : State) (k : Slot) : s.startBus.bus.get k = SlotState.reset (s.settings.params.slotActive k) := by
  cases k <;> rfl

theorem State.startBus_openFrame (s : State) : s.startBus.TripStands s.startBus.openFrame :=
  State.openFrame_tripStands fun k => by rw [s.startBus_get]; rfl

/-- Bus start leaves the inputs and their sources. -/
theorem State.FirstReads.busStart {s : State} {i : Fin 8} {p : Polarity} {d : Nat} {high : Bool} (h : s.FirstReads i p d high) :
    s.busStart.FirstReads i p d high := by
  have hleaves : s.LeavesInputs s.busStart :=
    s.startBus.beginFrame_leaves.after s.startBus_openFrame.1
  exact h.of_eq (by simp) (hleaves (sourceOfInput i) i.isLt)

end Sys2Proof.Machine
end


section
/-! SUPPORT. The settings load of start-up (R190, R191): where the working set comes from, what it is, and what the steps after it leave of
it. -/

namespace Sys2Proof.Machine

/-! ## What a frame begin leaves of a machine that rests -/

/-- The feed of the tail stands: only a flush sets the tail in a frame, and it keeps the feed (R21). -/
theorem State.beginFrame_tailFeed (s : State) : s.beginFrame.queue.tail.feed = s.queue.tail.feed := by
  have hwork : s.frameWork.queue.tail.feed = s.queue.tail.feed := by simp [State.frameWork]
  have htimers : ∀ (t : State) (e : Engine) (st : StrokeState), (t.countTimers e st).queue.tail = t.queue.tail := fun t e st => by
    have hstart : t.countStart.queue = t.queue := by simp
    simp only [State.countTimers]
    repeat' split
    all_goals simp
  rw [State.beginFrame]
  simp only [State.sendFrame_frame]
  rw [htimers, hwork]

/-- In IDLE no record is active, and f_set is the air frequency (R64, R90). -/
theorem State.derivedFrequency_of_idle {s : State} (he : s.seq.engine = .idle) :
    s.derivedFrequency = s.settings.params.airFreq := by
  have hnone : s.activeRecord = none := by simp [State.activeRecord, he, Engine.holdsSegment]
  rw [State.derivedFrequency, hnone]

/-- A frame that begins in IDLE (R127). -/
theorem State.beginFrame_of_idle {s : State} (he : s.seq.engine = .idle) :
    s.SameProgram s.beginFrame ∧ s.beginFrame.stroke.fSet = s.settings.params.airFreq := by
  have hsteps : s.seq.engine.steps = false := by rw [he]; rfl
  have hpivots : s.seq.engine.pivots = false := by rw [he]; rfl
  have hprogrammed : s.programmed = s.frameWork :=
    State.programTimers_of_calm _ (by rw [he]; decide) (by rw [he]; decide)
  have hsame := (State.frameWork_of_still hsteps hpivots).trans (hprogrammed ▸ s.beginFrame_programmed)
  have hworked : s.SameProgram s.worked := by
    rw [State.worked_of_still hsteps hpivots]
    exact s.openFrame_sameProgram.trans (State.frameReport_sameProgram _ _ _)
  refine ⟨hsame, ?_⟩
  have hsend : s.timed.sendFrame.stroke = s.timed.stroke := by simp
  rw [s.beginFrame_timed, hsend, s.timed_fSet, State.derivedFrequency_of_idle (hworked.engine.trans he), hworked.settings]

/-! ## Where the working set comes from (R190) -/

/-- The first case that applies. -/
theorem loadSource_spec (safeNHigh : Bool) (acked : Nat) (image : List Byte) :
    (safeNHigh = false → loadSource safeNHigh acked image = .defaultSafe) ∧
    (safeNHigh = true →
      (acked < 4 → loadSource safeNHigh acked image = .defaultAbsent) ∧
      (4 ≤ acked → (crc16 (image.take 228)).toNat ≠ readNat image 228 2 → loadSource safeNHigh acked image = .defaultBadCheck) ∧
      (4 ≤ acked → (crc16 (image.take 228)).toNat = readNat image 228 2 →
        (ImageGood image → loadSource safeNHigh acked image = .stored) ∧
        (¬ ImageGood image → loadSource safeNHigh acked image = .defaultBadData))) := by
  refine ⟨fun h => by rw [h]; rfl, fun h => ?_⟩
  subst h
  have hcrc : imageCrcGood image = true ↔ (crc16 (image.take 228)).toNat = readNat image 228 2 := by simp [imageCrcGood]
  have hafter (ha : 4 ≤ acked) : loadSource true acked image =
      if !imageCrcGood image then .defaultBadCheck
      else if !(imageHeaderGood image && imageDataGood image) then .defaultBadData else .stored := by
    rw [loadSource, if_neg (by decide), if_neg (Nat.not_lt.2 ha)]
  refine ⟨fun ha => ?_, fun ha hc => ?_, fun ha hc => ⟨fun hg => ?_, fun hg => ?_⟩⟩
  · rw [loadSource, if_neg (by decide), if_pos ha]
  · rw [hafter ha, Bool.eq_false_iff.2 (mt hcrc.1 hc)]
    rfl
  · rw [hafter ha, hcrc.2 hc, (imageGood_iff image).2 hg]
    rfl
  · rw [hafter ha, hcrc.2 hc, Bool.eq_false_iff.2 (mt (imageGood_iff image).1 hg)]
    rfl

/-- The working parameters that the load leaves. -/
def loadParams (source : SettingsSource) (image : List Byte) : Params := if source = .stored then imageParams image else Params.rom

/-- The ROM defaults are those of the table (R185). -/
theorem rom_get : (∀ n lo hi dflt, (n, lo, hi, dflt) ∈ parameterTable → Params.rom.get n = some dflt) ∧
    ∀ n, n < 4 → Params.rom.get (29 + n) = some 0x20202020 := by
  constructor
  · have htable : ∀ r ∈ parameterTable, Params.rom.get r.1 = some r.2.2.2 := by decide
    exact fun n lo hi dflt h => htable _ h
  · decide

/-- The label as the image holds it (R187). -/
theorem imageParams_label (image : List Byte) {n : Nat} (h : n < 4) :
    (imageParams image).get (29 + n) = some (readInt image (212 + 4 * n)) := by
  interval_cases n <;> rfl

/-- The band entries as the image holds them (R187). -/
theorem imageBands_get (image : List Byte) (j : Fin 8) : (imageBands image)[j] =
    ⟨readNat image (117 + 8 * j.val) 2, readNat image (119 + 8 * j.val) 2, readNat image (121 + 8 * j.val) 2,
      readNat image (123 + 8 * j.val) 2⟩ := by
  fin_cases j <;> rfl

/-- The inputs that the load leaves before they are read (R144, R190). -/
theorem State.fillWorkingSet_input (s : State) (acked : Nat) (image : List Byte) (i : Fin 8) :
    (s.fillWorkingSet acked image).trip.inputs[i] =
      if loadSource s.startup.safeNHigh acked image = .stored
      then Input.fresh (Polarity.ofByte (readByte image (196 + i.val))) (readByte image (204 + i.val)).toNat
      else Input.fresh .activeLow 10 := by
  have hindex : ∀ i : Fin 8, (#v[0, 1, 2, 3, 4, 5, 6, 7] : Vector Nat 8)[i] = i.val := by decide
  by_cases h : loadSource s.startup.safeNHigh acked image = .stored
  · simp only [State.fillWorkingSet, h, if_true, State.setTrip_trip, imageInputs, Fin.getElem_fin, Vector.getElem_map]
    exact congrArg (fun n => Input.fresh (Polarity.ofByte (readByte image (196 + n))) (readByte image (204 + n)).toNat) (hindex i)
  · simp [State.fillWorkingSet, h, romInputs]

/-- The code of an action that a good image holds is its byte. -/
theorem Action.ofCode_code {b : Byte} (h : b.toNat ≤ 4) : (Action.ofCode b.toNat).code = b := by
  have hcases : ∀ n ≤ 4, (Action.ofCode n).code.toNat = n := by decide
  exact BitVec.eq_of_toNat_eq (hcases _ h)

/-! ## Steps 2 to 4 of start-up (R191) -/

/-- The first frame after bus start has the count 0 (R140). -/
theorem State.busStart_bus (s : State) : s.busStart.bus.started = true ∧ s.busStart.bus.frameCount = 0 := by
  have hcount : s.startBus.beginFrame.bus.frameCount = s.startBus.timed.bus.frameCount := by
    rw [State.beginFrame_timed]
    simp
  refine ⟨by simp [State.busStart, State.startBus], ?_⟩
  rw [State.busStart, hcount, State.timed_frameCount]
  show (255 : Byte) + 1 = 0
  decide

theorem State.enableLink_spec (s : State) : s.enableLink.link = { s.link with receiver := .hunt, gap := 0 } ∧
    s.enableLink.startup = { s.startup with phase := .started } ∧
    (s.notice.engineState = none →
      s.enableLink.notice.engineState = some ⟨⟨.idle, .idle, .request, none⟩, 1⟩) ∧
    (s.notice.engineState ≠ none → s.enableLink.notice.engineState = s.notice.engineState) := by
  cases h : s.notice.engineState with
  | none =>
    simp only [State.enableLink, h]
    exact ⟨rfl, rfl, fun _ => congrArg (Pending.coalesce · _) h, fun hno => absurd rfl hno⟩
  | some c =>
    simp only [State.enableLink, h]
    exact ⟨rfl, rfl, nofun, fun _ => h⟩

section
variable (s : State) (acked : Nat) (image : List Byte)

theorem State.endLoad_kept :
    (s.endLoad acked image).settings = ⟨loadParams (loadSource s.startup.safeNHigh acked image) image,
      loadSource s.startup.safeNHigh acked image, decide (1 ≤ acked), .idle, none⟩ ∧
    (s.endLoad acked image).classifier.bands =
      (if loadSource s.startup.safeNHigh acked image = .stored then imageBands image else romBands) ∧
    (s.endLoad acked image).classifier.material = (loadParams (loadSource s.startup.safeNHigh acked image) image).entryBand ∧
    (s.endLoad acked image).queue.tail.feed = (loadParams (loadSource s.startup.safeNHigh acked image) image).defaultFeed ∧
    (s.endLoad acked image).bus.started = true ∧ (s.endLoad acked image).bus.frameCount = 0 ∧
    (s.endLoad acked image).link = { s.link with receiver := .hunt, gap := 0 } ∧
    (s.endLoad acked image).startup = { s.startup with phase := .started } := by
  have hbus := (((s.fillWorkingSet acked image).takeWorkingSet).readInputs).busStart_bus
  have hlink := ((((s.fillWorkingSet acked image).takeWorkingSet).readInputs).busStart).enableLink_spec
  have htail : ((((s.fillWorkingSet acked image).takeWorkingSet).readInputs).busStart).queue.tail.feed =
      ((s.fillWorkingSet acked image).takeWorkingSet).queue.tail.feed := by
    rw [State.busStart, State.beginFrame_tailFeed]
    simp
  simp only [State.endLoad, State.enableLink_frame, htail, hlink.1, hlink.2.1, State.busStart_frame, State.readInputs_frame]
  exact ⟨by simp; rfl, by simp; rfl, rfl, rfl, hbus.1, hbus.2, by simp, by simp⟩

theorem State.endLoad_firstReads {p : Polarity} {d : Nat} (i : Fin 8)
    (hin : (s.fillWorkingSet acked image).trip.inputs[i] = Input.fresh p d) :
    (s.endLoad acked image).FirstReads i p d s.pins[i] := by
  have hpins : ((s.fillWorkingSet acked image).takeWorkingSet).pins = s.pins := by simp
  have hread := State.readInputs_firstReads (s := (s.fillWorkingSet acked image).takeWorkingSet) (i := i) hin
    (s.fillWorkingSet_source acked image (sourceOfInput i))
  rw [hpins] at hread
  exact hread.busStart.of_eq (by simp [State.endLoad]) (by simp [State.endLoad])

theorem State.endLoad_action (i : Fin 15) : ((s.endLoad acked image).trip.sources[i]).action =
    if loadSource s.startup.safeNHigh acked image = .stored
      then Action.ofCode (readByte image (181 + i.val)).toNat else romActions[i] := by
  rw [(s.endLoad_handed acked image).actions i]
  exact congrArg Source.action (s.fillWorkingSet_source acked image i)

theorem State.endLoad_idle (he : s.seq.engine = .idle) :
    (s.endLoad acked image).stroke.fSet = (loadParams (loadSource s.startup.safeNHigh acked image) image).airFreq ∧
    (s.notice.engineState = none →
      (s.endLoad acked image).notice.engineState = some ⟨⟨.idle, .idle, .request, none⟩, 1⟩) ∧
    (s.notice.engineState ≠ none → (s.endLoad acked image).notice.engineState = s.notice.engineState) := by
  generalize hr : ((s.fillWorkingSet acked image).takeWorkingSet).readInputs = r
  have hengine : r.startBus.seq.engine = .idle := by rw [← hr]; simpa using he
  have hnotice : r.startBus.notice.engineState = s.notice.engineState := by rw [← hr]; simp
  have hset : r.startBus.settings.params = loadParams (loadSource s.startup.safeNHigh acked image) image := by
    rw [← hr]
    simp
    rfl
  obtain ⟨hsame, hfreq⟩ := State.beginFrame_of_idle hengine
  have hload : s.endLoad acked image = r.startBus.beginFrame.enableLink := by rw [← hr]; rfl
  obtain ⟨-, -, hsets, hstands⟩ := r.startBus.beginFrame.enableLink_spec
  rw [hsame.engineState, hnotice] at hsets hstands
  rw [hload]
  exact ⟨by rw [← hset, ← hfreq]; simp, hsets, hstands⟩

end

/-- Settles O14, by the source of the working set and the stages of the load. -/
theorem settingsLoadFillsWorkingSet : Obligations.SettingsLoadFillsWorkingSet := by
  refine ⟨fun acked image s hp => ?_, fun acked image s hp => by rw [exec_settingsLoad, if_neg hp]⟩
  obtain ⟨hsafe, hcases⟩ := loadSource_spec s.startup.safeNHigh acked image
  obtain ⟨hset, hbands, hmaterial, htail, hstarted, hcount, hlink, hstartup⟩ := s.endLoad_kept acked image
  have haction := s.endLoad_action acked image
  have hinput := s.fillWorkingSet_input acked image
  have hgood := imageGood_of_stored (safe := s.startup.safeNHigh) (acked := acked) (image := image)
  have hreads (i : Fin 8) {p : Polarity} {d : Nat} := s.endLoad_firstReads acked image (p := p) (d := d) i
  have hidle := s.endLoad_idle acked image
  have hexec : exec (.settingsLoad acked image) s = .next (s.endLoad acked image).commit := by rw [exec_settingsLoad, if_pos hp]
  have hwire : (s.endLoad acked image).commit.twoWire = [] := by
    rw [State.commit_twoWire, State.twoWireOf, hstartup, hset]
  generalize s.endLoad acked image = u at *
  generalize loadSource s.startup.safeNHigh acked image = source at *
  refine ⟨source, loadParams source image, u, hexec, hsafe, hcases, hset, fun hs => ?_, fun hs => ?_, htail,
    fun he => (hidle he).1, hmaterial, hstarted, hcount, hlink, hstartup, hwire, fun he => (hidle he).2.1, fun he => (hidle he).2.2⟩
  · have himage := hgood hs
    obtain ⟨-, -, -, -, -, -, -, -, -, hcodes, hinputs⟩ := id himage
    have hparams : loadParams source image = imageParams image := if_pos hs
    rw [hparams]
    refine ⟨imageParams_get image himage, fun n hn => imageParams_label image hn, fun j => ?_, fun i => ?_, fun i => ?_⟩
    · rw [hbands, if_pos hs]
      exact imageBands_get image j
    · rw [haction i, if_pos hs]
      exact Action.ofCode_code (hcodes i.val i.isLt).1
    · exact hreads i ((hinput i).trans (if_pos hs))
  · have hparams : loadParams source image = Params.rom := if_neg hs
    rw [hparams]
    refine ⟨rom_get.1, rom_get.2, ?_, fun i => ?_, fun i => ?_⟩
    · rw [hbands, if_neg hs]
      rfl
    · rw [haction i, if_neg hs]
      revert i
      decide
    · exact hreads i ((hinput i).trans (if_neg hs))

end Sys2Proof.Machine
end


section
/-! SUPPORT. A host RESET that takes effect (R175): its report, the lines first read, and bus start on a machine at rest (R140, R141). -/

namespace Sys2Proof.Machine

/-! ## Bus start on a machine at rest (R140) -/

/-- A machine whose blocks stand at their values after a reset, but for the lines read since. -/
structure State.AtRest (s : State) : Prop where
  engine : s.seq.engine = .idle
  interp : s.interp = Interpolator.reset
  stroke : s.stroke = StrokeUnit.reset s.settings.params

section
variable {s : State} (h : s.AtRest)
include h

theorem State.AtRest.still : s.startBus.stroke.state ∈ [StrokeState.stopped, .running, .stalled] := by
  have hstopped : s.startBus.stroke.state = .stopped := congrArg StrokeUnit.state h.stroke
  rw [hstopped]
  decide

/-- The frame of bus start moves neither the program nor a source (R140). -/
theorem State.AtRest.busStart_idle : s.startBus.SameProgram s.busStart ∧ s.startBus.TripStands s.busStart := by
  obtain ⟨hsame, htrip⟩ := State.beginFrame_idle (s := s.startBus) h.engine h.still fun j _ => by
    rw [State.openFrame_get, State.startBus_get]
    simp only [SlotState.opened]
    split_ifs <;> simp [SlotState.reset]
  exact ⟨hsame, s.startBus_openFrame.trans htrip⟩

theorem State.AtRest.worked : s.startBus.worked.stroke = s.stroke ∧ s.startBus.worked.seq.engine = .idle ∧
    s.startBus.worked.interp = s.interp ∧ s.startBus.worked.settings = s.settings := by
  have hwindow : s.stroke.window = none := congrArg StrokeUnit.window h.stroke
  have hreport : ({ s.stroke with window := s.stroke.window.map (·.take 0 false) } : StrokeUnit) = s.stroke := by
    rw [hwindow, Option.map_none, ← hwindow]
  obtain ⟨-, hinterp, hengine, -, -, -, -, -, -, -, hset, -⟩ := s.startBus.openFrame_sameProgram
  rw [State.worked_of_idle (s := s.startBus) h.engine]
  refine ⟨?_, hengine.trans h.engine, hinterp, hset⟩
  have hopen : s.startBus.openFrame.stroke = s.stroke := by simp
  rw [State.reportWindow, State.setStroke_stroke, hopen, hreport]

/-- f_set is the air frequency, as it stands (R90). -/
theorem State.AtRest.deriveFSet : s.startBus.worked.deriveFSet.stroke = s.stroke := by
  obtain ⟨hstroke, hengine, -, hset⟩ := h.worked
  have hfreq : s.stroke.fSet = s.settings.params.airFreq := congrArg StrokeUnit.fSet h.stroke
  have hderived : s.startBus.worked.deriveFSet.stroke =
      { s.startBus.worked.stroke with fSet := s.startBus.worked.derivedFrequency } := rfl
  rw [hderived, State.derivedFrequency_of_idle hengine, hset, ← hfreq, hstroke]

theorem State.AtRest.busStart_stroke : s.busStart.stroke = s.stroke ∧ s.busStart.classifier = s.classifier := by
  have hsend : s.startBus.timed.sendFrame.stroke = s.startBus.timed.stroke ∧
      s.startBus.timed.sendFrame.classifier = s.startBus.timed.classifier := by simp
  rw [State.busStart, State.beginFrame_timed, hsend.1, hsend.2, State.timed_of_idle (s := s.startBus) h.engine h.still]
  refine ⟨?_, by simp⟩
  rw [State.frameWork_eq, State.takeSetpoints_frame s.startBus.worked.deriveFSet |>.2.2.2.2.2.2.2.1]
  exact h.deriveFSet

/-- Each slot's setpoint of the first frame is 0 (R129). -/
theorem State.AtRest.setpointOf (k : Slot) : s.startBus.worked.deriveFSet.setpointOf k = 0 := by
  have hinterp : s.startBus.worked.deriveFSet.interp = Interpolator.reset := (h.worked.2.2.1).trans h.interp
  have hstroke := h.deriveFSet.trans h.stroke
  cases k <;> simp only [State.setpointOf, hinterp, hstroke] <;> rfl

theorem State.AtRest.timed_get (k : Slot) :
    s.startBus.timed.bus.get k = SlotState.reset (s.settings.params.slotActive k) := by
  rw [State.timed_get, State.startBus_get, h.setpointOf]
  show ((SlotState.reset (s.settings.params.slotActive k)).opened (s.settings.params.slotActive k) (k == .s)).fix 0 = _
  cases s.settings.params.slotActive k <;> rfl

/-- The first record has its enable off: no axis is adopted, and the stroke is STOPPED (R91, R130). -/
theorem State.AtRest.enableOf (k : Slot) (l : List Byte) :
    (s.startBus.timed.setBus { s.startBus.timed.bus with line := l }).enableOf k = false := by
  have hadopted (j : Slot) : (s.startBus.timed.bus.get j).adopted = false := by rw [h.timed_get j]; rfl
  have hstroke : s.startBus.timed.stroke.enable = false := by
    have hsame : s.busStart.stroke = s.startBus.timed.stroke := by
      rw [State.busStart, State.beginFrame_timed]
      simp
    rw [← hsame, h.busStart_stroke.1, h.stroke]
    rfl
  cases k
  · have hx : s.startBus.timed.bus.x.adopted = false := hadopted .x
    simp [State.enableOf, hx]
  · have hy : s.startBus.timed.bus.y.adopted = false := hadopted .y
    simp [State.enableOf, hy]
  · have hh : s.startBus.timed.bus.h.adopted = false := hadopted .h
    simp [State.enableOf, hh]
  · simp [State.enableOf, hstroke]

/-- The slots after bus start: at the values of R140, the first active one sent a record of 0 with enable off. -/
theorem State.AtRest.busStart_get (k : Slot) : s.busStart.bus.get k = { SlotState.reset (s.settings.params.slotActive k) with
    sentNow := if [Slot.x, .y, .h, .s].find? s.settings.params.slotActive = some k then some ⟨0, false⟩ else none } := by
  have hactive : ∀ l, ([Slot.x, .y, .h, .s].find? fun j =>
      ((s.startBus.timed.setBus { s.startBus.timed.bus with line := l }).bus.get j).active) =
      [Slot.x, .y, .h, .s].find? s.settings.params.slotActive := fun l => by
    simp only [State.setLine_get]
    exact s.startBus.timed_find _
  rw [State.busStart, State.beginFrame_timed, State.sendFrame]
  by_cases hk : [Slot.x, .y, .h, .s].find? s.settings.params.slotActive = some k
  · rw [State.sendFirstOf_of_some ((hactive _).trans hk), State.sendSlot_get, h.enableOf, State.setLine_get, h.timed_get, if_pos hk]
    simp [SlotState.reset]
  · rw [State.sendFirstOf_get_of_ne (by rw [hactive]; exact hk), State.setLine_get, h.timed_get, if_neg hk]
    rfl

end

theorem State.busStart_window (s : State) : s.busStart.bus.opening = none ∧
    s.busStart.bus.window = ([Slot.x, .y, .h, .s].find? s.settings.params.slotActive).map (⟨·, false⟩) := by
  refine ⟨?_, s.startBus.beginFrame_window⟩
  have hopen : s.startBus.openFrame.bus.opening = none := by simp [State.openFrame_eq, State.counted]
  have htimed : s.startBus.timed.bus.opening = s.startBus.openFrame.bus.opening := by
    simp [State.timed_eq, State.frameWork_eq, State.worked, State.stepped]
  rw [State.busStart, State.beginFrame_timed, ← hopen, ← htimed]
  simp

/-- Where a return of the old frame could still come the first window is held back (R141). -/
theorem Bus.holdWindow_spec (b : Bus) (hopen : b.opening = none) {first : Option Slot} (hw : b.window = first.map (⟨·, false⟩)) :
    b.holdWindow = { b with window := none, opening := first.map (⟨·, 225⟩) } := by
  cases first with
  | none =>
    obtain ⟨started, frameCount, level, x, y, h, s, window, opening, line, changes⟩ := b
    subst hopen hw
    rfl
  | some k =>
    rw [Bus.holdWindow, hw]
    rfl

theorem Bus.returnAwaited_iff (b : Bus) : b.returnAwaited = true ↔ b.opening ≠ none ∨ ∃ k, b.window = some ⟨k, false⟩ := by
  rw [Bus.returnAwaited, Bool.or_eq_true, Option.isSome_iff_ne_none, or_comm]
  refine or_congr Iff.rfl ?_
  cases b.window with
  | none => simp
  | some w =>
    obtain ⟨k, answered⟩ := w
    cases answered <;> simp

/-! ## The report of the reset (R88, R175, R193) -/

/-- The blocks after REQ, with the record of the state left, before the transmitter chooses. -/
def State.reqReported (s : State) : State :=
  ((s.resetBlocks.setNotice s.notice.cleared).setLink { s.link with
    receiver := .hunt, gap := 0, inbox := [], reply := none, transmitter := .free, sequence := 0
    resetPending := false }).noteIdle s.seq.engine

theorem State.reqCleared_eq (s : State) : s.reqCleared = s.reqReported.offerTransmit := rfl

theorem State.reqReported_notice (s : State) : s.reqReported.notice =
    ⟨none, some ⟨⟨.idle, s.seq.engine, .request, none⟩, 1⟩, none, none, none, none, none, s.notice.enables, .trip⟩ := rfl

/-- With ENGINE_STATE alone pending the choice is that class, where enabled (R183). -/
theorem NoticeUnit.choose_engineState {n : NoticeUnit} (hp : ∀ c, n.isPending c = decide (c = .engineState)) (hl : n.lastSent = .trip)
    (rotating : Bool) : n.choose rotating = if n.enables.getLsbD 1 then some .engineState else none := by
  have henabled : n.enabled .engineState = n.enables.getLsbD 1 := rfl
  have hcandidate (c : NoticeClass) : n.candidate c = (decide (c = .engineState) && n.enables.getLsbD 1) := by
    rw [NoticeUnit.candidate, hp]
    by_cases hc : c = .engineState
    · subst hc
      rw [henabled, Bool.and_comm]
    · simp [hc]
  generalize n.enables.getLsbD 1 = enabled at hcandidate ⊢
  cases enabled <;> cases rotating <;>
    simp [NoticeUnit.choose, NoticeUnit.searchOrder, hl, NoticeClass.all, NoticeClass.number, hcandidate]

theorem State.reqReported_chosen (s : State) :
    s.reqReported.chosenNotice = if s.notice.enables.getLsbD 1 then some .engineState else none := by
  have hbarred : s.reqReported.choiceBarred = false := rfl
  rw [State.chosenNotice, hbarred, if_neg (by decide),
    NoticeUnit.choose_engineState (fun c => by rw [s.reqReported_notice]; cases c <;> rfl) (by rw [s.reqReported_notice])]
  rfl

/-- After start-up, with its class enabled, the notice of the state left is the next frame sent. -/
theorem State.reqCleared_sent {s : State} (hp : s.startup.phase = .started) (he : s.notice.enables.getLsbD 1 = true) :
    s.reqCleared.notice = ⟨none, none, none, none, none, none, none, s.notice.enables, .engineState⟩ ∧
    s.reqCleared.link = { s.link with
      receiver := .hunt, gap := 0, inbox := [], reply := none, sequence := 1, resetPending := false
      transmitter := .notice (frameBytes 0x61 0 [1, 0, s.seq.engine.code, 0, 0, 0, 0, 0, 0, 0, 0, 0, 0, 0, 0, 0, 0, 0, 0]) } := by
  have hchosen : s.reqReported.chosenNotice = some .engineState := by rw [s.reqReported_chosen, if_pos he]
  rw [s.reqCleared_eq, State.offerTransmit_of_chosen (s := s.reqReported) hp rfl rfl hchosen]
  exact ⟨rfl, rfl⟩

/-- Else the record is pending and nothing is sent. -/
theorem State.reqCleared_pending {s : State} (h : ¬ (s.startup.phase = .started ∧ s.notice.enables.getLsbD 1 = true)) :
    s.reqCleared.notice =
      ⟨none, some ⟨⟨.idle, s.seq.engine, .request, none⟩, 1⟩, none, none, none, none, none, s.notice.enables, .trip⟩ ∧
    s.reqCleared.link = { s.link with
      receiver := .hunt, gap := 0, inbox := [], reply := none, transmitter := .free, sequence := 0, resetPending := false } := by
  have hnothing : s.reqReported.offerTransmit = s.reqReported := by
    by_cases hp : s.startup.phase = .started
    · have hchosen : s.reqReported.chosenNotice = none := by
        rw [s.reqReported_chosen, if_neg fun he => h ⟨hp, he⟩]
      exact State.offerTransmit_of_none (s := s.reqReported) hp rfl rfl hchosen
    · exact State.offerTransmit_of_not_started (s := s.reqReported) hp
  rw [s.reqCleared_eq, hnothing]
  exact ⟨rfl, rfl⟩

/-- The machine that bus start finds stands at rest. -/
theorem State.reqCleared_atRest (s : State) : s.reqCleared.readInputs.AtRest := by
  constructor
  case engine =>
    have hseq : s.reqCleared.seq.engine = .idle := by rw [s.reqCleared_seq]; rfl
    simpa using hseq
  case interp => simp [State.reqCleared, State.resetBlocks]
  case stroke => simp [State.reqCleared, State.resetBlocks, State.params]

/-! ## The slot sets while the lines are read (R144) -/

theorem State.deriveLine_slotSets (s : State) (i : Fin 8) :
    (s.deriveLine i).trip.faultSet = s.trip.faultSet ∧ (s.deriveLine i).trip.lostSet = s.trip.lostSet := by
  by_cases hs : s.pinLine i = (s.trip.inputs[i]).line
  · rw [State.deriveLine_of_same hs]
    exact ⟨rfl, rfl⟩
  by_cases hc : s.pinLine i = (s.trip.sources[sourceOfInput i]).condition
  · rw [State.deriveLine_of_equal hs hc]
    exact ⟨rfl, rfl⟩
  by_cases hd : (s.trip.inputs[i]).debounce = 0
  · rw [State.deriveLine_of_immediate hs hc hd]
    simp [State.takeLine]
  · rw [State.deriveLine_of_differs hs hc hd]
    exact ⟨rfl, rfl⟩

theorem State.deriveLines_slotSets (l : List (Fin 8)) (s : State) :
    (l.foldl State.deriveLine s).trip.faultSet = s.trip.faultSet ∧ (l.foldl State.deriveLine s).trip.lostSet = s.trip.lostSet := by
  induction l generalizing s with
  | nil => exact ⟨rfl, rfl⟩
  | cons i rest ih =>
    obtain ⟨hfault, hlost⟩ := ih (s.deriveLine i)
    exact ⟨hfault.trans (s.deriveLine_slotSets i).1, hlost.trans (s.deriveLine_slotSets i).2⟩

theorem State.readInputs_slotSets (s : State) :
    s.readInputs.trip.faultSet = s.trip.faultSet ∧ s.readInputs.trip.lostSet = s.trip.lostSet := by
  rw [s.readInputs_eq]
  exact State.deriveLines_slotSets _ s

/-! ## The reset whole -/

section
variable (s : State)

/-- The reset ends in bus start, with the first window held back where a return was awaited (R141). -/
theorem State.reqReset_bus : s.reqReset = s.reqCleared.readInputs.busStart.setBus (if s.bus.returnAwaited
    then s.reqCleared.readInputs.busStart.bus.holdWindow else s.reqCleared.readInputs.busStart.bus) := by
  rw [s.reqReset_eq]
  generalize s.reqCleared.readInputs.busStart = t
  cases s.bus.returnAwaited <;> rfl

/-- The blocks that only the reset itself and its report set. -/
theorem State.reqReset_blocks :
    s.reqReset.settings = s.settings ∧ s.reqReset.override = 100 ∧ s.reqReset.queue = CutQueue.reset s.settings.params ∧
    s.reqReset.seq.engine = .idle ∧ s.reqReset.seq.resume = none ∧ s.reqReset.seq.dwellCount = 0 ∧
    s.reqReset.seq.starve = .stopped ∧ s.reqReset.seq.interrupted = none ∧ s.reqReset.interp = Interpolator.reset ∧
    s.reqReset.stroke = StrokeUnit.reset s.settings.params ∧
    s.reqReset.classifier = Classifier.reset s.settings.params s.classifier.bands ∧
    s.reqReset.link = s.reqCleared.link ∧ s.reqReset.trip = s.reqCleared.readInputs.trip ∧
    s.reqReset.notice = s.reqCleared.readInputs.notice := by
  have hrest := s.reqCleared_atRest
  have hreset : s.reqCleared.readInputs.seq.engine = .idle ∧ s.reqCleared.readInputs.seq.resume = none ∧
      s.reqCleared.readInputs.seq.dwellCount = 0 ∧ s.reqCleared.readInputs.seq.starve = .stopped ∧
      s.reqCleared.readInputs.seq.interrupted = none := by
    have hcleared := s.reqCleared_seq
    simp only [State.readInputs_frame, hcleared]
    exact ⟨rfl, rfl, rfl, rfl, rfl⟩
  have hset : s.reqCleared.readInputs.settings = s.settings := by simp [State.reqCleared, State.resetBlocks]
  have hover : s.reqCleared.readInputs.override = 100 := by simp [State.reqCleared, State.resetBlocks]
  have hlink : s.reqCleared.readInputs.link = s.reqCleared.link := by simp
  have hqueue : s.reqCleared.readInputs.queue = CutQueue.reset s.settings.params := by
    simp [State.reqCleared, State.resetBlocks, State.params]
  have hclass : s.reqCleared.readInputs.classifier = Classifier.reset s.settings.params s.classifier.bands := by
    simp [State.reqCleared, State.resetBlocks, State.params]
  rw [s.reqReset_bus]
  generalize s.reqCleared.readInputs = r at *
  obtain ⟨hengine, hresume, hdwell, hstarve, hinterrupted⟩ := hreset
  obtain ⟨hsame, htrip, -, -, hnotice⟩ := hrest.busStart_idle
  obtain ⟨hstroke, hclassifier⟩ := hrest.busStart_stroke
  have hstart : r.stroke = StrokeUnit.reset s.settings.params := by rw [hrest.stroke, hset]
  have hframe : r.busStart.override = r.override ∧ r.busStart.link = r.link := by simp
  generalize r.busStart = t at *
  exact ⟨hsame.settings.trans hset, hframe.1.trans hover, hsame.queue.trans hqueue, hsame.engine.trans hengine,
    hsame.resume.trans hresume, hsame.dwell.trans hdwell, hsame.starve.trans hstarve, hsame.interrupted.trans hinterrupted,
    hsame.interp.trans hrest.interp, hstroke.trans hstart, hclassifier.trans hclass, hframe.2.trans hlink, htrip, hnotice⟩

/-- The trip unit after the reset: fresh sources, the lines first read (R144, R148). -/
theorem State.reqReset_trip :
    s.reqReset.trip.green = .off ∧ s.reqReset.trip.amber = .off ∧ s.reqReset.trip.red = .off ∧ s.reqReset.trip.blink = 0 ∧
    (∀ i : Fin 15, (s.reqReset.trip.sources[i]).action = (s.trip.sources[i]).action) ∧
    (∀ i : Fin 15, 8 ≤ i.val → s.reqReset.trip.sources[i] = ⟨(s.trip.sources[i]).action, false, .clear, 0⟩) ∧
    s.reqReset.trip.faultSet = 0 ∧ s.reqReset.trip.lostSet = 0 ∧ s.reqReset.trip.level = levelOf s.reqReset.trip.sources ∧
    ∀ i : Fin 8, s.reqReset.FirstReads i (s.trip.inputs[i]).polarity (s.trip.inputs[i]).debounce s.pins[i] := by
  obtain ⟨-, -, -, -, -, -, -, -, -, -, -, -, htrip, -⟩ := s.reqReset_blocks
  have hcleared := s.reqCleared_trip
  have hpins : s.reqCleared.pins = s.pins := by simp [State.reqCleared, State.resetBlocks]
  have hagrees : s.reqReset.LevelAgrees :=
    s.reqReset_handed.agrees (State.levelAgrees_of_clear (fun i => by rw [s.resetBlocks_source]; rfl) rfl)
  have hsource (i : Fin 15) : s.reqCleared.trip.sources[i] = Source.fresh (s.trip.sources[i]).action := by
    rw [hcleared]
    exact s.resetBlocks_source i
  have hinput (i : Fin 8) : s.reqCleared.trip.inputs[i] = Input.fresh (s.trip.inputs[i]).polarity (s.trip.inputs[i]).debounce := by
    rw [hcleared]
    simp [State.resetBlocks, TripUnit.reset]
  have hlamps : s.reqCleared.readInputs.trip.green = s.reqCleared.trip.green ∧
      s.reqCleared.readInputs.trip.amber = s.reqCleared.trip.amber ∧ s.reqCleared.readInputs.trip.red = s.reqCleared.trip.red ∧
      s.reqCleared.readInputs.trip.blink = s.reqCleared.trip.blink := by simp
  have hsets := s.reqCleared.readInputs_slotSets
  rw [hcleared] at hlamps hsets
  obtain ⟨hgreen, hamber, hred, hblink⟩ := hlamps
  obtain ⟨hfault, hlost⟩ := hsets
  refine ⟨by rw [htrip]; exact hgreen, by rw [htrip]; exact hamber, by rw [htrip]; exact hred, by rw [htrip]; exact hblink,
    fun i => ?_, fun i hi => ?_, by rw [htrip]; exact hfault, by rw [htrip]; exact hlost, hagrees, fun i => ?_⟩
  · rw [s.reqReset_handed.actions i, s.resetBlocks_source]
    rfl
  · rw [htrip, State.readInputs_others hi, hsource]
    rfl
  · have hread := State.readInputs_firstReads (hinput i) (hsource (sourceOfInput i))
    rw [hpins] at hread
    exact hread.of_eq (by rw [htrip]) (by rw [htrip])

theorem State.reqReset_busStands :
    s.reqReset.bus.started = true ∧ s.reqReset.bus.frameCount = 0 ∧ s.reqReset.bus.level = s.reqReset.trip.level ∧
    ∀ k : Slot, s.reqReset.bus.get k = { SlotState.reset (s.settings.params.slotActive k) with
      sentNow := if [Slot.x, .y, .h, .s].find? s.settings.params.slotActive = some k then some ⟨0, false⟩ else none } := by
  obtain ⟨-, -, -, -, -, -, -, -, -, -, -, -, htrip, -⟩ := s.reqReset_blocks
  have hset : s.reqCleared.readInputs.settings = s.settings := by simp [State.reqCleared, State.resetBlocks]
  have hrest := s.reqCleared_atRest
  rw [htrip, s.reqReset_bus]
  generalize s.reqCleared.readInputs = r at *
  have hget := hrest.busStart_get
  obtain ⟨hstarted, hcount⟩ := r.busStart_bus
  obtain ⟨hopen, hwindow⟩ := r.busStart_window
  have hlevel : r.busStart.bus.level = r.trip.level := by simp [State.busStart, State.startBus]
  rw [hset] at hget
  generalize r.busStart = t at *
  cases s.bus.returnAwaited with
  | false => exact ⟨hstarted, hcount, hlevel, hget⟩
  | true =>
    simp only [if_true, t.bus.holdWindow_spec hopen hwindow]
    exact ⟨hstarted, hcount, hlevel, fun k => (by cases k <;> rfl : _ = t.bus.get k).trans (hget k)⟩

/-- The first window is open, or held back where a return of the old frame could still come (R141). -/
theorem State.reqReset_window :
    (s.bus.returnAwaited = true → s.reqReset.bus.window = none ∧
      s.reqReset.bus.opening = ([Slot.x, .y, .h, .s].find? s.settings.params.slotActive).map (⟨·, 225⟩)) ∧
    (¬ s.bus.returnAwaited = true →
      s.reqReset.bus.window = ([Slot.x, .y, .h, .s].find? s.settings.params.slotActive).map (⟨·, false⟩) ∧
      s.reqReset.bus.opening = none) := by
  have hset : s.reqCleared.readInputs.settings = s.settings := by simp [State.reqCleared, State.resetBlocks]
  rw [s.reqReset_bus]
  generalize s.reqCleared.readInputs = r at *
  obtain ⟨hopen, hwindow⟩ := r.busStart_window
  rw [hset] at hwindow
  generalize r.busStart = t at *
  refine ⟨fun h => ?_, fun h => ?_⟩
  · rw [if_pos h, t.bus.holdWindow_spec hopen hwindow]
    exact ⟨rfl, rfl⟩
  · rw [if_neg h]
    exact ⟨hwindow, hopen⟩

/-- The lines first read set no record but TRIP's. -/
theorem State.reqReset_notice :
    s.reqReset.notice.enables = s.reqCleared.notice.enables ∧ s.reqReset.notice.engineState = s.reqCleared.notice.engineState ∧
    s.reqReset.notice.segmentDone = s.reqCleared.notice.segmentDone ∧ s.reqReset.notice.queueLow = s.reqCleared.notice.queueLow ∧
    s.reqReset.notice.band = s.reqCleared.notice.band ∧ s.reqReset.notice.tareDone = s.reqCleared.notice.tareDone ∧
    s.reqReset.notice.storeDone = s.reqCleared.notice.storeDone ∧ s.reqReset.notice.lastSent = s.reqCleared.notice.lastSent := by
  obtain ⟨-, -, -, -, -, -, -, -, -, -, -, -, -, hnotice⟩ := s.reqReset_blocks
  rw [hnotice]
  simp

end

theorem State.frameSent_of_reset {s : State} {frame : List Byte} (ht : s.link.transmitter = .reply frame)
    (hr : s.link.resetPending = true) :
    s.frameSent = (s.setLink { s.link with transmitter := .free, reply := none }).reqReset := by
  simp [State.frameSent, ht, hr]

/-- Settles O15. The reset sees only the reply sent and the slot freed; each block is read off the laws of the reset above. -/
theorem hostResetTakesEffectAtReplyEnd : Obligations.HostResetTakesEffectAtReplyEnd := by
  intro frame s ht hr first awaited
  rw [exec_transmitEnd, State.frameSent_of_reset ht hr]
  generalize hs1 : s.setLink { s.link with transmitter := .free, reply := none } = s1
  obtain ⟨hset, hover, hqueue, hengine, hresume, hdwell, hstarve, hinterrupted, hinterp, hstroke, hclass, hlink, -, -⟩ := s1.reqReset_blocks
  obtain ⟨hgreen, hamber, hred, hblink, haction, hhigh, hfault, hlost, hlevel, hinputs⟩ := s1.reqReset_trip
  obtain ⟨hstarted, hcount, hbuslevel, hslots⟩ := s1.reqReset_busStands
  obtain ⟨hheld, hopen⟩ := s1.reqReset_window
  obtain ⟨henables, hengineRecord, hsegment, hqueueLow, hband, htare, hstore, hlast⟩ := s1.reqReset_notice
  have hawait : s1.bus.returnAwaited = true ↔ awaited := by
    rw [s1.bus.returnAwaited_iff, ← hs1]
    rfl
  have hsent (hp : s.startup.phase = .started) (he : s.notice.enables.getLsbD 1 = true) :=
    State.reqCleared_sent (s := s1) (by rw [← hs1]; exact hp) (by rw [← hs1]; exact he)
  have hpending (h : ¬ (s.startup.phase = .started ∧ s.notice.enables.getLsbD 1 = true)) :=
    State.reqCleared_pending (s := s1) (by rw [← hs1]; exact h)
  have hcleared : s1.reqCleared.notice.enables = s.notice.enables ∧ s1.reqCleared.notice.segmentDone = none ∧
      s1.reqCleared.notice.queueLow = none ∧ s1.reqCleared.notice.band = none ∧ s1.reqCleared.notice.tareDone = none ∧
      s1.reqCleared.notice.storeDone = none := by
    by_cases h : s.startup.phase = .started ∧ s.notice.enables.getLsbD 1 = true
    · rw [(hsent h.1 h.2).1, ← hs1]
      exact ⟨rfl, rfl, rfl, rfl, rfl, rfl⟩
    · rw [(hpending h).1, ← hs1]
      exact ⟨rfl, rfl, rfl, rfl, rfl, rfl⟩
  obtain ⟨hcenables, hcsegment, hcqueueLow, hcband, hctare, hcstore⟩ := hcleared
  generalize s1.reqReset = u at *
  generalize s1.reqCleared = c at *
  subst hs1
  refine ⟨u, rfl, hset, hover, hqueue, hengine, hresume, hdwell, hstarve, hinterrupted, hinterp, hstroke, hclass, hgreen, hamber, hred,
    hblink, haction, hhigh, hfault, hlost, hlevel, hinputs, hstarted, hcount, hbuslevel, hslots, fun h => hheld (hawait.2 h),
    fun h => hopen fun hb => h (hawait.1 hb), henables.trans hcenables, hsegment.trans hcsegment, hqueueLow.trans hcqueueLow,
    hband.trans hcband, htare.trans hctare, hstore.trans hcstore, fun h => ?_, fun h => ?_⟩
  · obtain ⟨hnotice, hreported⟩ := hsent h.1 h.2
    exact ⟨hengineRecord.trans (by rw [hnotice]), hlast.trans (by rw [hnotice]), hlink.trans hreported⟩
  · obtain ⟨hnotice, hreported⟩ := hpending h
    exact ⟨hengineRecord.trans (by rw [hnotice]; rfl), hlast.trans (by rw [hnotice]), hlink.trans hreported⟩

end Sys2Proof.Machine
end
